-- ==== Sys2Proof/Word.lean ====
section
/-! DEFINITION. The word types of the Loongson 2F and their plainest arithmetic. -/

namespace Sys2Proof

/-- A byte (R12). -/
abbrev Byte := BitVec 8

/-- A word of 32 bits (R12). -/
abbrev Word := BitVec 32

/-- A doubleword of 64 bits (R12): general registers, virtual addresses, the program counter. -/
abbrev Dword := BitVec 64

/-- A register number of an instruction field. -/
abbrev Reg := BitVec 5

/-- The 32 bytes of one cache line (R74), byte `i` in bits `8i+7..8i`. -/
abbrev LineData := BitVec 256

end Sys2Proof
end

