-- ==== Sys2Proof/Config.lean ====
section
/-! DEFINITION. What an implementation fixes, and the values the manual leaves open.

The parameters of spec/92_eei_decisions.md section 2 that have a default are the fields of `Params`, plain data that
State carries and no step changes (notes/assumptions/31.md).  The host constants without a value and what the manual
leaves free are opaque constants, so that no proof can see their values (notes/assumptions/10.md). -/

namespace Sys2Proof.Config

/-! ### Parameters with a stated default (R8) -/

/-- The 24 instructions whose encodings the parameter `GS_OPCODES` gives (R186). -/
inductive GsName where
  | multg | dmultg | multug | dmultug | divg | ddivg | divug | ddivug | modg | dmodg | modug | dmodug
  | madd_s | madd_d | madd_ps | msub_s | msub_d | msub_ps
  | nmadd_s | nmadd_d | nmadd_ps | nmsub_s | nmsub_d | nmsub_ps
deriving DecidableEq, Repr

/-- One row of `GS_OPCODES`: the words whose masked bits are `bits` are this instruction. -/
structure GsRow where
  name : GsName
  mask : Word
  bits : Word
deriving DecidableEq, Repr

/-- The parameters of the platform and of the spec's decisions (R8; spec/92_eei_decisions.md section 2). -/
structure Params where
  /-- `eret_erl_uses_errorepc` (D3, R445): whether ERET with ERL = 1 takes ErrorEPC. -/
  eretErlUsesErrorEpc : Bool
  /-- `madd_fused` (D35, R589): whether the multiply-add families round once. -/
  maddFused : Bool
  /-- `GS_OPCODES` (D11, R186): a table that replaces that of R186; none keeps it. -/
  gsOpcodes : Option (List GsRow)
  /-- `GS_DIV0_RESULT` (D10, R291): the result of a Godson divide or modulo by zero. -/
  gsDiv0Result : Dword
  /-- `PRID_REV` (R46): bits 7:0 of PRID. -/
  pridRev : Byte
  /-- `INTERRUPT_LATENCY` (R670): how many instructions run between the interrupt condition and the exception. -/
  interruptLatency : Nat
  /-- `HAS_SOFT_RESET` (N49, R791): whether the platform can raise a soft reset. -/
  hasSoftReset : Bool
  /-- `DDR_SIZE` (R784): the bytes of DRAM fitted; none takes the size that R782 computes from the configuration. -/
  ddrSize : Option Nat
  /-- `DDR_INIT_DELAY` (D38, R774): instructions from START to ready. -/
  ddrInitDelay : Nat
  /-- The code the DDR2 compensation cell reports (R733). -/
  ddrCompensation : BitVec 7
  /-- The code the PCI compensation cell reports (R733). -/
  pciCompensation : BitVec 7
  /-- The code the 3.3 V compensation cell reports (R733). -/
  sysCompensation : BitVec 7
deriving DecidableEq, Repr

/-- Every parameter at its stated default; the compensation codes at the "typical" code 0b0001111 (R733). -/
def Params.default : Params where
  eretErlUsesErrorEpc := false
  maddFused := true
  gsOpcodes := none
  gsDiv0Result := 0
  pridRev := 0x02
  interruptLatency := 0
  hasSoftReset := false
  ddrSize := none
  ddrInitDelay := 0
  ddrCompensation := 0x0F
  pciCompensation := 0x0F
  sysCompensation := 0x0F

/-! ### Host constants without a value -/

/-- The strap pins lio_ad[15:0] (R730). -/
opaque lioAdPins : BitVec 16

/-- The strap pins pci_configi[7:0] (R730, R720). -/
opaque pciConfigPins : BitVec 8

/-- The strap pins sys_clksel[9:0] (R733). -/
opaque sysClkSelPins : BitVec 10

/-- `PCI_HDR_RESET` (R705): the words of the PCI header the manual gives no value for, by word number. -/
opaque pciHeaderReset : Nat → Word

/-! ### Free values -/

/-- The places at which the manual leaves a value open.  Each place draws its own free values. -/
inductive FreeUse where
  /-- HI after a division by zero (I17). -/
  | divHi
  /-- LO after a division by zero (I17). -/
  | divLo
  /-- A 64-bit read of an odd floating-point register with FR = 0 (I2); the index is the register. -/
  | fprOddRead
  /-- What a 64-bit write to an odd floating-point register with FR = 0 leaves (I2). -/
  | fprOddWrite
  /-- The upper half of a register after a single-precision write with FR = 1 (I19). -/
  | fprHigh
  /-- Index.Index after a probe that found nothing (I15). -/
  | probeIndex
  /-- A read of LLAddr (I21). -/
  | llAddr
  /-- The StateMod bits of Index Load Tag (R453). -/
  | stateMod
  /-- Cause.CE after an exception other than coprocessor unusable (R44). -/
  | causeCe
  /-- BadVAddr after an NMI or a soft reset (I23). -/
  | badVAddr
  /-- One byte of DDR2 read before initialisation completed (I31); the index is the address. -/
  | ddrNotReady
  /-- A read of the video acceleration region (I38). -/
  | videoRead
  /-- The data a PCI or Local IO device answers (R702). -/
  | deviceData
  /-- The syndrome and the source of an ECC error, whose encodings the manual does not give (R781). -/
  | eccReport
  /-- The bits of a doubleword that a bit error flips (R781); the index is the doubleword. -/
  | flippedBits
  /-- DLL_LOCK, the number of delay elements in a clock, when the DLL locks, and when it loses its lock (R777). -/
  | dllLock
  /-- The way a primary instruction cache fill replaces (R146). -/
  | icacheWay
  /-- The way a primary data cache fill replaces (R146). -/
  | dcacheWay
  /-- The way a secondary cache fill replaces (R146). -/
  | scacheWay
  /-- The ITLB entry a fill replaces (R72). -/
  | itlbEntry
  /-- The occurrences of the event performance counter 0 selects (I7). -/
  | event0
  /-- The occurrences of the event performance counter 1 selects (I7). -/
  | event1
  /-- Whether a clean fill leaves a line shared or exclusive (R76, R77). -/
  | fillState
  /-- One byte of a line that was dirty in the secondary cache when the cache was disabled (I37). -/
  | scacheLost
deriving DecidableEq, Repr

/-- The free value at a place: `stamp` is the counter State holds, `index` tells several values of one place in one
step apart.  It has no body: every statement holds whatever it answers. -/
opaque freeBits (stamp : Nat) (use : FreeUse) (index : Nat) : Dword

/-- The number of core clock cycles the step with this stamp takes (D6). -/
opaque cycles (stamp : Nat) : Nat

/-- How a read that leaves the chip ends (R702, R710, R716). -/
inductive BusReply where
  /-- A device answers; its data are a free value. -/
  | data
  /-- No device answers: master abort. -/
  | masterAbort
  /-- The target answers retry for ever. -/
  | retryForever
deriving DecidableEq, Repr, Inhabited

/-- How the PCI read at `addr` made in the step with this stamp ends (R702). -/
opaque busReply (stamp : Nat) (addr : Nat) : BusReply

end Sys2Proof.Config
end

