-- ==== Sys2Proof/Machine/State.lean ====
section
/-! DEFINITION. The state of the Loongson 2F as plain data, its state after reset, and the reasons a step can stop.

Every piece of state of spec/10_state.md, spec/61_platform_devices.md and spec/62_ddr2_controller.md has its field;
INVENTORY.md lists each with its rule and its reset value.  Reset values the spec does not give are the choices of
notes/assumptions/1.md to 9.md. -/

namespace Sys2Proof.Machine

/-! ### Exceptions -/

/-- The exceptions that R630 enters, with what each records (R620). -/
inductive Exc where
  /-- An enabled pending interrupt (R657). -/
  | interrupt
  /-- Address error on a store, or else on a load or a fetch (R641). -/
  | addressError (store : Bool) (va : Dword)
  /-- No TLB entry matches (R642). -/
  | tlbRefill (store : Bool) (va : Dword)
  /-- The matching page is not valid (R644). -/
  | tlbInvalid (store : Bool) (va : Dword)
  /-- A store to a page that is not dirty (R645). -/
  | tlbModified (va : Dword)
  /-- An error reply to a fetch, or else to a data read (R648). -/
  | busError (fetch : Bool)
  /-- Integer overflow (R649). -/
  | overflow
  /-- A conditional trap (R652). -/
  | trap
  /-- SYSCALL (R653). -/
  | syscall
  /-- BREAK (R654). -/
  | breakpoint
  /-- Reserved instruction (R650). -/
  | reservedInstruction
  /-- Coprocessor unusable, with the unit (R651). -/
  | coprocessorUnusable (unit : BitVec 2)
  /-- Floating-point exception (R655). -/
  | floatingPoint
  /-- Watch (R656). -/
  | watch
deriving DecidableEq, Repr

/-! ### Floating-point registers, CP0, TLB -/

/-- A floating-point register: the two 32-bit halves of its 64 bits (R26). -/
structure Fpr where
  hi : Word
  lo : Word
deriving DecidableEq, Repr

/-- The fields of Cause that are stored (R44).  IP6 to IP2 follow their sources and are read live. -/
structure CauseReg where
  bd : Bool
  ce : BitVec 2
  /-- IP7, the latch of the timer interrupt. -/
  timer : Bool
  /-- IP1 and IP0, the software interrupts. -/
  sw : BitVec 2
  excCode : BitVec 5
deriving DecidableEq, Repr

/-- The CP0 registers (R30).  PRID, Config[31:3] and LLAddr hold no state (R46, R47, R48). -/
structure Cp0 where
  indexP : Bool
  index : BitVec 6
  random : BitVec 6
  entryLo0 : Dword
  entryLo1 : Dword
  context : Dword
  pageMask : Word
  wired : BitVec 6
  badVAddr : Dword
  count : Word
  /-- A clock cycle that Count has not counted yet: Count counts every second one (R38). -/
  countPhase : Bool
  entryHi : Dword
  compare : Word
  status : Word
  cause : CauseReg
  epc : Dword
  k0 : BitVec 3
  watch : Dword
  xcontext : Dword
  diagnostic : Dword
  perfControl : Dword
  perf0 : Word
  perf1 : Word
  tagLo : Word
  tagHi : Word
  errorEpc : Dword
deriving DecidableEq, Repr

/-- One page of a TLB entry pair: E, PFN, C, D, V (R33, R70). -/
structure TlbPage where
  e : Bool
  pfn : BitVec 28
  c : BitVec 3
  d : Bool
  v : Bool
deriving DecidableEq, Repr

/-- One JTLB entry (R70). -/
structure TlbEntry where
  mask : BitVec 12
  r : BitVec 2
  vpn2 : BitVec 27
  g : Bool
  asid : BitVec 8
  even : TlbPage
  odd : TlbPage
deriving DecidableEq, Repr

/-- One ITLB entry: the translation of one page (R72). -/
structure ItlbEntry where
  r : BitVec 2
  /-- Virtual address bits 39:12. -/
  vpn : BitVec 28
  page : TlbPage
deriving DecidableEq, Repr

/-! ### Caches and the gather buffer -/

/-- A line of the primary instruction cache (R75). -/
structure ILine where
  tag : BitVec 28
  valid : Bool
  data : LineData
deriving DecidableEq, Repr

/-- A line of the primary data cache (R76): tag, state CS, the W bit, the secondary-cache way, 32 bytes. -/
structure DLine where
  tag : BitVec 28
  cs : BitVec 2
  w : Bool
  scset : BitVec 2
  data : LineData
deriving DecidableEq, Repr

/-- A line of the secondary cache (R77). -/
structure SLine where
  tag : BitVec 23
  state : BitVec 2
  data : LineData
deriving DecidableEq, Repr

/-- The uncached-accelerated gather buffer when it holds stores: the physical address of the first byte and the
bytes collected from there on (R78, R143). -/
structure Gather where
  first : BitVec 40
  /-- The size of the stores being collected: only stores of one type are collected together (R143). -/
  size : Nat
  bytes : List Byte
deriving DecidableEq, Repr

/-! ### Devices -/

/-- The lines that come into the chip, each at its electrical level (R79, R702). -/
structure Pins where
  /-- INT3 to INT0. -/
  int : BitVec 4
  /-- The four GPIO pins. -/
  gpio : BitVec 4
  /-- The four PCI interrupt lines. -/
  pciInt : BitVec 4
  perr : Bool
  serr : Bool
deriving DecidableEq, Repr

/-- One beat of a PCI master that can wait: for the controller to leave POWER_DOWN and SREFRESH (R775, R786), or, a
write, for an earlier read that waits (R717). -/
inductive DmaBeat where
  /-- Read `count` bytes of the memory at `addr` and hand them out as those of the bus address `busAddr`. -/
  | read (busAddr addr count : Nat)
  /-- Write bytes of the memory at `addr`. -/
  | write (addr : Nat) (bytes : List Byte)
  /-- Write the doubleword at `addr` in the configuration port (R771). -/
  | portWrite (addr : Nat) (bytes : List Byte)
  /-- Write bytes at `addr` of the I/O controller (R135). -/
  | ioWrite (addr : Nat) (bytes : List Byte)
deriving DecidableEq, Repr

/-- The DDR2 controller (R786): the 29 configuration registers and whether the memory is ready. -/
structure Ddr where
  ctl : Vector Dword 29
  ready : Bool
  /-- Instructions left until initialisation completes (R774). -/
  initLeft : Option Nat
  /-- ECC was switched off after an uncorrectable error (R781).  DESIGN CHOICE: no register shows it, and CTRL_RAW reads
  as software wrote it (notes/assumptions/40.md). -/
  eccOff : Bool
  /-- The bits that `DDR_BIT_ERROR` has flipped, by doubleword: 63:0 data, 71:64 check bits (R781); canonical. -/
  flips : List (Nat × BitVec 72)
  /-- Accesses of PCI masters that wait, oldest first (R717, R775). -/
  waiting : List DmaBeat
deriving DecidableEq, Repr

/-- The I/O controller: the 64 words of the PCI header (R705), the 64 words of the register block (R704), and the
pulse latches of the interrupt controller with the activity they compare against (R742). -/
structure Io where
  header : Vector Word 64
  regs : Vector Word 64
  pulse : BitVec 15
  lastActive : BitVec 15
deriving DecidableEq, Repr

/-- A request that leaves the chip (R702), or DMA data handed out. -/
inductive BusRequest where
  /-- A read of PCI memory. -/
  | pciMemRead (addr size : Nat)
  /-- A write of PCI memory. -/
  | pciMemWrite (addr : Nat) (bytes : List Byte)
  /-- A read of PCI I/O space. -/
  | pciIoRead (port size : Nat)
  /-- A write of PCI I/O space. -/
  | pciIoWrite (port : Nat) (bytes : List Byte)
  /-- A PCI configuration read: the bus address, the first byte lane and the number of bytes. -/
  | pciCfgRead (addr lane size : Nat)
  /-- A PCI configuration write. -/
  | pciCfgWrite (addr lane : Nat) (bytes : List Byte)
  /-- A read on the Local IO bus; `rom` tells the ROM select from the IO select. -/
  | lioRead (rom : Bool) (addr size : Nat)
  /-- A write on the Local IO bus. -/
  | lioWrite (rom : Bool) (addr : Nat) (bytes : List Byte)
  /-- A write to the video acceleration unit. -/
  | videoWrite (offset : Nat) (bytes : List Byte)
  /-- The data a DMA read received. -/
  | dmaData (addr : Nat) (bytes : List Byte)
deriving DecidableEq, Repr

/-- A range of physical addresses whose reads of one kind answer with an error: `BUS_ERROR` as data (R648). -/
structure BusErrorRange where
  first : Nat
  last : Nat
  fetch : Bool
deriving DecidableEq, Repr

/-- What the outside world does next (R79, R702, R806, R146). -/
inductive HostEvent where
  /-- The input lines take new levels. -/
  | setPins (p : Pins)
  /-- NMIn goes low (R792). -/
  | nmi
  /-- A soft reset (R791). -/
  | softReset
  /-- A cold reset (R790). -/
  | coldReset
  /-- A PCI master writes bytes (R713). -/
  | dmaWrite (addr : Nat) (bytes : List Byte)
  /-- A PCI master reads bytes (R713). -/
  | dmaRead (addr : Nat) (count : Nat)
  /-- `DDR_BIT_ERROR` (R781): a 1-bit or a 2-bit error in the doubleword at an address. -/
  | ddrBitError (addr : Nat) (twoBits : Bool)
  /-- An error on the address channel of the DDR2 controller: address, kind, ID (R776, R778, R780). -/
  | ddrCommandError (addr : BitVec 37) (kind id : BitVec 4)
  /-- An error on the data channel of the DDR2 controller: kind, ID (R776, R780). -/
  | ddrDataError (kind : BitVec 3) (id : BitVec 4)
  /-- The DLL of the DDR2 controller locks or loses its lock (R774, R777, R780). -/
  | ddrLock (locked : Bool)
  /-- The PCI controller reports in one word of its header: the bits under `mask` (R705 to R710). -/
  | headerReport (word : BitVec 6) (mask value : Word)
  /-- The arbiter reports its status (R745). -/
  | arbiterStatus (status : Word)
  /-- `SPECULATIVE_FETCH` (R806): a 4-byte read at a physical address. -/
  | speculativeFetch (pa : BitVec 40)
  /-- The hardware replaces a primary instruction cache line (R146). -/
  | evictInstruction (set : BitVec 9) (way : BitVec 2)
  /-- The hardware replaces a primary data cache line (R146). -/
  | evictData (set : BitVec 9) (way : BitVec 2)
  /-- The hardware replaces a secondary cache line (R146). -/
  | evictSecondary (set : BitVec 12) (way : BitVec 2)
deriving DecidableEq, Repr

/-- An event and the number of instructions that run after the event before it (R79). -/
structure TimedEvent where
  after : Nat
  event : HostEvent
deriving DecidableEq, Repr

/-! ### The state -/

/-- The state of the machine (R20, R135, R700, R786). -/
structure State where
  /-- The parameters of the platform, which no step changes (R8). -/
  params : Config.Params
  gpr : Vector Dword 32
  hi : Dword
  lo : Dword
  pc : Dword
  /-- The instruction at `pc` is in a delay slot and control goes to this address after it (R330). -/
  delay : Option Dword
  llbit : Bool
  fpr : Vector Fpr 32
  fcr31 : Word
  cp0 : Cp0
  tlb : Vector TlbEntry 64
  itlb : Vector (Option ItlbEntry) 16
  /-- Line `4 * set + way` of the primary instruction cache; an unlisted line is invalid and zero. -/
  icache : List (Nat × ILine)
  /-- Line `4 * set + way` of the primary data cache. -/
  dcache : List (Nat × DLine)
  /-- Line `4 * set + way` of the secondary cache. -/
  scache : List (Nat × SLine)
  gather : Option Gather
  /-- The 24 address window registers, in the order of their addresses (R136). -/
  windows : Vector Dword 24
  ddr : Ddr
  io : Io
  pins : Pins
  /-- The DDR2 memory, in canonical form. -/
  mem : List Host.Cell
  /-- BOOT_ROM (R720), by offset, in canonical form. -/
  rom : List Host.Cell
  busErr : List BusErrorRange
  /-- The model's own: requests that left the chip, newest first. -/
  busLog : List BusRequest
  /-- The model's own: what the outside world does and when, in order. -/
  events : List TimedEvent
  /-- The model's own: how many instructions the interrupt condition has held for (R670). -/
  irqHeld : Nat
  /-- The model's own: tells the free values of one step from those of another. -/
  stamp : Nat
  /-- The model's own: the exception the last step took. -/
  taken : Option Exc
deriving DecidableEq, Repr

/-! ### How a step can stop -/

/-- The machine stops: states in which it makes no further progress. -/
inductive Fault where
  /-- An access to an address of the I/O controller's map that belongs to no region (R139).  Raised by the
  operations that route physical accesses.  Safe: the hardware may answer. -/
  | unmappedIo
  /-- A DDR2 access while POWER_DOWN or SREFRESH is 1, which never completes (I33).  Raised by the DDR2 operations.
  Safe. -/
  | ddrStopped
  /-- A PCI read whose target retries for ever with mas_retry_value = 0 (I35).  Raised by the PCI operations.
  Safe. -/
  | pciRetryForever
deriving DecidableEq, Repr

/-- The model has no meaning for what the program does: spec/93_implementation_defined.md says "refuse", or the
manual gives no effect. -/
inductive Refusal where
  /-- An instruction that has no meaning yet.  Raised by `exec`.  Safe. -/
  | notModelled (mnemonic : String)
  /-- KSU = 11 with EXL = 0 and ERL = 0 (I5).  Raised by every check of the mode.  Safe. -/
  | undefinedMode
  /-- More than one TLB entry matches (I8).  Raised by translation and TLBP.  Safe. -/
  | multipleTlbMatch
  /-- A jump, branch or ERET in a delay slot (I13).  Raised by those instructions.  Safe. -/
  | delaySlotBranch
  /-- CACHE with an operation Table 8-3 does not hold (I16).  Safe. -/
  | undefinedCacheOp
  /-- CACHE on an uncached address (I16).  Safe. -/
  | uncachedCacheOp
  /-- A coprocessor 2 word with CU2 = 1 (I39).  Raised by the step.  Safe. -/
  | coprocessor2
  /-- An access width or a cached access that the region does not take (I9, I34).  Safe. -/
  | deviceAccess
  /-- An access other than an uncached doubleword to the DDR2 configuration port (I30).  Safe. -/
  | ddrPortAccess
  /-- A store narrower than a doubleword, or a cached access, to a window register (I41).  Safe. -/
  | windowRegisterAccess
  /-- An address window whose MMAP names a target other than 0 and 1 (R135).  Safe. -/
  | windowTarget
  /-- TLBWI or TLBWR with a page mask that is not one of the seven (R35).  Safe. -/
  | undefinedPageMask
deriving DecidableEq, Repr

/-! ### Reset -/

/-- The CP0 registers after a cold reset (R90; notes/assumptions/3.md). -/
def Cp0.reset : Cp0 where
  indexP := false
  index := 0
  random := 63
  entryLo0 := 0
  entryLo1 := 0
  context := 0
  pageMask := 0
  wired := 0
  badVAddr := 0
  count := 0
  countPhase := false
  entryHi := 0
  compare := 0
  status := 0x30400004
  cause := { bd := false, ce := 0, timer := false, sw := 0, excCode := 0 }
  epc := 0
  k0 := 2
  watch := 0
  xcontext := 0
  diagnostic := 0
  perfControl := 0
  perf0 := 0
  perf1 := 0
  tagLo := 0
  tagHi := 0
  errorEpc := 0

/-- A page with every field zero. -/
def TlbPage.zero : TlbPage := { e := false, pfn := 0, c := 0, d := false, v := false }

/-- A JTLB entry after reset: in region 10, which no mapped address has, so that it matches nothing
(notes/assumptions/4.md). -/
def TlbEntry.reset : TlbEntry :=
  { mask := 0, r := 2, vpn2 := 0, g := false, asid := 0, even := TlbPage.zero, odd := TlbPage.zero }

/-- The address window registers after reset (R136). -/
def windowsReset : Vector Dword 24 :=
  #v[0x0, 0x10000000, 0xFFFFFFFFFFF00000, 0xFFFFFFFFFFF00000,
     0xFFFFFFFFF0000000, 0xFFFFFFFFF0000000, 0xFFFFFFFFFFF00000, 0xFFFFFFFFFFF00000,
     0x0, 0x10000001, 0x0, 0x0,
     0x80000000, 0xFFFFFFFFFFF00000, 0xFFFFFFFFFFF00000, 0xFFFFFFFFFFF00000,
     0xFFFFFFFF80000000, 0xFFFFFFFFFFF00000, 0xFFFFFFFFFFF00000, 0xFFFFFFFFFFF00000,
     0x0, 0x0, 0x0, 0x0]

/-- CONF_CTL_00 to CONF_CTL_28 after reset: zero but for four read-only constants (R773). -/
def Ddr.reset : Ddr where
  ctl := #v[0, 0, 0, 0, 0, 0x0000000400000000, 0, 0x0F0E000000000000, 0, 0, 0, 0, 0, 0, 0, 0, 0, 0, 0, 0,
    0x0000204100000000, 0, 0, 0, 0, 0, 0, 0, 0]
  ready := false
  initLeft := none
  eccOff := false
  flips := []
  waiting := []

/-- Word `n` of the PCI header after reset (R760).  The manual gives no value for the words before 0x40 and for 0xE0
and 0xE4: base addresses are 0, Command and the abort flags are 0, the rest are host constants
(notes/assumptions/8.md). -/
def headerReset (n : Nat) : Word :=
  if n == 1 then Config.pciHeaderReset 1 &&& 0x06FF0000
  else if 4 ≤ n && n ≤ 9 then 0
  else if n == 19 then 0x02000000
  else if n < 16 || n == 56 || n == 57 then Config.pciHeaderReset n
  else 0

/-- The word of the register block at offset `4 * n` after reset (R760). -/
def regReset (p : Config.Params) (n : Nat) : Word :=
  match n with
  | 0 => (0 : BitVec 8) ++ Config.pciConfigPins ++ Config.lioAdPins
  | 2 => 0x00001F7C ||| ((Config.pciConfigPins.extractLsb' 0 1).setWidth 32 <<< 7)
  | 5 => 0x18
  | 8 => 0xF
  | 9 => 0x300
  | 11 => 0x700
  | 20 => 0x6
  | 21 => 0x80000000
  | 22 => 0x6
  | 23 => 0x80000000
  | 24 => 0x6
  | 25 => 0x80000000
  | 26 => 0x1C5
  | 32 => 0x617
  | 33 => 0xF80
  | 34 => 0x780
  | 36 => (0 : BitVec 9) ++ p.sysCompensation ++ (0 : BitVec 1) ++ p.pciCompensation ++ (0 : BitVec 1) ++
      p.ddrCompensation
  | 37 => Config.sysClkSelPins.setWidth 32
  | _ => 0

/-- The I/O controller after reset (R760); no line is active (notes/assumptions/7.md). -/
def Io.reset (p : Config.Params) : Io where
  header := Vector.ofFn fun i : Fin 64 => headerReset i.val
  regs := Vector.ofFn fun i : Fin 64 => regReset p i.val
  pulse := 0
  lastActive := 0

/-- Every input line inactive (notes/assumptions/7.md). -/
def Pins.reset : Pins := { int := 0xF, gpio := 0xF, pciInt := 0xF, perr := false, serr := false }

/-- The machine right after a cold reset, with these parameters (R790, R90). -/
def State.resetWith (p : Config.Params) : State where
  params := p
  gpr := Vector.replicate 32 0
  hi := 0
  lo := 0
  pc := 0xFFFFFFFFBFC00000
  delay := none
  llbit := false
  fpr := Vector.replicate 32 { hi := 0, lo := 0 }
  fcr31 := 0
  cp0 := Cp0.reset
  tlb := Vector.replicate 64 TlbEntry.reset
  itlb := Vector.replicate 16 none
  icache := []
  dcache := []
  scache := []
  gather := none
  windows := windowsReset
  ddr := Ddr.reset
  io := Io.reset p
  pins := Pins.reset
  mem := []
  rom := []
  busErr := []
  busLog := []
  events := []
  irqHeld := 0
  stamp := 0
  taken := none

/-- The machine right after a cold reset, with every parameter at its default (R790, R90). -/
def State.reset : State := State.resetWith Config.Params.default

end Sys2Proof.Machine
end

