-- ==== Sys2Proof/Machine/Ops.lean ====
section
/-! DEFINITION. The named operations over memory, registers and the exception machinery that the meanings share:
sparse memory in canonical form, bytes, general and floating-point registers, the modes, taking an exception and
returning from one. -/

namespace Sys2Proof.Machine

/-! ### Sparse stores: lists of keys and values in one canonical form -/

/-- The value at a key; an unlisted key holds the default. -/
def cellGet {β : Type} (d : β) : List (Nat × β) → Nat → β
  | [], _ => d
  | (k, v) :: rest, a => if a = k then v else cellGet d rest a

/-- Store a value at a key, keeping the keys rising and no default listed. -/
def cellSet {β : Type} [DecidableEq β] (d : β) : List (Nat × β) → Nat → β → List (Nat × β)
  | [], a, b => if b = d then [] else [(a, b)]
  | (k, v) :: rest, a, b =>
    if a < k then (if b = d then (k, v) :: rest else (a, b) :: (k, v) :: rest)
    else if a = k then (if b = d then rest else (a, b) :: rest)
    else (k, v) :: cellSet d rest a b

/-- The canonical form: keys strictly rising, no entry equal to the default. -/
def cellWf {β : Type} [DecidableEq β] (d : β) : List (Nat × β) → Bool
  | [] => true
  | (k, v) :: rest => (v != d) && rest.all (fun p => decide (k < p.1)) && cellWf d rest

/-! ### Memory as bytes -/

/-- What a byte of memory that nothing has written reads as (notes/assumptions/6.md). -/
def unwrittenByte : Byte := 0

/-- The canonical form of a memory. -/
def Memory.wf (m : List Host.Cell) : Bool := cellWf unwrittenByte m

/-- The byte at an address. -/
def readByte (m : List Host.Cell) (a : Nat) : Byte := cellGet unwrittenByte m a

/-- Store one byte. -/
def writeByte (m : List Host.Cell) (a : Nat) (b : Byte) : List Host.Cell := cellSet unwrittenByte m a b

/-- The `n` bytes from an address on, the lowest address first. -/
def readBytes (m : List Host.Cell) (a n : Nat) : List Byte :=
  (List.range n).map fun i => readByte m (a + i)

/-- Store bytes from an address on. -/
def writeBytes (m : List Host.Cell) (a : Nat) : List Byte → List Host.Cell
  | [] => m
  | b :: bs => writeBytes (writeByte m a b) (a + 1) bs

/-! ### Bytes and words (R101: little-endian) -/

/-- The first `n` bytes of a value, the least significant first. -/
def toBytes {w : Nat} (v : BitVec w) (n : Nat) : List Byte :=
  (List.range n).map fun i => v.extractLsb' (8 * i) 8

/-- The value whose bytes these are, the least significant first. -/
def ofBytes (w : Nat) : List Byte → BitVec w
  | [] => 0
  | b :: bs => (ofBytes w bs <<< 8) ||| b.setWidth w

/-- Replace the bytes of a value from byte `at_` on. -/
def insertBytes {w : Nat} (v : BitVec w) (at_ : Nat) : List Byte → BitVec w
  | [] => v
  | b :: bs =>
    insertBytes ((v &&& ~~~((0xFF : BitVec w) <<< (8 * at_))) ||| (b.setWidth w <<< (8 * at_))) (at_ + 1) bs

/-! ### Results of an operation on the way to a step's outcome -/

/-- An operation of an instruction: a result and the state reached, an exception with the state it is taken from, or
a stop. -/
inductive Res (α : Type) where
  | ok (a : α) (s : State)
  | raise (e : Exc) (s : State)
  | fault (f : Fault)
  | refuse (r : Refusal)
deriving DecidableEq, Repr

/-- Continue after a result. -/
def Res.bind {α β : Type} (r : Res α) (k : α → State → Res β) : Res β :=
  match r with
  | .ok a s => k a s
  | .raise e s => .raise e s
  | .fault f => .fault f
  | .refuse x => .refuse x

/-- An exception leaves no effect of its instruction behind: it is taken from `s` (R621). -/
def Res.precise {α : Type} (r : Res α) (s : State) : Res α :=
  match r with
  | .raise e _ => .raise e s
  | r => r

/-! ### Free values -/

/-- A free value of this step (notes/assumptions/10.md). -/
def State.free (s : State) (use : Config.FreeUse) (index : Nat) : Dword := Config.freeBits s.stamp use index

/-! ### General registers (R21) -/

/-- Read a general register; r0 reads zero. -/
def State.readGpr (s : State) (r : Reg) : Dword := if r = 0 then 0 else s.gpr[r.toNat]

/-- Write a general register; a write to r0 is discarded. -/
def State.writeGpr (s : State) (r : Reg) (v : Dword) : State :=
  if r = 0 then s else { s with gpr := s.gpr.set r.toNat v }

/-! ### Plain updates -/

/-- Replace CP0. -/
def State.setCp0 (s : State) (c : Cp0) : State := { s with cp0 := c }

/-- Replace HI and LO (R23). -/
def State.setHiLo (s : State) (hi lo : Dword) : State := { s with hi := hi, lo := lo }

/-- Replace FCR31 (R29). -/
def State.setFcr31 (s : State) (v : Word) : State := { s with fcr31 := v }

/-- Replace the load-linked bit (R25). -/
def State.setLlbit (s : State) (b : Bool) : State := { s with llbit := b }

/-- After an instruction that is no control transfer: the delay slot's target if it was in one, otherwise the next
word (R24, R330). -/
def State.advance (s : State) : State := { s with pc := s.delay.getD (s.pc + 4), delay := none }

/-- A branch or jump to `target`: the delay slot is next, control goes to `target` after it (R330). -/
def State.branchTo (s : State) (target : Dword) : State := { s with pc := s.pc + 4, delay := some target }

/-- A branch not taken: the delay slot runs and control goes on behind it (R330, R333). -/
def State.branchNotTaken (s : State) : State := { s with pc := s.pc + 4, delay := some (s.pc + 8) }

/-- A likely branch not taken: its delay slot is nullified (R331). -/
def State.skipDelaySlot (s : State) : State := { s with pc := s.pc + 8, delay := none }

/-! ### Status and the modes (R42, R43, R660) -/

/-- Status.CU: whether coprocessor `n` is marked usable. -/
def State.cu (s : State) (n : Nat) : Bool := s.cp0.status.getLsbD (28 + n)
/-- Status.FR. -/
def State.fr (s : State) : Bool := s.cp0.status.getLsbD 26
/-- Status.NOFDIV. -/
def State.nofdiv (s : State) : Bool := s.cp0.status.getLsbD 24
/-- Status.NOFSQR. -/
def State.nofsqr (s : State) : Bool := s.cp0.status.getLsbD 23
/-- Status.BEV. -/
def State.bev (s : State) : Bool := s.cp0.status.getLsbD 22
/-- Status.IM. -/
def State.im (s : State) : BitVec 8 := s.cp0.status.extractLsb' 8 8
/-- Status.KSU. -/
def State.ksu (s : State) : BitVec 2 := s.cp0.status.extractLsb' 3 2
/-- Status.ERL. -/
def State.erl (s : State) : Bool := s.cp0.status.getLsbD 2
/-- Status.EXL. -/
def State.exl (s : State) : Bool := s.cp0.status.getLsbD 1
/-- Status.IE. -/
def State.ie (s : State) : Bool := s.cp0.status.getLsbD 0

/-- The operating modes (R660). -/
inductive Mode where
  | kernel
  | supervisor
  | user
deriving DecidableEq, Repr

/-- The operating mode; none for KSU = 11 with EXL = ERL = 0, which is undefined (R43, I5). -/
def State.mode (s : State) : Option Mode :=
  if s.erl || s.exl then some .kernel
  else match s.ksu.toNat with
    | 0 => some .kernel
    | 1 => some .supervisor
    | 2 => some .user
    | _ => none

/-- InterruptsEnabled (R43). -/
def State.interruptsEnabled (s : State) : Bool := s.ie && !s.exl && !s.erl

/-! ### Taking an exception and returning from one -/

/-- Cause.ExcCode of an exception (R44, R620). -/
def Exc.code : Exc → BitVec 5
  | .interrupt => 0
  | .tlbModified _ => 1
  | .tlbRefill false _ => 2
  | .tlbInvalid false _ => 2
  | .tlbRefill true _ => 3
  | .tlbInvalid true _ => 3
  | .addressError false _ => 4
  | .addressError true _ => 5
  | .busError true => 6
  | .busError false => 7
  | .syscall => 8
  | .breakpoint => 9
  | .reservedInstruction => 10
  | .coprocessorUnusable _ => 11
  | .overflow => 12
  | .trap => 13
  | .floatingPoint => 15
  | .watch => 23

/-- Whether the exception uses the refill vector when EXL = 0 (R633). -/
def Exc.isRefill : Exc → Bool
  | .tlbRefill _ _ => true
  | _ => false

/-- The address that goes to BadVAddr (R641, R643). -/
def Exc.badAddress : Exc → Option Dword
  | .addressError _ va => some va
  | .tlbRefill _ va => some va
  | .tlbInvalid _ va => some va
  | .tlbModified va => some va
  | _ => none

/-- The address that goes to Context, XContext and EntryHi (R643). -/
def Exc.tlbAddress : Exc → Option Dword
  | .tlbRefill _ va => some va
  | .tlbInvalid _ va => some va
  | .tlbModified va => some va
  | _ => none

/-- Context with BadVPN2 in bits 22:4 taken from va[31:13]; PTEBase is kept (R34, R643). -/
def contextFor (old va : Dword) : Dword :=
  old.extractLsb' 23 41 ++ va.extractLsb' 13 19 ++ (0 : BitVec 4)

/-- XContext with R and BadVPN2 taken from the address; PTEBase is kept (R50, R643). -/
def xcontextFor (old va : Dword) : Dword :=
  old.extractLsb' 33 31 ++ va.extractLsb' 62 2 ++ va.extractLsb' 13 27 ++ (0 : BitVec 4)

/-- EntryHi with R and VPN2 taken from the address; ASID is kept (R40, R643). -/
def entryHiFor (old va : Dword) : Dword :=
  va.extractLsb' 62 2 ++ (0 : BitVec 22) ++ va.extractLsb' 13 27 ++ (0 : BitVec 5) ++ old.extractLsb' 0 8

/-- The address registers an exception writes before the entry (R641, R643). -/
def Exc.recordAddress (e : Exc) (c : Cp0) : Cp0 :=
  let c := match e.badAddress with
    | some va => { c with badVAddr := va }
    | none => c
  match e.tlbAddress with
  | some va => { c with
      context := contextFor c.context va
      xcontext := xcontextFor c.xcontext va
      entryHi := entryHiFor c.entryHi va }
  | none => c

/-- Cause.CE after an exception: the unit of a coprocessor-unusable exception, unspecified after any other (R44). -/
def Exc.ceAfter (e : Exc) (s : State) : BitVec 2 :=
  match e with
  | .coprocessorUnusable u => u
  | _ => (s.free .causeCe 0).setWidth 2

/-- Where control goes (R630, R632). -/
def Exc.vector (e : Exc) (s : State) : Dword :=
  (if s.bev then 0xFFFFFFFFBFC00200 else 0xFFFFFFFF80000000) +
    (if e.isRefill && !s.exl then 0 else 0x180)

/-- EPC after an exception: unchanged with EXL = 1, otherwise the instruction, or the branch before it when it is in a
delay slot (R630). -/
def State.epcAfterException (s : State) : Dword :=
  if s.exl then s.cp0.epc else if s.delay.isSome then s.pc - 4 else s.pc

/-- Cause.BD after an exception (R630). -/
def State.bdAfterException (s : State) : Bool := if s.exl then s.cp0.cause.bd else s.delay.isSome

/-- Taking an exception other than the reset-class ones (R630): the address registers, EPC, Cause, Status.EXL and the
vector.  Everything else is kept. -/
def takeException (e : Exc) (s : State) : State :=
  let c := e.recordAddress s.cp0
  { s with
    cp0 := { c with
      epc := s.epcAfterException
      cause := { c.cause with bd := s.bdAfterException, ce := e.ceAfter s, excCode := e.code }
      status := c.status ||| 0x2 }
    pc := e.vector s
    delay := none
    taken := some e }

/-- Returning from an exception, ERET (R445, R631): control goes to EPC, ERL is cleared if it was set and EXL
otherwise, LLbit is cleared, and there is no delay slot. -/
def returnFromException (s : State) : State :=
  let c := s.cp0
  { s with
    pc := if s.erl && s.params.eretErlUsesErrorEpc then c.errorEpc else c.epc
    delay := none
    llbit := false
    cp0 := { c with status := if s.erl then c.status &&& ~~~(0x4 : Word) else c.status &&& ~~~(0x2 : Word) } }

/-- What an NMI and a soft reset do (R637, R792): ErrorEPC, Status.ERL, SR and BEV, the reset vector; BadVAddr becomes
undefined (R37).  DESIGN CHOICE: one that arrives in stand-by does this at once but does not wake the core, which
sleeps on until one of IP6 to IP2 is 1, where R637 and R731 do not speak of it (notes/assumptions/48.md). -/
def takeNmi (s : State) : State :=
  { s with
    cp0 := { s.cp0 with
      errorEpc := if s.delay.isSome then s.pc - 4 else s.pc
      status := s.cp0.status ||| 0x00500004
      badVAddr := s.free .badVAddr 0 }
    pc := 0xFFFFFFFFBFC00000
    delay := none }

/-! ### From results to outcomes -/

/-- The outcome of an instruction and of a step. -/
abbrev Outcome := Host.Outcome State Fault Refusal

/-- The outcome of an instruction whose result holds its final state. -/
def Res.outcome (r : Res Unit) : Outcome :=
  match r with
  | .ok _ s => .next s
  | .raise e s => .next (takeException e s)
  | .fault f => .fault f
  | .refuse x => .refused x

/-- The outcome of an instruction that is no control transfer: what it did, then the next instruction. -/
def Res.finish (r : Res Unit) : Outcome :=
  (r.bind fun _ s => .ok () s.advance).outcome

/-- An instruction that only changes the state and goes on. -/
def complete (s : State) : Outcome := .next s.advance

/-- An instruction that takes an exception. -/
def raiseExc (e : Exc) (s : State) : Outcome := .next (takeException e s)

/-! ### Coprocessor usability (R27, R430, R651) -/

/-- CP1 is usable when Status.CU1 is 1 (R27): the check every CP1 instruction makes first. -/
def checkCp1 (s : State) : Res Unit :=
  if s.cu 1 then .ok () s else .raise (.coprocessorUnusable 1) s

/-- CP0 is usable in kernel mode or with Status.CU0 = 1 (R430, R651). -/
def checkCp0 (s : State) : Res Unit :=
  if s.cu 0 then .ok () s
  else match s.mode with
    | some .kernel => .ok () s
    | some _ => .raise (.coprocessorUnusable 0) s
    | none => .refuse .undefinedMode

end Sys2Proof.Machine
end

