-- ==== Sys2Proof/Machine/Operands.lean ====
section
/-! DEFINITION. The operand forms: immediates, effective addresses, branch and jump targets (R173), 32-bit results in
64-bit registers, and the floating-point register operands (R482). -/

namespace Sys2Proof.Machine

/-! ### Immediates and 32-bit values -/

/-- A 16-bit immediate, sign-extended (R173(a)). -/
def sext16 (imm : BitVec 16) : Dword := imm.signExtend 64

/-- A 16-bit immediate, zero-extended (R173(b)). -/
def zext16 (imm : BitVec 16) : Dword := imm.setWidth 64

/-- A 32-bit value, sign-extended to 64 bits (R10). -/
def sext32 (v : Word) : Dword := v.signExtend 64

/-- Bits 31:0 of a doubleword (R241). -/
def low32 (v : Dword) : Word := v.extractLsb' 0 32

/-! ### Addresses -/

/-- The effective address of a load, a store or CACHE: base plus sign-extended offset, modulo 2^64 (R173(d)). -/
def State.effectiveAddress (s : State) (base : Reg) (offset : BitVec 16) : Dword :=
  s.readGpr base + sext16 offset

/-- The target of a branch: the delay slot plus the offset in words (R173(e)). -/
def State.branchTarget (s : State) (offset : BitVec 16) : Dword :=
  s.pc + 4 + (sext16 offset <<< 2)

/-- The target of J and JAL: in the 256 MB region of the delay slot (R173(f)). -/
def State.jumpTarget (s : State) (target : BitVec 26) : Dword :=
  (s.pc + 4).extractLsb' 28 36 ++ target ++ (0 : BitVec 2)

/-! ### Floating-point registers (R26, R482) -/

/-- The 64 bits of a floating-point register. -/
def Fpr.bits (f : Fpr) : Dword := f.hi ++ f.lo

/-- The register whose halves are those of a 64-bit value. -/
def Fpr.ofBits (v : Dword) : Fpr := { hi := v.extractLsb' 32 32, lo := v.extractLsb' 0 32 }

/-- Replace one floating-point register. -/
def State.setFpr (s : State) (n : Reg) (f : Fpr) : State := { s with fpr := s.fpr.set n.toNat f }

/-- One floating-point register. -/
def State.getFpr (s : State) (n : Reg) : Fpr := s.fpr[n.toNat]

/-- The even register of the pair that holds register `n` with FR = 0 (R482). -/
def evenOf (n : Reg) : Reg := n &&& 0x1E

/-- ReadS: an S or W operand (R482). -/
def State.readS (s : State) (n : Reg) : Word :=
  if s.fr then (s.getFpr n).lo
  else if n.getLsbD 0 then (s.getFpr (evenOf n)).hi
  else (s.getFpr n).lo

/-- WriteS: the other half is unspecified with FR = 1 (R482, D27) and kept with FR = 0. -/
def State.writeS (s : State) (n : Reg) (v : Word) : State :=
  if s.fr then s.setFpr n { hi := (s.free .fprHigh n.toNat).extractLsb' 0 32, lo := v }
  else if n.getLsbD 0 then s.setFpr (evenOf n) { s.getFpr (evenOf n) with hi := v }
  else s.setFpr n { s.getFpr n with lo := v }

/-- ReadD: a D, L or PS operand; with FR = 0 an odd register reads a free value (R482, I2). -/
def State.readD (s : State) (n : Reg) : Dword :=
  if !s.fr && n.getLsbD 0 then s.free .fprOddRead n.toNat else (s.getFpr n).bits

/-- WriteD; with FR = 0 and an odd register, that register and the half of the even register below it that the
register names as a single become free values (R482, I2). -/
def State.writeD (s : State) (n : Reg) (v : Dword) : State :=
  if !s.fr && n.getLsbD 0 then
    let f := s.free .fprOddWrite n.toNat
    let g := s.free .fprOddWrite (32 + n.toNat)
    (s.setFpr n (Fpr.ofBits f)).setFpr (evenOf n) { s.getFpr (evenOf n) with hi := g.extractLsb' 0 32 }
  else s.setFpr n (Fpr.ofBits v)

end Sys2Proof.Machine
end

