-- ==== Sys2Proof/Machine/Alu.lean ====
section
/-! DEFINITION. The shapes of the integer instructions that write one general register. -/

namespace Sys2Proof.Machine

/-- Write a general register and go on. -/
def writeResult (s : State) (rd : Reg) (v : Dword) : Outcome := complete (s.writeGpr rd v)

/-- The truth of a comparison as a register value (R246). -/
def boolValue (b : Bool) : Dword := if b then 1 else 0

/-- An exact integer as a sign-extended word; none when it does not fit 32 bits. -/
def exactWord (i : Int) : Option Dword :=
  if -(2 ^ 31) ≤ i ∧ i < 2 ^ 31 then some (sext32 (BitVec.ofInt 32 i)) else none

/-- An exact integer as a doubleword; none when it does not fit 64 bits. -/
def exactDouble (i : Int) : Option Dword :=
  if -(2 ^ 63) ≤ i ∧ i < 2 ^ 63 then some (BitVec.ofInt 64 i) else none

/-- Write a result, or take the integer overflow exception with the register unchanged (R649). -/
def writeOrOverflow (s : State) (rd : Reg) (v : Option Dword) : Outcome :=
  match v with
  | some v => writeResult s rd v
  | none => raiseExc .overflow s

end Sys2Proof.Machine
end

