-- ==== Sys2Proof/Machine/AluImmediate.lean ====
section
/-! DEFINITION. The arithmetic and logic instructions with an immediate (spec/41_alu_immediate.md). -/

namespace Sys2Proof.Machine

/-- ADDI (R242): add immediate word, overflow exception. -/
def execAddi (rs rt : Reg) (imm : BitVec 16) (s : State) : Outcome :=
  writeOrOverflow s rt (exactWord ((low32 (s.readGpr rs)).toInt + imm.toInt))

/-- DADDI (R243): add immediate doubleword, overflow exception. -/
def execDaddi (rs rt : Reg) (imm : BitVec 16) (s : State) : Outcome :=
  writeOrOverflow s rt (exactDouble ((s.readGpr rs).toInt + imm.toInt))

/-- ADDIU (R244): add immediate word. -/
def execAddiu (rs rt : Reg) (imm : BitVec 16) (s : State) : Outcome :=
  writeResult s rt (sext32 (low32 (s.readGpr rs) + imm.signExtend 32))

/-- DADDIU (R245): add immediate doubleword. -/
def execDaddiu (rs rt : Reg) (imm : BitVec 16) (s : State) : Outcome := writeResult s rt (s.readGpr rs + sext16 imm)

/-- SLTI (R246): set on less than immediate, signed. -/
def execSlti (rs rt : Reg) (imm : BitVec 16) (s : State) : Outcome :=
  writeResult s rt (boolValue ((s.readGpr rs).slt (sext16 imm)))

/-- SLTIU (R247): set on less than immediate, unsigned, with the immediate sign-extended. -/
def execSltiu (rs rt : Reg) (imm : BitVec 16) (s : State) : Outcome :=
  writeResult s rt (boolValue ((s.readGpr rs).ult (sext16 imm)))

/-- ANDI (R248): and with a zero-extended immediate. -/
def execAndi (rs rt : Reg) (imm : BitVec 16) (s : State) : Outcome := writeResult s rt (s.readGpr rs &&& zext16 imm)

/-- ORI (R249): or with a zero-extended immediate. -/
def execOri (rs rt : Reg) (imm : BitVec 16) (s : State) : Outcome := writeResult s rt (s.readGpr rs ||| zext16 imm)

/-- XORI (R250): exclusive or with a zero-extended immediate. -/
def execXori (rs rt : Reg) (imm : BitVec 16) (s : State) : Outcome := writeResult s rt (s.readGpr rs ^^^ zext16 imm)

/-- LUI (R251): load upper immediate. -/
def execLui (rt : Reg) (imm : BitVec 16) (s : State) : Outcome := writeResult s rt (sext32 (imm ++ (0 : BitVec 16)))

end Sys2Proof.Machine
end

