-- ==== Sys2Proof/Machine/AluRegister.lean ====
section
/-! DEFINITION. The arithmetic and logic instructions on registers (spec/42_alu_register.md). -/

namespace Sys2Proof.Machine

/-- ADD (R261): add word, overflow exception. -/
def execAdd (rs rt rd : Reg) (s : State) : Outcome :=
  writeOrOverflow s rd (exactWord ((low32 (s.readGpr rs)).toInt + (low32 (s.readGpr rt)).toInt))

/-- ADDU (R262): add word. -/
def execAddu (rs rt rd : Reg) (s : State) : Outcome :=
  writeResult s rd (sext32 (low32 (s.readGpr rs) + low32 (s.readGpr rt)))

/-- SUB (R263): subtract word, overflow exception. -/
def execSub (rs rt rd : Reg) (s : State) : Outcome :=
  writeOrOverflow s rd (exactWord ((low32 (s.readGpr rs)).toInt - (low32 (s.readGpr rt)).toInt))

/-- SUBU (R264): subtract word. -/
def execSubu (rs rt rd : Reg) (s : State) : Outcome :=
  writeResult s rd (sext32 (low32 (s.readGpr rs) - low32 (s.readGpr rt)))

/-- DADD (R265): add doubleword, overflow exception. -/
def execDadd (rs rt rd : Reg) (s : State) : Outcome :=
  writeOrOverflow s rd (exactDouble ((s.readGpr rs).toInt + (s.readGpr rt).toInt))

/-- DADDU (R266): add doubleword. -/
def execDaddu (rs rt rd : Reg) (s : State) : Outcome := writeResult s rd (s.readGpr rs + s.readGpr rt)

/-- DSUB (R267): subtract doubleword, overflow exception. -/
def execDsub (rs rt rd : Reg) (s : State) : Outcome :=
  writeOrOverflow s rd (exactDouble ((s.readGpr rs).toInt - (s.readGpr rt).toInt))

/-- DSUBU (R268): subtract doubleword. -/
def execDsubu (rs rt rd : Reg) (s : State) : Outcome := writeResult s rd (s.readGpr rs - s.readGpr rt)

/-- SLT (R269): set on less than, signed. -/
def execSlt (rs rt rd : Reg) (s : State) : Outcome := writeResult s rd (boolValue ((s.readGpr rs).slt (s.readGpr rt)))

/-- SLTU (R270): set on less than, unsigned. -/
def execSltu (rs rt rd : Reg) (s : State) : Outcome :=
  writeResult s rd (boolValue ((s.readGpr rs).ult (s.readGpr rt)))

/-- AND (R271). -/
def execAnd (rs rt rd : Reg) (s : State) : Outcome := writeResult s rd (s.readGpr rs &&& s.readGpr rt)

/-- OR (R272). -/
def execOr (rs rt rd : Reg) (s : State) : Outcome := writeResult s rd (s.readGpr rs ||| s.readGpr rt)

/-- XOR (R273). -/
def execXor (rs rt rd : Reg) (s : State) : Outcome := writeResult s rd (s.readGpr rs ^^^ s.readGpr rt)

/-- NOR (R274). -/
def execNor (rs rt rd : Reg) (s : State) : Outcome := writeResult s rd (~~~(s.readGpr rs ||| s.readGpr rt))

/-- MOVZ (R275): move if rt is zero. -/
def execMovz (rs rt rd : Reg) (s : State) : Outcome :=
  if s.readGpr rt = 0 then writeResult s rd (s.readGpr rs) else complete s

/-- MOVN (R276): move if rt is not zero. -/
def execMovn (rs rt rd : Reg) (s : State) : Outcome :=
  if s.readGpr rt = 0 then complete s else writeResult s rd (s.readGpr rs)

end Sys2Proof.Machine
end

