-- ==== Sys2Proof/Machine/Flags.lean ====
section
/-! DEFINITION. The control and status register FCR31 (R29) and how floating-point instructions update it (R486 to
R489).  There are no integer flags (R20). -/

namespace Sys2Proof.Machine

/-! ### Fields of FCR31 (R29; the positions are notes/assumptions/34.md) -/

/-- The bits of FCR31 that hold state: 25, 24, 23, 17:0. -/
def fcr31Mask : Word := 0x0383FFFF

/-- FCR31.RM (R483). -/
def State.rm (s : State) : BitVec 2 := s.fcr31.extractLsb' 0 2
/-- FCR31.FS. -/
def State.fs (s : State) : Bool := s.fcr31.getLsbD 24
/-- FCR31.Enables: V, Z, O, U, I in bits 4 to 0 (R488). -/
def State.fpEnables (s : State) : BitVec 5 := s.fcr31.extractLsb' 7 5
/-- FCR31.C, condition bit 0. -/
def State.cc0 (s : State) : Bool := s.fcr31.getLsbD 23

/-- The conditions an operation raises: E, V, Z, O, U, I in bits 5 to 0, the order of FCR31.Cause. -/
abbrev Conditions := BitVec 6

/-- Unimplemented operation alone (R487, D31). -/
def condE : Conditions := 0b100000
/-- Invalid operation. -/
def condV : Conditions := 0b010000
/-- Division by zero. -/
def condZ : Conditions := 0b001000
/-- Overflow, which raises inexact with it (R493). -/
def condOI : Conditions := 0b000101
/-- A flushed underflow, which raises inexact with it (R494). -/
def condUI : Conditions := 0b000011
/-- Inexact. -/
def condI : Conditions := 0b000001

/-- FCR31 with Cause replaced (R487). -/
def withCause (f : Word) (c : Conditions) : Word := (f &&& ~~~(0x0003F000 : Word)) ||| (c.setWidth 32 <<< 12)

/-- FCR31 with the raised conditions ORed into Flags; E has no flag (R489). -/
def withFlags (f : Word) (c : Conditions) : Word := f ||| ((c.extractLsb' 0 5).setWidth 32 <<< 2)

/-- FCR31 with condition bit 0, bit 23 (R530). -/
def withCc0 (f : Word) (b : Bool) : Word := (f &&& ~~~(0x00800000 : Word)) ||| (if b then 0x00800000 else 0)

/-- FCR31 with condition bit 1, bit 25 (R590). -/
def withCc1 (f : Word) (b : Bool) : Word := (f &&& ~~~(0x02000000 : Word)) ||| (if b then 0x02000000 else 0)

/-- Whether the conditions trap: E, or a condition whose enable is set (R488). -/
def trapsWith (c : Conditions) (enables : BitVec 5) : Bool :=
  c.getLsbD 5 || (c.extractLsb' 0 5 &&& enables != 0)

/-- The end of an arithmetic, conversion or compare instruction (R484 steps 5 to 7): Cause is rewritten; then either
the floating-point exception, with nothing else changed, or the Flags and the result. -/
def fpEnd (s : State) (c : Conditions) (write : State → State) : Res Unit :=
  let s1 := s.setFcr31 (withCause s.fcr31 c)
  if trapsWith c s.fpEnables then .raise .floatingPoint s1
  else .ok () (write (s1.setFcr31 (withFlags s1.fcr31 c)))

/-- A value written to FCR31 by CTC1: the writable bits (R551). -/
def writableFcr31 (v : Word) : Word := v &&& fcr31Mask

/-- Whether a value of FCR31 raises the exception by itself (R551). -/
def fcr31Traps (f : Word) : Bool := trapsWith (f.extractLsb' 12 6) (f.extractLsb' 7 5)

end Sys2Proof.Machine
end

