-- ==== Sys2Proof/Machine/Branch.lean ====
section
/-! DEFINITION. Jumps and branches (spec/44_jump_branch.md) and the branches on the floating-point condition. -/

namespace Sys2Proof.Machine

/-! ### Shapes (R330 to R334) -/

/-- The link register takes the address behind the delay slot (R334). -/
def State.linkTo (s : State) (rd : Reg) : State := s.writeGpr rd (s.pc + 8)

/-- A control transfer in a delay slot is undefined (R332, I13). -/
def outsideDelaySlot (s : State) (t : State) : Outcome :=
  if s.delay.isSome then .refused .delaySlotBranch else .next t

/-- A jump. -/
def jump (s : State) (target : Dword) : Outcome := outsideDelaySlot s (s.branchTo target)

/-- A branch (R330). -/
def branch (s : State) (taken : Bool) (target : Dword) : Outcome :=
  outsideDelaySlot s (if taken then s.branchTo target else s.branchNotTaken)

/-- A likely branch: not taken, it nullifies its delay slot (R331). -/
def branchLikely (s : State) (taken : Bool) (target : Dword) : Outcome :=
  outsideDelaySlot s (if taken then s.branchTo target else s.skipDelaySlot)

/-- The CP1 check before a branch (R480). -/
def ifCp1 (s : State) (o : Outcome) : Outcome :=
  match checkCp1 s with
  | .ok _ _ => o
  | .raise e s => .next (takeException e s)
  | .fault f => .fault f
  | .refuse r => .refused r

/-! ### Meanings -/

/-- J (R337): jump. -/
def execJ (target : BitVec 26) (s : State) : Outcome := jump s (s.jumpTarget target)

/-- JAL (R338): jump and link. -/
def execJal (target : BitVec 26) (s : State) : Outcome := jump (s.linkTo 31) (s.jumpTarget target)

/-- JR (R339): jump to a register. -/
def execJr (rs : Reg) (_hint : BitVec 5) (s : State) : Outcome := jump s (s.readGpr rs)

/-- JALR (R340): jump to a register and link; rs is read before rd is written. -/
def execJalr (rs rd : Reg) (_hint : BitVec 5) (s : State) : Outcome := jump (s.linkTo rd) (s.readGpr rs)

/-- BEQ (R341): branch on equal. -/
def execBeq (rs rt : Reg) (offset : BitVec 16) (s : State) : Outcome :=
  branch s (s.readGpr rs == s.readGpr rt) (s.branchTarget offset)

/-- BNE (R342): branch on not equal. -/
def execBne (rs rt : Reg) (offset : BitVec 16) (s : State) : Outcome :=
  branch s (s.readGpr rs != s.readGpr rt) (s.branchTarget offset)

/-- BLEZ (R343): branch on less than or equal to zero. -/
def execBlez (rs : Reg) (offset : BitVec 16) (s : State) : Outcome :=
  branch s ((s.readGpr rs).sle 0) (s.branchTarget offset)

/-- BGTZ (R344): branch on greater than zero. -/
def execBgtz (rs : Reg) (offset : BitVec 16) (s : State) : Outcome :=
  branch s (!(s.readGpr rs).sle 0) (s.branchTarget offset)

/-- BLTZ (R345): branch on less than zero. -/
def execBltz (rs : Reg) (offset : BitVec 16) (s : State) : Outcome :=
  branch s ((s.readGpr rs).getLsbD 63) (s.branchTarget offset)

/-- BGEZ (R346): branch on greater than or equal to zero. -/
def execBgez (rs : Reg) (offset : BitVec 16) (s : State) : Outcome :=
  branch s (!(s.readGpr rs).getLsbD 63) (s.branchTarget offset)

/-- BLTZAL (R347): branch on less than zero and link; rs is read before r31 is written. -/
def execBltzal (rs : Reg) (offset : BitVec 16) (s : State) : Outcome :=
  branch (s.linkTo 31) ((s.readGpr rs).getLsbD 63) (s.branchTarget offset)

/-- BGEZAL (R348): branch on greater than or equal to zero and link; rs is read before r31 is written. -/
def execBgezal (rs : Reg) (offset : BitVec 16) (s : State) : Outcome :=
  branch (s.linkTo 31) (!(s.readGpr rs).getLsbD 63) (s.branchTarget offset)

/-- BEQL (R349): branch on equal, likely. -/
def execBeql (rs rt : Reg) (offset : BitVec 16) (s : State) : Outcome :=
  branchLikely s (s.readGpr rs == s.readGpr rt) (s.branchTarget offset)

/-- BNEL (R350): branch on not equal, likely. -/
def execBnel (rs rt : Reg) (offset : BitVec 16) (s : State) : Outcome :=
  branchLikely s (s.readGpr rs != s.readGpr rt) (s.branchTarget offset)

/-- BLEZL (R351): branch on less than or equal to zero, likely. -/
def execBlezl (rs : Reg) (offset : BitVec 16) (s : State) : Outcome :=
  branchLikely s ((s.readGpr rs).sle 0) (s.branchTarget offset)

/-- BGTZL (R352): branch on greater than zero, likely. -/
def execBgtzl (rs : Reg) (offset : BitVec 16) (s : State) : Outcome :=
  branchLikely s (!(s.readGpr rs).sle 0) (s.branchTarget offset)

/-- BLTZL (R353): branch on less than zero, likely. -/
def execBltzl (rs : Reg) (offset : BitVec 16) (s : State) : Outcome :=
  branchLikely s ((s.readGpr rs).getLsbD 63) (s.branchTarget offset)

/-- BGEZL (R354): branch on greater than or equal to zero, likely. -/
def execBgezl (rs : Reg) (offset : BitVec 16) (s : State) : Outcome :=
  branchLikely s (!(s.readGpr rs).getLsbD 63) (s.branchTarget offset)

/-- BLTZALL (R355): branch on less than zero and link, likely. -/
def execBltzall (rs : Reg) (offset : BitVec 16) (s : State) : Outcome :=
  branchLikely (s.linkTo 31) ((s.readGpr rs).getLsbD 63) (s.branchTarget offset)

/-- BGEZALL (R356): branch on greater than or equal to zero and link, likely. -/
def execBgezall (rs : Reg) (offset : BitVec 16) (s : State) : Outcome :=
  branchLikely (s.linkTo 31) (!(s.readGpr rs).getLsbD 63) (s.branchTarget offset)

/-- BC1F (R560): branch on condition bit 0 clear. -/
def execBc1f (offset : BitVec 16) (s : State) : Outcome := ifCp1 s (branch s (!s.cc0) (s.branchTarget offset))

/-- BC1T (R561): branch on condition bit 0 set. -/
def execBc1t (offset : BitVec 16) (s : State) : Outcome := ifCp1 s (branch s (s.cc0) (s.branchTarget offset))

/-- BC1FL (R562): branch on condition bit 0 clear, likely. -/
def execBc1fl (offset : BitVec 16) (s : State) : Outcome := ifCp1 s (branchLikely s (!s.cc0) (s.branchTarget offset))

/-- BC1TL (R563): branch on condition bit 0 set, likely. -/
def execBc1tl (offset : BitVec 16) (s : State) : Outcome := ifCp1 s (branchLikely s (s.cc0) (s.branchTarget offset))

end Sys2Proof.Machine
end

