-- ==== Sys2Proof/Machine/Devices.lean ====
section
/-! DEFINITION. What lies behind a physical address: the address windows (R135 to R138), the DDR2 controller
(spec/62_ddr2_controller.md), the I/O controller (spec/61_platform_devices.md), and the interrupt lines. -/

namespace Sys2Proof.Machine

/-! ### Registers of the I/O controller -/

/-- The word of the register block at offset `4 * n` (R704). -/
def State.reg (s : State) (n : Fin 64) : Word := s.io.regs[n]

/-- Replace one word of the register block. -/
def State.setReg (s : State) (n : Fin 64) (v : Word) : State :=
  { s with io := { s.io with regs := s.io.regs.set n v } }

/-- Word `n` of the PCI header (R705). -/
def State.header (s : State) (n : Fin 64) : Word := s.io.header[n]

/-- Replace one word of the PCI header. -/
def State.setHeader (s : State) (n : Fin 64) (v : Word) : State :=
  { s with io := { s.io with header := s.io.header.set n v } }

/-- Set flags in one word of the PCI header. -/
def State.orHeader (s : State) (n : Fin 64) (v : Word) : State := s.setHeader n (s.header n ||| v)

/-- A request that leaves the chip (R702). -/
def State.log (s : State) (r : BusRequest) : State := { s with busLog := r :: s.busLog }

/-- GenCfg.ov_en (R750). -/
def State.ovEn (s : State) : Bool := (s.reg 1).getLsbD 0
/-- LIOCfg.iopf_en (R720). -/
def State.iopfEn (s : State) : Bool := (s.reg 2).getLsbD 14
/-- Chip_Config0.Freq_scale (R731). -/
def State.freqScale (s : State) : BitVec 3 := (s.reg 32).extractLsb' 0 3
/-- Chip_Config0.disable_scache (R731). -/
def State.scacheDisabled (s : State) : Bool := (s.reg 32).getLsbD 3
/-- Chip_Config0.disable_ddr_conf (R731, R771). -/
def State.ddrConfDisabled (s : State) : Bool := (s.reg 32).getLsbD 8

/-! ### Interrupt lines (R740 to R743) -/

/-- One CONF_CTL register (R771). -/
def State.ddrCtl (s : State) (n : Fin 29) : Dword := s.ddr.ctl[n]

/-- Replace one CONF_CTL register. -/
def State.setDdrCtl (s : State) (n : Fin 29) (v : Dword) : State :=
  { s with ddr := { s.ddr with ctl := s.ddr.ctl.set n v } }

/-- The DDR2 controller's interrupt output: an unmasked cause, silenced by INT_MASK[10] (R780). -/
def State.ddrInt (s : State) : Bool :=
  let c := s.ddrCtl 16
  (c.extractLsb' 48 10 &&& ~~~(c.extractLsb' 32 10 : BitVec 10)) != 0 && !c.getLsbD 42

/-- The level of each GPIO pin: driven from outside for an input, by gpio_out for an output (R725). -/
def State.gpioLevel (s : State) : BitVec 4 :=
  let en : BitVec 4 := (s.reg 8).extractLsb' 0 4
  (s.pins.gpio &&& en) ||| ((s.reg 7).extractLsb' 0 4 &&& ~~~en)

/-- The electrical level of the fifteen interrupt lines (R741). -/
def State.rawLines (s : State) : BitVec 15 :=
  s.pins.int ++ BitVec.ofBool s.ddrInt ++ BitVec.ofBool s.pins.serr ++ BitVec.ofBool s.pins.perr ++
    s.pins.pciInt ++ s.gpioLevel

/-- Which lines are at their active level (R742). -/
def State.activeLines (s : State) : BitVec 15 :=
  ~~~(s.rawLines ^^^ (s.reg 11).extractLsb' 0 15)

/-- Intisr: the line for level triggering, the latch for pulse triggering (R742). -/
def State.intisr (s : State) : BitVec 15 :=
  let edge : BitVec 15 := (s.reg 9).extractLsb' 0 15
  (s.io.pulse &&& edge) ||| (s.activeLines &&& ~~~edge)

/-- The request on the fifth line: an enabled line among 10 to 0 (R742). -/
def State.irq5 (s : State) : Bool :=
  (s.intisr.extractLsb' 0 11 &&& (s.reg 14).extractLsb' 0 11) != 0

/-- A performance counter has overflowed and its interrupt is enabled (R53). -/
def State.perfOverflow (s : State) : Bool :=
  s.cp0.perfControl.getLsbD 4 && (s.cp0.perf0.getLsbD 31 || s.cp0.perf1.getLsbD 31)

/-- Cause.IP (R44, R671): the timer latch, the interrupt controller or the counters, the pins, software. -/
def State.causeIp (s : State) : BitVec 8 :=
  BitVec.ofBool s.cp0.cause.timer ++ BitVec.ofBool (s.irq5 || s.perfOverflow) ++
    s.intisr.extractLsb' 11 4 ++ s.cp0.cause.sw

/-- The condition under which an interrupt exception is taken (R670). -/
def State.interruptPending (s : State) : Bool :=
  (s.causeIp &&& s.im) != 0 && s.interruptsEnabled

/-- Whether the interrupt exception is taken now: the condition has held for `INTERRUPT_LATENCY` instructions (R670). -/
def State.interruptDue (s : State) : Bool :=
  s.interruptPending && decide (s.params.interruptLatency ≤ s.irqHeld)

/-- At each boundary the pulse latches take the lines that have just become active (R742). -/
def State.latchLines (s : State) : State :=
  let active := s.activeLines
  let edge : BitVec 15 := (s.reg 9).extractLsb' 0 15
  { s with io := { s.io with
      pulse := s.io.pulse ||| (active &&& ~~~s.io.lastActive &&& edge)
      lastActive := active } }

/-! ### Address windows (R135 to R138) -/

/-- Where the window stage sends a physical address. -/
inductive Target where
  /-- One of the window registers, and the byte in it (R136). -/
  | windowRegister (n : Fin 24) (byte : Nat)
  /-- The DDR2 controller, at this address. -/
  | ddr (addr : Nat)
  /-- The I/O controller, at this address. -/
  | io (addr : Nat)
  /-- No window hits (R138). -/
  | nowhere
  /-- A window whose MMAP[1:0] is 2 or 3. -/
  | badTarget
deriving DecidableEq, Repr

/-- The registers of one window: BASE, MASK, MMAP. -/
structure Window where
  base : Dword
  mask : Dword
  mmap : Dword
deriving DecidableEq, Repr

/-- The four windows of the CPU core (master 0). -/
def State.cpuWindows (s : State) : List Window :=
  [⟨s.windows[0], s.windows[4], s.windows[8]⟩, ⟨s.windows[1], s.windows[5], s.windows[9]⟩,
   ⟨s.windows[2], s.windows[6], s.windows[10]⟩, ⟨s.windows[3], s.windows[7], s.windows[11]⟩]

/-- The four windows of PCI DMA (master 1). -/
def State.dmaWindows (s : State) : List Window :=
  [⟨s.windows[12], s.windows[16], s.windows[20]⟩, ⟨s.windows[13], s.windows[17], s.windows[21]⟩,
   ⟨s.windows[14], s.windows[18], s.windows[22]⟩, ⟨s.windows[15], s.windows[19], s.windows[23]⟩]

/-- A window hits when the masked address is its base (R135). -/
def Window.hits (w : Window) (a : Dword) : Bool := (a &&& w.mask) == w.base

/-- The address a hitting window sends on (R135). -/
def Window.out (w : Window) (a : Dword) : Dword :=
  (a &&& ~~~w.mask) ||| (w.mmap &&& ~~~(0xFFFFF : Dword))

/-- The target of an address: the lowest-numbered hitting window (R135, D22). -/
def windowTarget (ws : List Window) (a : Dword) : Target :=
  match ws.find? (·.hits a) with
  | none => .nowhere
  | some w =>
    match (w.mmap.extractLsb' 0 2).toNat with
    | 0 => .ddr (w.out a).toNat
    | 1 => .io (w.out a).toNat
    | _ => .badTarget

/-- The number of a window register from its address (R136). -/
def windowRegisterNumber (pa : BitVec 40) : Option (Fin 24) :=
  if 0x3FF00000 ≤ pa then
    let n := (pa.toNat - 0x3FF00000) / 8
    if h : n < 24 then some ⟨n, h⟩ else none
  else none

/-- Where a physical address of the CPU goes: the window registers first, then the windows (R138). -/
def State.route (s : State) (pa : BitVec 40) : Target :=
  match windowRegisterNumber pa with
  | some n => .windowRegister n (pa.toNat % 8)
  | none => windowTarget s.cpuWindows (pa.setWidth 64)

/-! ### The DDR2 controller -/

/-- The bits of CONF_CTL registers that software writes (R775 to R778). -/
def ddrWritable (n : Nat) : Dword :=
  match n with
  | 0 => 0x0101010100010101
  | 1 => 0x0001010101010100
  | 2 => 0x0101010101010101
  | 3 => 0x0101010101010101
  | 4 => 0x0303030300010101
  | 5 => 0x0700000007070703
  | 6 => 0x0F07070707070707
  | 7 => 0x00000F00000F0F0F
  | 8 => 0x0F0F0F0F0F0F0F0F
  | 9 => 0x1F1F0F0F00000000
  | 10 => 0x7F7F7F3F3F1F1F1F
  | 11 => 0x7F7F7F7F7F7F7F7F
  | 12 => 0x01FFFFFFFF000000
  | 13 => 0x01FF01FF01FF01FF
  | 14 => 0x01FF01FF01FF01FF
  | 15 => 0x01FF01FF000001FF
  | 16 => 0x000007FF03FF01FF
  | 17 => 0x7FFF7FFF7FFF3FFF
  | 18 => 0xFFFF7FFF7FFF7FFF
  | 19 => 0xFFFFFFFFFFFFFFFF
  | 20 => 0xFFFF0000FFFFFFFF
  | 21 => 0x0000000000FFFFFF
  | 27 => 0x7
  | 28 => 0x1
  | _ => 0

/-- The size of the memory that the configuration describes (R782): chip selects, banks, rows, columns, 8 bytes.  DESIGN
CHOICE: the 8 bytes stay with REDUC = 1 too, which R782 names among what fixes the size but not in its formula
(notes/assumptions/40.md). -/
def State.ddrConfiguredSize (s : State) : Nat :=
  let csMap : BitVec 4 := (s.ddrCtl 7).extractLsb' 16 4
  let selects := ((List.range 4).filter fun i => csMap.getLsbD i).length
  let banks := if (s.ddrCtl 1).getLsbD 32 then 8 else 4
  let rows := 15 - ((s.ddrCtl 5).extractLsb' 8 3).toNat
  let columns := 14 - ((s.ddrCtl 5).extractLsb' 24 3).toNat
  selects * banks * 2 ^ rows * 2 ^ columns * 8

/-- `DDR_SIZE`: the host's parameter, or what the configuration gives (R782, R784). -/
def State.ddrSize (s : State) : Nat := s.params.ddrSize.getD s.ddrConfiguredSize

/-- POWER_DOWN or SREFRESH: the controller serves no access (R786, I33). -/
def State.ddrStopped (s : State) : Bool := (s.ddrCtl 2).getLsbD 48 || (s.ddrCtl 3).getLsbD 32

/-- Whether an address at the controller is in the configuration port (R771, D37). -/
def State.inDdrPort (s : State) (a : Nat) : Bool :=
  decide (0x0FFFFE00 ≤ a) && decide (a < 0x10000000) && !s.ddrConfDisabled

/-- Set one cause of INT_STATUS, or its "several" bit when it is already set (R780). -/
def State.ddrReport (s : State) (cause : Nat) : State :=
  let c := s.ddrCtl 16
  let bit := if c.getLsbD (48 + cause) then 48 + cause + 1 else 48 + cause
  s.setDdrCtl 16 (c ||| ((1 : Dword) <<< bit))

/-- Replace the bits of a CONF_CTL register under a mask. -/
def State.ddrField (s : State) (n : Fin 29) (mask v : Dword) : State :=
  s.setDdrCtl n ((s.ddrCtl n &&& ~~~mask) ||| (v &&& mask))

/-- An access of `n` bytes beyond the fitted memory is recorded (R784): its length in bytes, and 0 for its kind and
source, whose encodings are not given (N41).  A later one overwrites it: a DESIGN CHOICE (notes/assumptions/40.md). -/
def State.ddrOutOfRange (s : State) (a n : Nat) : State :=
  let s1 := s.ddrField 23 0x1FFFFFFFFF (BitVec.ofNat 64 a)
  let s2 := s1.ddrField 12 0x0000000000FF0000 (BitVec.ofNat 64 n <<< 16)
  let s3 := s2.ddrField 5 0x0000070000000000 0
  let s4 := s3.ddrField 9 0x000000000000000F 0
  s4.ddrReport 0

/-- DLL_LOCK takes a free value (R777; notes/assumptions/40.md). -/
def State.ddrDelayElements (s : State) : State := s.ddrField 15 0x0000000001FF0000 (s.free .dllLock 0 <<< 16)

/-- The DLL locks: DLLLOCKREG, and the number of delay elements it found in DLL_LOCK (R774, R777). -/
def State.ddrDllLock (s : State) : State := (s.ddrField 1 1 1).ddrDelayElements

/-- Memory initialisation completes (R774). -/
def State.ddrInitDone (s : State) : State :=
  let s1 := s.ddrDllLock.ddrField 16 0x0100000000000000 0x0100000000000000
  { s1 with ddr := { s1.ddr with ready := true, initLeft := none } }

/-- START goes from 0 to 1 (R774).  DESIGN CHOICE: a second time the delay starts again, and memory that was ready stays
ready and usable while it runs; START going back to 0 does not stop the delay (notes/assumptions/40.md). -/
def State.ddrStart (s : State) : State :=
  match s.params.ddrInitDelay with
  | 0 => s.ddrInitDone
  | n + 1 => { s with ddr := { s.ddr with initLeft := some n } }

/-! ### The memory behind the controller, with its bit errors (R781; notes/assumptions/40.md) -/

/-- Whether ECC detects errors: CTRL_RAW 01 or 11, not switched off (R775, R781). -/
def State.eccOn (s : State) : Bool := (s.ddrCtl 4).getLsbD 48 && !s.ddr.eccOff

/-- Whether ECC corrects 1-bit errors: CTRL_RAW 11 (R775). -/
def State.eccCorrects (s : State) : Bool := s.eccOn && (s.ddrCtl 4).getLsbD 49

/-- The bits that are wrong in a doubleword: 63:0 data, 71:64 check bits. -/
def State.flipsAt (s : State) (d : Nat) : BitVec 72 := cellGet 0 s.ddr.flips d

/-- How many bits are wrong in a doubleword. -/
def State.flipCount (s : State) (d : Nat) : Nat := ((List.range 72).filter fun i => (s.flipsAt d).getLsbD i).length

/-- A doubleword as the memory parts hold it: what was written, with its wrong bits. -/
def State.dramDoubleword (s : State) (d : Nat) : Dword :=
  ofBytes 64 (readBytes s.mem (8 * d) 8) ^^^ (s.flipsAt d).extractLsb' 0 64

/-- The data bits of a doubleword that a read gets wrong: none when its only error is corrected. -/
def State.deliveredFlips (s : State) (d : Nat) : Dword :=
  if s.eccCorrects && s.flipCount d == 1 then 0 else (s.flipsAt d).extractLsb' 0 64

/-- The byte a read of the memory delivers. -/
def State.dramByte (s : State) (a : Nat) : Byte :=
  readByte s.mem a ^^^ (s.deliveredFlips (a / 8)).extractLsb' (8 * (a % 8)) 8

/-- A 1-bit error is recorded (R781): address and data of the doubleword; syndrome and source are free values.  A later
one overwrites it: a DESIGN CHOICE (notes/assumptions/40.md). -/
def State.reportCorrectable (s : State) (d : Nat) : State :=
  let s1 := s.ddrField 21 0x1FFFFFFFFF000000 (BitVec.ofNat 64 (8 * d) <<< 24)
  let s2 := s1.ddrField 25 0xFFFFFFFFFFFFFFFF (s.dramDoubleword d)
  let s3 := s2.ddrField 12 0xFF (s.free .eccReport (8 * d))
  let s4 := s3.ddrField 7 0x000000000F000000 (s.free .eccReport (8 * d + 1) <<< 24)
  s4.ddrReport 2

/-- A 2-bit error is recorded (R781), with bit 2 of PORT_DATA_ERROR_TYPE; with ECC_DISBALE_W_UC_ERR ECC is switched
off.  A later one overwrites it: a DESIGN CHOICE.  DESIGN CHOICE: CTRL_RAW does not show the switch-off: it reads as
software wrote it, and `ddr.eccOff` holds the switch-off, which no register shows (notes/assumptions/40.md). -/
def State.reportUncorrectable (s : State) (d : Nat) : State :=
  let s1 := s.ddrField 22 0x1FFFFFFFFF (BitVec.ofNat 64 (8 * d))
  let s2 := s1.ddrField 26 0xFFFFFFFFFFFFFFFF (s.dramDoubleword d)
  let s3 := s2.ddrField 12 0xFF00 (s.free .eccReport (8 * d + 2) <<< 8)
  let s4 := s3.ddrField 7 0x0000000F00000000 (s.free .eccReport (8 * d + 3) <<< 32)
  let s5 := s4.ddrField 5 0x0004000000000000 0x0004000000000000
  let s6 := s5.ddrField 9 0x000000000F000000 (s.free .eccReport (8 * d + 4) <<< 24)
  let s7 := s6.ddrReport 4
  { s7 with ddr := { s7.ddr with eccOff := s7.ddr.eccOff || (s7.ddrCtl 1).getLsbD 24 } }

/-- What reading a doubleword reports: nothing, a 1-bit error, or more. -/
def State.reportDoubleword (s : State) (d : Nat) : State :=
  match s.flipCount d with
  | 0 => s
  | 1 => s.reportCorrectable d
  | _ => s.reportUncorrectable d

/-- The doublewords in which an access of `n` bytes lies. -/
def doublewordsOf (a n : Nat) : List Nat := (List.range ((a % 8 + n + 7) / 8)).map fun i => a / 8 + i

/-- What a read of `n` bytes reports while ECC is on (R781).  DESIGN CHOICE: whether ECC is on is decided once for a
read, so that a 2-bit error which switches it off still lets the later doublewords of that read be corrected and
reported (notes/assumptions/40.md). -/
def State.reportErrors (s : State) (a n : Nat) : State :=
  if s.eccOn then (doublewordsOf a n).foldl State.reportDoubleword s else s

/-- The bits of doubleword `d` that a write of `n` bytes at `a` leaves as they are: a byte it writes and the check bits
of a doubleword it touches become right. -/
def keptFlips (a n d : Nat) : BitVec 72 :=
  if a < 8 * d + 8 ∧ 8 * d < a + n then
    ofBytes 72 ((List.range 8).map fun i => if a ≤ 8 * d + i ∧ 8 * d + i < a + n then 0 else 0xFF)
  else BitVec.allOnes 72

/-- The wrong bits after a write of `n` bytes at `a`. -/
def clearFlips (flips : List (Nat × BitVec 72)) (a n : Nat) : List (Nat × BitVec 72) :=
  (flips.map fun p => (p.1, p.2 &&& keptFlips a n p.1)).filter fun p => p.2 != 0

/-- A read of `n` bytes of the memory (R774, R784, R786). -/
def State.ddrMemRead (s : State) (a n : Nat) : List Byte × State :=
  if s.ddrSize ≤ a then (List.replicate n 0, s.ddrOutOfRange a n)
  else if !s.ddr.ready then ((List.range n).map fun i => (s.free .ddrNotReady (a + i)).setWidth 8, s)
  else ((List.range n).map fun i => s.dramByte (a + i), s.reportErrors a n)

/-- A write of bytes to the memory (R774, R784, R786). -/
def State.ddrMemWrite (s : State) (a : Nat) (bytes : List Byte) : State :=
  if s.ddrSize ≤ a then s.ddrOutOfRange a bytes.length
  else if !s.ddr.ready then s
  else { s with
    mem := writeBytes s.mem a bytes
    ddr := { s.ddr with flips := clearFlips s.ddr.flips a bytes.length } }

/-! ### The register blocks of the I/O controller -/

/-- A read of the register block at offset `4 * n` (R704, R725, R740). -/
def State.readReg (s : State) (n : Fin 64) : Word :=
  match n.val with
  | 7 => ((0 : BitVec 12) ++ s.gpioLevel ++ (0 : BitVec 12) ++ ((s.reg 7).extractLsb' 0 4 : BitVec 4) : Word)
  | 12 => 0
  | 13 => 0
  | 15 => s.intisr.setWidth 32
  | _ => s.reg n

/-- The bits of the register block that software writes (R712 to R752). -/
def regWritable (n : Nat) : Word :=
  match n with
  | 1 => 0x1
  | 2 => 0x7FFC
  | 4 => 0x3FFFF
  | 5 => 0x7F
  | 6 => 0x1FFFF
  | 7 => 0xF
  | 8 => 0xF
  | 9 => 0x780F
  | 11 => 0x780F
  | 16 => 0xFFFFFFFF
  | 17 => 0xFFFFFFFF
  | 18 => 0xFFFFFFFF
  | 19 => 0xFFFFFFFF
  | 20 => 0xFFFFF00E
  | 21 => 0xFFFFFFFF
  | 22 => 0xFFFFF00E
  | 23 => 0xFFFFFFFF
  | 24 => 0xFFFFF00E
  | 25 => 0xFFFFFFFF
  | 26 => 0x00FFFFFF
  | 32 => 0x071F
  | 33 => 0x1FFFF
  | 34 => 0x7FF
  | 40 => 0x7FF
  | 41 => 0x3FFFFF
  | 42 => 0x3FFFFF
  | 43 => 0xFFFFFFFF
  | 44 => 0xFFFFFFFF
  | 45 => 0x0FFFFFFF
  | 46 => 0x1FFFFFFF
  | 47 => 0x1FFFF
  | 48 => 0x1FFF
  | 49 => 0x7FF
  | 50 => 0xFFFFFFFF
  | 51 => 0xFFFFFFFF
  | _ => 0

/-- The physical address of a secondary cache line from its key and its tag (R77). -/
def SLine.address (l : SLine) (key : Nat) : BitVec 40 :=
  l.tag ++ BitVec.ofNat 12 (key / 4) ++ (0 : BitVec 5)

/-- Whether a secondary cache line is dirty (R77). -/
def SLine.dirty (l : SLine) : Bool := l.state == 3

/-- Disabling the secondary cache while it holds dirty lines: what later reads of those lines answer is open (I37), so
their bytes in memory become free values and the lines leave the cache. -/
def State.loseDirtyLines (s : State) : State :=
  let dirty := s.scache.filter fun p => p.2.dirty
  let mem := dirty.foldl (fun m p =>
    let pa := p.2.address p.1
    match s.route pa with
    | .ddr a => writeBytes m a ((List.range 32).map fun i => (s.free .scacheLost (pa.toNat + i)).setWidth 8)
    | _ => m) s.mem
  { s with mem := mem, scache := s.scache.filter fun p => !p.2.dirty }

/-- A write of the byte lanes `lanes` of the register block at offset `4 * n` (R701, R731, R740, R745). -/
def State.writeReg (s : State) (n : Fin 64) (lanes v : Word) : State :=
  let w := regWritable n.val &&& lanes
  let s1 := s.setReg n ((s.reg n &&& ~~~w) ||| (v &&& w))
  let ones := v &&& lanes
  match n.val with
  | 12 => s.setReg 14 (s.reg 14 ||| (ones &&& 0x7FF))
  | 13 =>
    let t := s.setReg 14 (s.reg 14 &&& ~~~ones)
    { t with io := { t.io with pulse := t.io.pulse &&& ~~~(ones.extractLsb' 0 15) } }
  | 26 =>
    if (s1.reg 26).getLsbD 1 != (s.reg 26).getLsbD 1 then s1.setReg 27 (s1.reg 27 &&& ~~~(0xFF : Word)) else s1
  | 32 => if !s.scacheDisabled && s1.scacheDisabled then s1.loseDirtyLines else s1
  | _ => s1

/-- The bits of the PCI header that software writes (R705 to R711).  Command and Status of PCI-X, at 0xE0 and 0xE4, to
which the source gives no fields, are read-only: a DESIGN CHOICE (N47; notes/assumptions/55.md). -/
def headerWritable (n : Nat) : Word :=
  match n with
  | 1 => 0x0000077F
  | 3 => 0x0000FFFF
  | 4 => 0xFFFFFFFF
  | 5 => 0xFFFFFFFF
  | 6 => 0xFFFFFFFF
  | 7 => 0xFFFFFFFF
  | 8 => 0xFFFFFFFF
  | 9 => 0xFFFFFFFF
  | 15 => 0x000000FF
  | 16 => 0x39FFFFFB
  | 19 => 0x3F000000
  | 21 => 0xFFFFFFFF
  | 22 => 0x3E01FFFF
  | _ => 0

/-- The bits of the PCI header that writing 1 clears (R705 to R710).  Status bits 31, 30 and 24, to which the source
gives no layout, are among them: PRESUMED (N47; notes/assumptions/55.md). -/
def headerClears (n : Nat) : Word :=
  match n with
  | 1 => 0xF9000000
  | 16 => 0xC0000000
  | 18 => 0xFFFFFFFF
  | 19 => 0x00003800
  | 20 => 0xFFFFFFFF
  | 22 => 0x00020000
  | _ => 0

/-- A write of the byte lanes `lanes` of word `n` of the PCI header. -/
def State.writeHeader (s : State) (n : Fin 64) (lanes v : Word) : State :=
  let w := headerWritable n.val &&& lanes
  let c := headerClears n.val &&& lanes &&& v
  s.setHeader n (((s.header n &&& ~~~w) ||| (v &&& w)) &&& ~~~c)

/-! ### Regions of the I/O controller (R139) -/

/-- The block that answers an address at the I/O controller. -/
inductive Region where
  /-- Below 0x1000_0000: no block (I36). -/
  | unassigned
  /-- The video acceleration unit, while enabled (R750). -/
  | video (offset : Nat)
  /-- PCI memory, with the bus address (R714). -/
  | pciMem (addr : Nat)
  /-- Local IO: the select, the offset, and whether block reads are taken (R720). -/
  | lio (rom : Bool) (offset : Nat) (block : Bool)
  /-- The boot ROM (R720). -/
  | bootRom (offset : Nat)
  /-- PCI I/O space (R715). -/
  | pciIo (port : Nat)
  /-- The PCI header (R705). -/
  | header (offset : Nat)
  /-- The register block (R704). -/
  | regs (offset : Nat)
  /-- The PCI configuration window (R716). -/
  | pciCfg (offset : Nat)
  /-- An address of no region. -/
  | hole
deriving DecidableEq, Repr

/-- The PCI bus address of an access in PCI MEM Lo`k` (R714). -/
def State.pciLoAddress (s : State) (k a : Nat) : Nat :=
  ((s.reg 4).extractLsb' (6 * k) 6).toNat * 0x4000000 + a % 0x4000000

/-- The region of an address at the I/O controller (R139). -/
def State.region (s : State) (a : Nat) : Region :=
  if a < 0x10000000 then .unassigned
  else if s.ovEn && decide (0x13F00000 ≤ a) && decide (a < 0x14000000) then .video (a - 0x13F00000)
  else if a < 0x14000000 then .pciMem (s.pciLoAddress 0 a)
  else if a < 0x18000000 then .pciMem (s.pciLoAddress 1 a)
  else if a < 0x1C000000 then .pciMem (s.pciLoAddress 2 a)
  else if a < 0x1E000000 then .lio true (a - 0x1C000000) true
  else if a < 0x1FC00000 then .lio false (a - 0x1E000000) true
  else if a < 0x1FD00000 then .bootRom (a - 0x1FC00000)
  else if a < 0x1FE00000 then .pciIo (a - 0x1FD00000)
  else if a < 0x1FE00100 then .header (a - 0x1FE00000)
  else if a < 0x1FE00200 then .regs (a - 0x1FE00100)
  else if a < 0x1FE80000 then .hole
  else if a < 0x1FE90000 then .pciCfg (a - 0x1FE80000)
  else if a < 0x1FF00000 then .hole
  else if a < 0x20000000 then .lio false (a - 0x1FF00000) s.iopfEn
  else if a < 0x10000000000 then .pciMem a
  else .hole

/-- Whether the prefetchable window takes a block read (R718): none while its mask is 0, its reset value, at which it
accepts nothing until software sets it (notes/assumptions/43.md). -/
def State.inMemWindow (s : State) (a : Nat) : Bool :=
  let mask : Dword := s.reg 19 ++ s.reg 18
  mask != 0 && (BitVec.ofNat 64 a &&& mask) == (s.reg 17 ++ s.reg 16 : Dword)

/-- The bus address of a configuration cycle (R716). -/
def State.cfgAddress (s : State) (offset : Nat) : Nat :=
  let c := s.reg 6
  (c.extractLsb' 0 16).toNat * 0x10000 + offset / 4 * 4 + (if c.getLsbD 16 then 1 else 0)

/-- The widths that the word, halfword and byte regions take (R139, R701). -/
def narrowWidth (n : Nat) : Bool := n == 1 || n == 2 || n == 4

/-- The byte lanes of a 32-bit register that an access names. -/
def laneMask (offset n : Nat) : Word :=
  ofBytes 32 (List.replicate n 0xFF) <<< (8 * (offset % 4))

/-- The bytes of an access moved to their lanes. -/
def laneValue (offset : Nat) (bytes : List Byte) : Word := ofBytes 32 bytes <<< (8 * (offset % 4))

/-- The number of a 32-bit register of a 256-byte block. -/
def wordNumber (offset : Nat) : Fin 64 := ⟨offset / 4 % 64, Nat.mod_lt _ (by decide)⟩

/-- The data a device outside the chip answers: free values (R702). -/
def State.deviceBytes (s : State) (addr n : Nat) : List Byte :=
  (List.range n).map fun i => (s.free .deviceData (addr + i)).setWidth 8

/-- A read on the PCI bus (R702, R710, R716): the data, all ones with Received Master Abort, or endless retry, which
ends with all ones when a retry limit is set.  DESIGN CHOICE: the chip's own PCI accesses complete in program order
also with mas_read_defer or mas_write_defer = 1, which R708 says may complete out of it (notes/assumptions/41.md). -/
def pciRead (s : State) (addr n : Nat) (request : BusRequest) : Res (List Byte) :=
  let s1 := s.log request
  match Config.busReply s.stamp addr with
  | .data => .ok (s.deviceBytes addr n) s1
  | .masterAbort => .ok (List.replicate n 0xFF) (s1.orHeader 1 0x20000000)
  | .retryForever =>
    if (s.header 22).extractLsb' 8 8 = 0 then .fault .pciRetryForever
    else .ok (List.replicate n 0xFF) (s1.orHeader 22 0x00020000)

/-- A read of `n` bytes at the I/O controller; 32 bytes are a block read (R139). -/
def ioRead (s : State) (a n : Nat) : Res (List Byte) :=
  match s.region a with
  | .unassigned => .ok (List.replicate n 0) s
  | .video offset => .ok ((List.range n).map fun i => (s.free .videoRead (offset + i)).setWidth 8) s
  | .pciMem addr =>
    if n = 32 && !s.inMemWindow a then .refuse .deviceAccess else pciRead s addr n (.pciMemRead addr n)
  | .lio rom offset block =>
    if n = 32 && !block then .refuse .deviceAccess
    else .ok (s.deviceBytes a n) (s.log (.lioRead rom offset n))
  | .bootRom offset => .ok (readBytes s.rom offset n) s
  | .pciIo port => if narrowWidth n then pciRead s port n (.pciIoRead port n) else .refuse .deviceAccess
  | .header offset =>
    if narrowWidth n then .ok (toBytes (s.header (wordNumber offset) >>> (8 * (offset % 4))) n) s
    else .refuse .deviceAccess
  | .regs offset =>
    if narrowWidth n then .ok (toBytes (s.readReg (wordNumber offset) >>> (8 * (offset % 4))) n) s
    else .refuse .deviceAccess
  | .pciCfg offset =>
    if narrowWidth n then
      pciRead s (s.cfgAddress offset) n (.pciCfgRead (s.cfgAddress offset) (offset % 4) n)
    else .refuse .deviceAccess
  | .hole => .fault .unmappedIo

/-- A write of bytes at the I/O controller (R139).  DESIGN CHOICE: writes to PCI leave in program order, also with
mas_write_defer or mas_read_defer = 1 (R708; notes/assumptions/41.md). -/
def ioWrite (s : State) (a : Nat) (bytes : List Byte) : Res Unit :=
  let n := bytes.length
  match s.region a with
  | .unassigned => .ok () s
  | .video offset => .ok () (s.log (.videoWrite offset bytes))
  | .pciMem addr => .ok () (s.log (.pciMemWrite addr bytes))
  | .lio rom offset _ => .ok () (s.log (.lioWrite rom offset bytes))
  | .bootRom offset => .ok () (s.log (.lioWrite true offset bytes))
  | .pciIo port => if narrowWidth n then .ok () (s.log (.pciIoWrite port bytes)) else .refuse .deviceAccess
  | .header offset =>
    if narrowWidth n then .ok () (s.writeHeader (wordNumber offset) (laneMask offset n) (laneValue offset bytes))
    else .refuse .deviceAccess
  | .regs offset =>
    if narrowWidth n then .ok () (s.writeReg (wordNumber offset) (laneMask offset n) (laneValue offset bytes))
    else .refuse .deviceAccess
  | .pciCfg offset =>
    if narrowWidth n then .ok () (s.log (.pciCfgWrite (s.cfgAddress offset) (offset % 4) bytes))
    else .refuse .deviceAccess
  | .hole => .fault .unmappedIo

/-! ### The configuration port of the DDR2 controller (R771, R772) -/

/-- A 64-bit read of a CONF_CTL register; INT_STATUS[10] is the OR of the causes (R772, R780). -/
def State.ddrPortRead (s : State) (n : Fin 29) : Dword :=
  if n = 16 then
    let c := s.ddrCtl 16
    c ||| (if c.extractLsb' 48 10 = 0 then 0 else 0x0400000000000000)
  else s.ddrCtl n

/-- The registers after a 64-bit write of one of them (R772, R774, R780, R781). -/
def State.ddrCtlWrite (s : State) (n : Fin 29) (v : Dword) : State :=
  let old := s.ddrCtl n
  let s1 := s.ddrField n (ddrWritable n.val) v
  match n.val with
  | 3 => if !old.getLsbD 40 && v.getLsbD 40 then s1.ddrStart else s1
  | 4 => { s1 with ddr := { s1.ddr with eccOff := false } }
  | 16 => s1.ddrField 16 ((v.extractLsb' 16 10).setWidth 64 <<< 48) 0
  | _ => s1

/-- The register at an address in the configuration port (R771), which fills 512 bytes from a multiple of 512: slots of
16 bytes with a register in the lower half. -/
def ddrPortSlot (a : Nat) : Option (Fin 29) :=
  let n := a % 512 / 16
  if h : n < 29 ∧ a % 16 = 0 then some ⟨n, h.1⟩ else none

/-- A 64-bit write in the configuration port: a register, or nothing between them (R771). -/
def State.ddrSlotWrite (s : State) (a : Nat) (bytes : List Byte) : State :=
  match ddrPortSlot a with
  | some r => s.ddrCtlWrite r (ofBytes 64 bytes)
  | none => s

end Sys2Proof.Machine
end

