-- ==== Sys2Proof/Machine/Bus.lean ====
section
/-! DEFINITION. The requests that reach the devices: those of PCI masters through the incoming windows and the PCIDMA
windows (R712, R713), which may wait (R717, R775), and those of the CPU core through its address windows (R103,
R135). -/

namespace Sys2Proof.Machine

/-! ### Accesses of PCI masters and those that wait (R717, R775, R786; notes/assumptions/44.md) -/

/-- An access of a PCI master that the I/O controller does not end stops the master and not the chip: it gets no answer
and a write is lost. -/
def masterOnly (s : State) (r : Res Unit) : Res Unit :=
  match r with
  | .fault _ => .ok () s
  | r => r

/-- A beat of a PCI master writes at the I/O controller, at most four bytes at a time (R135, R713). -/
def dmaWriteIo (s : State) (a : Nat) (bytes : List Byte) : Res Unit :=
  let part (s : State) (a : Nat) (bytes : List Byte) : Res Unit := masterOnly s (ioWrite s a bytes)
  if bytes.length = 8 then (part s a (bytes.take 4)).bind fun _ s => part s (a + 4) (bytes.drop 4)
  else part s a bytes

/-- A beat of a PCI master that needs the memory, which the controller does not serve in POWER_DOWN and SREFRESH. -/
def DmaBeat.needsMemory (b : DmaBeat) : Bool :=
  match b with
  | .read _ _ _ => true
  | .write _ _ => true
  | .portWrite _ _ => false
  | .ioWrite _ _ => false

/-- One beat of a PCI master is served. -/
def serveBeat (s : State) (b : DmaBeat) : Res Unit :=
  match b with
  | .read busAddr a n => .ok () ((s.ddrMemRead a n).2.log (.dmaData busAddr (s.ddrMemRead a n).1))
  | .write a bytes => .ok () (s.ddrMemWrite a bytes)
  | .portWrite a bytes => .ok () (s.ddrSlotWrite a bytes)
  | .ioWrite a bytes => dmaWriteIo s a bytes

/-- The waiting beats are served in order, up to one that needs the memory while the controller is stopped. -/
def serveBeats (s : State) (beats : List DmaBeat) : Res Unit :=
  match beats with
  | [] => .ok () { s with ddr := { s.ddr with waiting := [] } }
  | b :: rest =>
    if b.needsMemory && s.ddrStopped then .ok () { s with ddr := { s.ddr with waiting := b :: rest } }
    else (serveBeat s b).bind fun _ s => serveBeats s rest

/-- The waiting beats go on as far as they can. -/
def serveWaiting (s : State) : Res Unit := serveBeats s s.ddr.waiting

/-- A read of a PCI master waits. -/
def State.readWaits (s : State) : Bool :=
  s.ddr.waiting.any fun b =>
    match b with
    | .read _ _ _ => true
    | _ => false

/-- PCIX_Bridge_Cfg.pcix_ro_en: the bridge lets writes pass reads (R717). -/
def State.writesPass (s : State) : Bool := (s.reg 5).getLsbD 6

/-- A beat that arrives waits if it needs the memory and the controller is stopped, or if it is a write that may not
pass a read that waits (R717, R775); the rest of the order among beats is a DESIGN CHOICE (notes/assumptions/44.md), and
so is that a beat waits before it is looked at whether it is out of range or comes before initialisation
(notes/assumptions/40.md). -/
def State.beatWaits (s : State) (b : DmaBeat) : Bool :=
  if b.needsMemory then s.ddrStopped else s.readWaits && !s.writesPass

/-- A beat of a PCI master arrives: it joins those that wait or is served. -/
def arriveBeat (s : State) (b : DmaBeat) : Res Unit :=
  if s.beatWaits b then .ok () { s with ddr := { s.ddr with waiting := s.ddr.waiting ++ [b] } }
  else (serveBeat s b).bind fun _ s => serveWaiting s

/-! ### Accesses at the DDR2 controller by address -/

/-- A read of `n` bytes in the configuration port (R771, R772, I30). -/
def ddrPortAccessRead (s : State) (a n : Nat) : Res (List Byte) :=
  if n = 8 then
    match ddrPortSlot a with
    | some r => .ok (toBytes (s.ddrPortRead r) 8) s
    | none => .ok (List.replicate 8 0) s
  else .refuse .ddrPortAccess

/-- A write of bytes in the configuration port (R771, R772, I30); one that clears POWER_DOWN and SREFRESH lets the
waiting accesses go on (R775). -/
def ddrPortAccessWrite (s : State) (a : Nat) (bytes : List Byte) : Res Unit :=
  if bytes.length = 8 then serveWaiting (s.ddrSlotWrite a bytes) else .refuse .ddrPortAccess

/-- A read of `n` bytes by the CPU at the DDR2 controller (R786).  DESIGN CHOICE: one while the controller is stopped
is stuck (I33) also where it is out of range (I32) or comes before initialisation (I31), and is not recorded
(notes/assumptions/40.md). -/
def ddrRead (s : State) (a n : Nat) : Res (List Byte) :=
  if s.inDdrPort a then ddrPortAccessRead s a n
  else if s.ddrStopped then .fault .ddrStopped
  else .ok (s.ddrMemRead a n).1 (s.ddrMemRead a n).2

/-- A write of bytes by the CPU at the DDR2 controller (R786).  DESIGN CHOICE: one while the controller is stopped
is stuck (I33) also where it is out of range (I32) or comes before initialisation (I31), and is not recorded
(notes/assumptions/40.md). -/
def ddrWrite (s : State) (a : Nat) (bytes : List Byte) : Res Unit :=
  if s.inDdrPort a then ddrPortAccessWrite s a bytes
  else if s.ddrStopped then .fault .ddrStopped
  else .ok () (s.ddrMemWrite a bytes)

/-! ### DMA (R712, R713, R717; notes/assumptions/44.md) -/

/-- The selection register of incoming window `n`. -/
def State.hitSelect (s : State) (n : Nat) : Dword :=
  s.readReg (wordNumber (0x54 + 8 * n)) ++ s.readReg (wordNumber (0x50 + 8 * n))

/-- The base address of incoming window `n`. -/
def State.incomingBase (s : State) (n : Nat) : Dword :=
  s.header (wordNumber (0x14 + 8 * n)) ++ s.header (wordNumber (0x10 + 8 * n))

/-- Whether incoming window `n` takes a PCI address (R712). -/
def State.incomingHit (s : State) (n : Nat) (a : Dword) : Bool :=
  let sel := s.hitSelect n
  let mask : Dword := (sel &&& 0x7FFFFFFFFFFFF000) ||| 0x8000000000000000
  match (sel.extractLsb' 1 2).toNat with
  | 0 => (a &&& mask &&& 0xFFFFFFFF) == (s.incomingBase n &&& mask &&& 0xFFFFFFFF)
  | 2 => (a &&& mask) == (s.incomingBase n &&& mask)
  | _ => false

/-- Whether the chip answers a PCI memory address. -/
def State.incoming (s : State) (a : Dword) : Bool :=
  s.incomingHit 0 a || s.incomingHit 1 a || s.incomingHit 2 a

/-- The lowest-numbered incoming window that takes an address is not prefetchable: pref_en is 0 (R712). -/
def State.incomingPlain (s : State) (a : Dword) : Bool :=
  match [0, 1, 2].find? fun n => s.incomingHit n a with
  | some n => !(s.hitSelect n).getLsbD 3
  | none => false

/-- An access that a window takes; in a region that is not prefetchable it sets ISR_40.tar_read_io (R706). -/
def State.acceptDma (s : State) (a : Dword) : State :=
  if s.incomingPlain a then s.orHeader 16 0x80000000 else s

/-- The bytes of one beat: the largest of 8, 4, 2 and 1 that the address is aligned to and that are left. -/
def beatSize (addr left : Nat) : Nat :=
  if addr % 8 = 0 ∧ 8 ≤ left then 8 else if addr % 4 = 0 ∧ 4 ≤ left then 4
  else if addr % 2 = 0 ∧ 2 ≤ left then 2 else 1

/-- A beat of a PCI master reads at the I/O controller, at most four bytes at a time (R135, R713). -/
def dmaReadIo (s : State) (busAddr a n : Nat) : Res Unit :=
  let part (s : State) (busAddr a n : Nat) : Res Unit :=
    masterOnly s ((ioRead s a n).bind fun bytes s => .ok () (s.log (.dmaData busAddr bytes)))
  if n = 8 then (part s busAddr a 4).bind fun _ s => part s (busAddr + 4) (a + 4) 4 else part s busAddr a n

/-- A beat of a PCI master reads at the DDR2 controller: the port at once, the memory when the controller serves it
(R771, R775, R786). -/
def dmaReadDdr (s : State) (busAddr a n : Nat) : Res Unit :=
  if s.inDdrPort a then
    (ddrPortAccessRead s a n).bind fun bytes s => .ok () (s.log (.dmaData busAddr bytes))
  else arriveBeat s (.read busAddr a n)

/-- A beat of a PCI master writes at the DDR2 controller (R717, R771, R775). -/
def dmaWriteDdr (s : State) (a : Nat) (bytes : List Byte) : Res Unit :=
  if s.inDdrPort a then
    if bytes.length = 8 then arriveBeat s (.portWrite a bytes) else .refuse .ddrPortAccess
  else arriveBeat s (.write a bytes)

/-- One beat of a read by a PCI master: it must hit an incoming window, then a PCIDMA window says where it goes (R712,
R713); one that hits no PCIDMA window reads zeros. -/
def dmaReadBeat (s : State) (addr n : Nat) : Res Unit :=
  let a := BitVec.ofNat 64 addr
  if !s.incoming a then .ok () s
  else
    let s := s.acceptDma a
    match windowTarget s.dmaWindows a with
    | .ddr x => dmaReadDdr s addr x n
    | .io x => dmaReadIo s addr x n
    | .badTarget => .refuse .windowTarget
    | _ => .ok () (s.log (.dmaData addr (List.replicate n 0)))

/-- One beat of a write by a PCI master, which does not pass a read that waits unless pcix_ro_en lets it (R717); one
that hits no PCIDMA window is dropped. -/
def dmaWriteBeat (s : State) (addr : Nat) (bytes : List Byte) : Res Unit :=
  let a := BitVec.ofNat 64 addr
  if !s.incoming a then .ok () s
  else
    let s := s.acceptDma a
    match windowTarget s.dmaWindows a with
    | .ddr x => dmaWriteDdr s x bytes
    | .io x => arriveBeat s (.ioWrite x bytes)
    | .badTarget => .refuse .windowTarget
    | _ => .ok () s

/-- The beats of a read of `count` bytes, at most `fuel` of them. -/
def dmaReadBeats (s : State) (addr count : Nat) : Nat → Res Unit
  | 0 => .ok () s
  | fuel + 1 =>
    if count = 0 then .ok () s
    else (dmaReadBeat s addr (beatSize addr count)).bind fun _ s =>
      dmaReadBeats s (addr + beatSize addr count) (count - beatSize addr count) fuel

/-- The beats of a write, at most `fuel` of them. -/
def dmaWriteBeats (s : State) (addr : Nat) (bytes : List Byte) : Nat → Res Unit
  | 0 => .ok () s
  | fuel + 1 =>
    if bytes.isEmpty then .ok () s
    else (dmaWriteBeat s addr (bytes.take (beatSize addr bytes.length))).bind fun _ s =>
      dmaWriteBeats s (addr + beatSize addr bytes.length) (bytes.drop (beatSize addr bytes.length)) fuel

/-- A PCI master writes bytes. -/
def dmaWrite (s : State) (addr : Nat) (bytes : List Byte) : Res Unit := dmaWriteBeats s addr bytes bytes.length

/-- A PCI master reads bytes: they leave the chip. -/
def dmaRead (s : State) (addr count : Nat) : Res Unit := dmaReadBeats s addr count count

/-! ### Physical accesses -/

/-- A read request of the CPU: `n` bytes inside an aligned doubleword, or a block of 32 bytes (R103, R135). -/
def physRead (s : State) (pa : BitVec 40) (n : Nat) : Res (List Byte) :=
  match s.route pa with
  | .windowRegister r byte =>
    if n ≤ 8 then .ok (toBytes (s.windows[r] >>> (8 * byte)) n) s else .refuse .windowRegisterAccess
  | .ddr a => ddrRead s a n
  | .io a => ioRead s a n
  | .nowhere => .ok (List.replicate n 0) s
  | .badTarget => .refuse .windowTarget

/-- A write request of the CPU at the I/O controller.  One that goes to PCI memory and whose bus address an incoming
window takes comes in again and is written there too (R713).  That a read of the CPU does not come in, and that a PCI
master's own write does not come in a second time, is a DESIGN CHOICE (notes/assumptions/44.md). -/
def cpuIoWrite (s : State) (a : Nat) (bytes : List Byte) : Res Unit :=
  (ioWrite s a bytes).bind fun _ t =>
    match s.region a with
    | .pciMem addr => dmaWrite t addr bytes
    | _ => .ok () t

/-- A write request of the CPU (R103, R135, R138, R713). -/
def physWrite (s : State) (pa : BitVec 40) (bytes : List Byte) : Res Unit :=
  match s.route pa with
  | .windowRegister r _ =>
    if bytes.length = 8 then .ok () { s with windows := s.windows.set r (ofBytes 64 bytes) }
    else .refuse .windowRegisterAccess
  | .ddr a => ddrWrite s a bytes
  | .io a => cpuIoWrite s a bytes
  | .nowhere => .ok () s
  | .badTarget => .refuse .windowTarget

/-- Whether a read at a physical address answers with an error: `BUS_ERROR` (R648, D36). -/
def State.busErrorAt (s : State) (pa : BitVec 40) (fetch : Bool) : Bool :=
  s.busErr.any fun r => decide (r.first ≤ pa.toNat) && decide (pa.toNat ≤ r.last) && r.fetch == fetch

end Sys2Proof.Machine
end

