-- ==== Sys2Proof/Machine/Tlb.lean ====
section
/-! DEFINITION. Virtual addresses: the segments of R110, the JTLB (R120 to R126), the ITLB (R128) and the function
AddressTranslation (R129). -/

namespace Sys2Proof.Machine

/-- The kinds of access AddressTranslation distinguishes (R129). -/
inductive Access where
  | fetch
  | load
  | store
deriving DecidableEq, Repr

/-- Whether an access is a store, which decides between the codes of its exceptions. -/
def Access.isStore : Access → Bool
  | .store => true
  | _ => false

/-! ### Segments (R110 to R116) -/

/-- Where a virtual address lies for the current mode. -/
inductive Segment where
  /-- In no segment the mode may reach: address error. -/
  | illegal
  /-- Translated by the TLB. -/
  | mapped
  /-- Not translated: the physical address and the cache attribute. -/
  | direct (pa : BitVec 40) (attr : BitVec 3)
deriving DecidableEq, Repr

/-- The segment of a virtual address (R110); `k0` is Config.K0. -/
def segmentOf (m : Mode) (k0 : BitVec 3) (va : Dword) : Segment :=
  match (va.extractLsb' 62 2).toNat with
  | 0 => if va.extractLsb' 40 22 = 0 then .mapped else .illegal
  | 1 => if va.extractLsb' 40 22 = 0 && m != .user then .mapped else .illegal
  | 2 =>
    if m == .kernel && va.extractLsb' 40 19 == 0 then
      .direct (va.extractLsb' 0 40) (va.extractLsb' 59 3)
    else .illegal
  | _ =>
    if 0xFFFFFFFF80000000 ≤ va then
      match (va.extractLsb' 29 2).toNat with
      | 0 => if m == .kernel then .direct ((va.extractLsb' 0 29).setWidth 40) k0 else .illegal
      | 1 => if m == .kernel then .direct ((va.extractLsb' 0 29).setWidth 40) 2 else .illegal
      | 2 => if m != .user then .mapped else .illegal
      | _ => if m == .kernel then .mapped else .illegal
    else if m == .kernel && va < 0xC00000FF80000000 then .mapped
    else .illegal

/-! ### The JTLB -/

/-- The page offset bits of a mask: 12 plus its ones (R121). -/
def offsetBits (mask : BitVec 12) : Nat :=
  12 + ((List.range 12).filter fun i => mask.getLsbD i).length

/-- The bits of VPN2 that a mask takes out of the comparison (R120(b)). -/
def vpn2Mask (mask : BitVec 12) : BitVec 27 := (0 : BitVec 15) ++ mask

/-- Whether an entry matches a region, a VPN2 and an ASID (R120, R440). -/
def TlbEntry.hit (e : TlbEntry) (r : BitVec 2) (vpn2 : BitVec 27) (asid : BitVec 8) : Bool :=
  (e.r == r) && ((e.vpn2 &&& ~~~vpn2Mask e.mask) == (vpn2 &&& ~~~vpn2Mask e.mask)) && (e.g || e.asid == asid)

/-- The ASID of the current process: EntryHi[7:0] (R41). -/
def State.asid (s : State) : BitVec 8 := s.cp0.entryHi.extractLsb' 0 8

/-- The numbers of the JTLB entries that match. -/
def State.tlbHits (s : State) (r : BitVec 2) (vpn2 : BitVec 27) (asid : BitVec 8) : List (Fin 64) :=
  (List.finRange 64).filter fun i => s.tlb[i].hit r vpn2 asid

/-- What a lookup answers. -/
inductive TlbLookup where
  | miss
  | found (i : Fin 64)
  /-- More than one entry matches, which is undefined (R71). -/
  | several
deriving DecidableEq, Repr

/-- Look a region, a VPN2 and an ASID up in the JTLB. -/
def State.tlbLookup (s : State) (r : BitVec 2) (vpn2 : BitVec 27) (asid : BitVec 8) : TlbLookup :=
  match s.tlbHits r vpn2 asid with
  | [] => .miss
  | [i] => .found i
  | _ => .several

/-- The page of a pair that an address selects: bit `n` of the address, `n` the number of offset bits (R121). -/
def TlbEntry.page (e : TlbEntry) (va : Dword) : TlbPage :=
  if va.getLsbD (offsetBits e.mask) then e.odd else e.even

/-- The physical address in a page with `n` offset bits: the page frame number gives the bits above (R121). -/
def pageAddress (n : Nat) (pfn : BitVec 28) (va : Dword) : BitVec 40 :=
  let low : BitVec 40 := (1 <<< n) - 1
  ((pfn ++ (0 : BitVec 12)) &&& ~~~low) ||| (va.extractLsb' 0 40 &&& low)

/-- The checks on the selected page in their order: valid, dirty for a store, executable for a fetch (R122). -/
def checkPage (s : State) (k : Access) (va : Dword) (p : TlbPage) (n : Nat) : Res (BitVec 40 × BitVec 3) :=
  if !p.v then .raise (.tlbInvalid k.isStore va) s
  else if k.isStore && !p.d then .raise (.tlbModified va) s
  else if k == .fetch && p.e then .raise (.addressError false va) s
  else .ok (pageAddress n p.pfn va, p.c) s

/-- Translation of a mapped address by the JTLB (R120 to R122). -/
def translateMapped (s : State) (k : Access) (va : Dword) : Res (BitVec 40 × BitVec 3) :=
  match s.tlbLookup (va.extractLsb' 62 2) (va.extractLsb' 13 27) s.asid with
  | .miss => .raise (.tlbRefill k.isStore va) s
  | .several => .refuse .multipleTlbMatch
  | .found i => checkPage s k va (s.tlb[i].page va) (offsetBits s.tlb[i].mask)

/-! ### The ITLB (R72, R128; notes/assumptions/20.md) -/

/-- Whether a mask is one of the seven that give a page size (R35). -/
def legalMask (mask : BitVec 12) : Bool :=
  [0x000, 0x003, 0x00F, 0x03F, 0x0FF, 0x3FF, 0xFFF].contains mask.toNat

/-- The Mask field of the PageMask register, which gives the size of every page the ITLB holds (R125). -/
def State.pageMaskField (s : State) : BitVec 12 := s.cp0.pageMask.extractLsb' 13 12

/-- Whether an ITLB entry translates an address, with pages of `n` offset bits. -/
def ItlbEntry.hit (e : ItlbEntry) (n : Nat) (va : Dword) : Bool :=
  (e.r == va.extractLsb' 62 2) && (e.vpn >>> (n - 12) == (va.extractLsb' 12 28 : BitVec 28) >>> (n - 12))

/-- The first ITLB entry that translates an address. -/
def State.itlbLookup (s : State) (n : Nat) (va : Dword) : Option ItlbEntry :=
  s.itlb.toList.findSome? fun o => o.bind fun e => if e.hit n va then some e else none

/-- The state with a translation put into the ITLB, in place of an entry the hardware chooses (R72). -/
def State.itlbFill (s : State) (va : Dword) (p : TlbPage) : State :=
  let victim : BitVec 4 := (s.free .itlbEntry 0).extractLsb' 0 4
  let entry : ItlbEntry := { r := va.extractLsb' 62 2, vpn := va.extractLsb' 12 28, page := p }
  { s with itlb := s.itlb.set victim.toNat (some entry) }

/-- Translation of a mapped fetch: the ITLB first, then the JTLB, whose answer fills the ITLB (R128).  The ITLB is
passed over while PageMask gives no page size. -/
def translateFetch (s : State) (va : Dword) : Res (BitVec 40 × BitVec 3) :=
  if !legalMask s.pageMaskField then translateMapped s .fetch va
  else
    match s.itlbLookup (offsetBits s.pageMaskField) va with
    | some e => checkPage s .fetch va e.page (offsetBits s.pageMaskField)
    | none =>
      match s.tlbLookup (va.extractLsb' 62 2) (va.extractLsb' 13 27) s.asid with
      | .miss => .raise (.tlbRefill false va) s
      | .several => .refuse .multipleTlbMatch
      | .found i =>
        (checkPage s .fetch va (s.tlb[i].page va) (offsetBits s.tlb[i].mask)).bind fun r s =>
          .ok r (s.itlbFill va (s.tlb[i].page va))

/-! ### AddressTranslation (R129) -/

/-- The physical address and the cache attribute of a virtual address, or its exception (R129). -/
def translate (s : State) (k : Access) (va : Dword) : Res (BitVec 40 × BitVec 3) :=
  match s.mode with
  | none => .refuse .undefinedMode
  | some m =>
    match segmentOf m s.cp0.k0 va with
    | .illegal => .raise (.addressError k.isStore va) s
    | .direct pa c => .ok (pa, c) s
    | .mapped => if k == .fetch then translateFetch s va else translateMapped s k va

/-! ### Reading and writing entries (R441, R442) -/

/-- The page an EntryLo register describes (R33). -/
def pageOfEntryLo (v : Dword) : TlbPage :=
  { e := v.getLsbD 61, pfn := v.extractLsb' 6 28, c := v.extractLsb' 3 3, d := v.getLsbD 2, v := v.getLsbD 1 }

/-- The EntryLo register of a page (R33, R441). -/
def entryLoOfPage (p : TlbPage) (g : Bool) : Dword :=
  (0 : BitVec 2) ++ BitVec.ofBool p.e ++ (0 : BitVec 27) ++ p.pfn ++ p.c ++ BitVec.ofBool p.d ++
    BitVec.ofBool p.v ++ BitVec.ofBool g

/-- The entry that TLBWI and TLBWR write (R442). -/
def State.entryToWrite (s : State) : TlbEntry :=
  { mask := s.pageMaskField
    r := s.cp0.entryHi.extractLsb' 62 2
    vpn2 := s.cp0.entryHi.extractLsb' 13 27 &&& ~~~vpn2Mask s.pageMaskField
    g := s.cp0.entryLo0.getLsbD 0 && s.cp0.entryLo1.getLsbD 0
    asid := s.asid
    even := pageOfEntryLo s.cp0.entryLo0
    odd := pageOfEntryLo s.cp0.entryLo1 }

/-- The EntryHi register of an entry (R441). -/
def entryHiOfEntry (e : TlbEntry) : Dword :=
  e.r ++ (0 : BitVec 22) ++ (e.vpn2 &&& ~~~vpn2Mask e.mask) ++ (0 : BitVec 5) ++ e.asid

/-- The PageMask register of an entry (R441). -/
def pageMaskOfEntry (e : TlbEntry) : Word := (0 : BitVec 7) ++ e.mask ++ (0 : BitVec 13)

/-- The state with one JTLB entry replaced. -/
def State.setTlb (s : State) (i : BitVec 6) (e : TlbEntry) : State := { s with tlb := s.tlb.set i.toNat e }

/-- Empty the ITLB (R51). -/
def State.emptyItlb (s : State) : State := { s with itlb := Vector.replicate 16 none }

end Sys2Proof.Machine
end

