-- ==== Sys2Proof/Machine/Cache.lean ====
section
/-! DEFINITION. The three caches (R75 to R77, R142, R146): finding, filling, replacing and writing back lines.  The
choices the manual leaves to the hardware are notes/assumptions/25.md. -/

namespace Sys2Proof.Machine

/-! ### Lines -/

/-- An unlisted instruction cache line. -/
def ILine.empty : ILine := { tag := 0, valid := false, data := 0 }
/-- An unlisted data cache line. -/
def DLine.empty : DLine := { tag := 0, cs := 0, w := false, scset := 0, data := 0 }
/-- An unlisted secondary cache line. -/
def SLine.empty : SLine := { tag := 0, state := 0, data := 0 }

/-- The number of the line in a set and a way. -/
def lineKey (set way : Nat) : Nat := 4 * set + way

/-- The set of a primary cache that an address indexes: virtual address bits 13:5 (R75, R76). -/
def primarySet (va : Dword) : Nat := (va.extractLsb' 5 9).toNat

/-- The set of the secondary cache that an address indexes: physical address bits 16:5 (R77). -/
def secondarySet (pa : BitVec 40) : Nat := (pa.extractLsb' 5 12).toNat

/-- The bits 11:5 of the addresses in a line of a primary cache. -/
def primaryIndexLow (key : Nat) : BitVec 7 := BitVec.ofNat 7 (key / 4)

/-- One instruction cache line. -/
def State.iLine (s : State) (key : Nat) : ILine := cellGet ILine.empty s.icache key
/-- One data cache line. -/
def State.dLine (s : State) (key : Nat) : DLine := cellGet DLine.empty s.dcache key
/-- One secondary cache line. -/
def State.sLine (s : State) (key : Nat) : SLine := cellGet SLine.empty s.scache key

/-- Replace one instruction cache line. -/
def State.setILine (s : State) (key : Nat) (l : ILine) : State :=
  { s with icache := cellSet ILine.empty s.icache key l }
/-- Replace one data cache line. -/
def State.setDLine (s : State) (key : Nat) (l : DLine) : State :=
  { s with dcache := cellSet DLine.empty s.dcache key l }
/-- Replace one secondary cache line. -/
def State.setSLine (s : State) (key : Nat) (l : SLine) : State :=
  { s with scache := cellSet SLine.empty s.scache key l }

/-- The physical address of a data cache line. -/
def DLine.address (l : DLine) (key : Nat) : BitVec 40 := l.tag ++ primaryIndexLow key ++ (0 : BitVec 5)

/-- Whether an instruction cache line is valid and holds an address of this tag. -/
def ILine.matches (l : ILine) (pa : BitVec 40) : Bool := l.valid && l.tag == pa.extractLsb' 12 28
/-- Whether a data cache line is valid and holds an address of this tag (R455). -/
def DLine.matches (l : DLine) (pa : BitVec 40) : Bool := l.cs != 0 && l.tag == pa.extractLsb' 12 28
/-- Whether a secondary cache line is valid and holds an address of this tag (R462). -/
def SLine.matches (l : SLine) (pa : BitVec 40) : Bool := l.state != 0 && l.tag == pa.extractLsb' 17 23

/-- Whether a data cache line is dirty (R76). -/
def DLine.dirty (l : DLine) : Bool := l.cs == 3

/-- The lines of the four ways of a set. -/
def waysOf (set : Nat) : List Nat := [lineKey set 0, lineKey set 1, lineKey set 2, lineKey set 3]

/-- The instruction cache line that holds an address. -/
def State.iHit (s : State) (va : Dword) (pa : BitVec 40) : Option Nat :=
  (waysOf (primarySet va)).find? fun k => (s.iLine k).matches pa
/-- The data cache line that holds an address. -/
def State.dHit (s : State) (va : Dword) (pa : BitVec 40) : Option Nat :=
  (waysOf (primarySet va)).find? fun k => (s.dLine k).matches pa
/-- The secondary cache line that holds an address; none while the cache is disabled (R731). -/
def State.sHit (s : State) (pa : BitVec 40) : Option Nat :=
  if s.scacheDisabled then none
  else (waysOf (secondarySet pa)).find? fun k => (s.sLine k).matches pa

/-- The lines of a primary cache that can hold a physical address: the four sets that agree in bits 11:5. -/
def primaryKeys (pa : BitVec 40) : List Nat :=
  let low := (pa.extractLsb' 5 7).toNat
  waysOf low ++ waysOf (low + 128) ++ waysOf (low + 256) ++ waysOf (low + 384)

/-! ### Leaving the caches -/

/-- Invalidate an instruction cache line. -/
def State.invalidateI (s : State) (key : Nat) : State := s.setILine key { s.iLine key with valid := false }

/-- Invalidate a data cache line; its data are dropped.  That W is cleared with it is a DESIGN CHOICE
(notes/assumptions/25.md). -/
def State.invalidateD (s : State) (key : Nat) : State :=
  s.setDLine key { s.dLine key with cs := 0, w := false }

/-- Put the data of a dirty line where the next level holds the line: the secondary cache (R452), or memory when the
secondary cache does not hold it. -/
def writeBackData (s : State) (key : Nat) : Res Unit :=
  let l := s.dLine key
  if !l.dirty then .ok () s
  else
    match s.sHit (l.address key) with
    | some k => .ok () (s.setSLine k { s.sLine k with state := 3, data := l.data })
    | none => physWrite s (l.address key) (toBytes l.data 32)

/-- Write a data cache line back and invalidate it (R452). -/
def evictData (s : State) (key : Nat) : Res Unit :=
  (writeBackData s key).bind fun _ s => .ok () (s.invalidateD key)

/-- The instruction cache lines of a physical address are invalidated (R459 step 2). -/
def State.dropInstructionLines (s : State) (pa : BitVec 40) : State :=
  (primaryKeys pa).foldl (fun s k => if (s.iLine k).matches pa then s.invalidateI k else s) s

/-- The data cache lines of a physical address are invalidated; with `merge` a dirty one first goes to the secondary
cache line `key` (R459 step 3).  Of several dirty aliases the last in the order of `primaryKeys` is the one whose data
stay: a DESIGN CHOICE (I10; notes/assumptions/25.md). -/
def State.dropDataLines (s : State) (pa : BitVec 40) (merge : Bool) (key : Nat) : State :=
  (primaryKeys pa).foldl
    (fun s k =>
      let l := s.dLine k
      if l.matches pa then
        (if merge && l.dirty then s.setSLine key { s.sLine key with state := 3, data := l.data } else s).invalidateD k
      else s) s

/-- A secondary cache line leaves the cache, with the same line of the primary caches (R146, R459, R462); with
`writeBack` dirty data go to memory. -/
def evictSecondary (s : State) (key : Nat) (writeBack : Bool) : Res Unit :=
  if (s.sLine key).state = 0 then .ok () s
  else
    let pa := (s.sLine key).address key
    let s1 := (s.dropInstructionLines pa).dropDataLines pa writeBack key
    let l := s1.sLine key
    let s2 := s1.setSLine key { l with state := 0 }
    if writeBack && l.dirty then physWrite s2 pa (toBytes l.data 32) else .ok () s2

/-! ### Filling -/

/-- The state of a line filled and not written: shared or exclusive, which the manual does not say. -/
def State.cleanState (s : State) : BitVec 2 := if (s.free .fillState 0).getLsbD 0 then 2 else 1

/-- The address of the line that holds an address. -/
def lineAddress (pa : BitVec 40) : BitVec 40 := pa &&& ~~~(0x1F : BitVec 40)

/-- The 32 bytes of a line from memory; a bus error reply raises the exception (R648).  `BUS_ERROR` is asked about the
address accessed and not about the rest of its line: a DESIGN CHOICE (notes/assumptions/45.md). -/
def readLine (s : State) (pa : BitVec 40) (fetch : Bool) : Res LineData :=
  if s.busErrorAt pa fetch then .raise (.busError fetch) s
  else (physRead s (lineAddress pa) 32).bind fun bytes s => .ok (ofBytes 256 bytes) s

/-- The data of a line through the secondary cache, which is filled on a miss, and the way that holds it (R142, R146),
for SCSETI (R76); with the secondary cache disabled no way does and that value is free (notes/assumptions/25.md). -/
def secondaryLine (s : State) (pa : BitVec 40) (fetch : Bool) : Res (LineData × BitVec 2) :=
  match s.sHit pa with
  | some k => .ok ((s.sLine k).data, BitVec.ofNat 2 k) s
  | none =>
    let way : BitVec 2 := (s.free .scacheWay 0).extractLsb' 0 2
    if s.scacheDisabled then (readLine s pa fetch).bind fun d s => .ok (d, way) s
    else
      let key := lineKey (secondarySet pa) way.toNat
      (evictSecondary s key true).bind fun _ s =>
      (readLine s pa fetch).bind fun d s =>
        .ok (d, way) (s.setSLine key { tag := pa.extractLsb' 17 23, state := s.cleanState, data := d })

/-- The data cache line that holds an address, filled on a miss (R142, R146).  That a fill clears W is a DESIGN CHOICE
(notes/assumptions/25.md). -/
def dataLine (s : State) (va : Dword) (pa : BitVec 40) : Res Nat :=
  match s.dHit va pa with
  | some k => .ok k s
  | none =>
    let key := lineKey (primarySet va) ((s.free .dcacheWay 0).extractLsb' 0 2).toNat
    (evictData s key).bind fun _ s =>
    (secondaryLine s pa false).bind fun d s =>
      .ok key (s.setDLine key
        { tag := pa.extractLsb' 12 28, cs := s.cleanState, w := false, scset := d.2, data := d.1 })

/-- The instruction cache line that holds an address, filled on a miss (R142, R146). -/
def instructionLine (s : State) (va : Dword) (pa : BitVec 40) : Res Nat :=
  match s.iHit va pa with
  | some k => .ok k s
  | none =>
    let key := lineKey (primarySet va) ((s.free .icacheWay 0).extractLsb' 0 2).toNat
    (secondaryLine s pa true).bind fun d s =>
      .ok key (s.setILine key { tag := pa.extractLsb' 12 28, valid := true, data := d.1 })

/-! ### Cached accesses -/

/-- `n` bytes of a line from the place of an address in it. -/
def lineBytes (d : LineData) (pa : BitVec 40) (n : Nat) : List Byte :=
  toBytes (d >>> (8 * (pa.toNat % 32))) n

/-- A cached read (R142). -/
def readCached (s : State) (va : Dword) (pa : BitVec 40) (n : Nat) : Res (List Byte) :=
  (dataLine s va pa).bind fun k s => .ok (lineBytes (s.dLine k).data pa n) s

/-- A cached write: the line is filled on a miss and becomes dirty (R76, R146).  That every cached store sets W is a
DESIGN CHOICE (notes/assumptions/25.md). -/
def writeCached (s : State) (va : Dword) (pa : BitVec 40) (bytes : List Byte) : Res Unit :=
  (dataLine s va pa).bind fun k s =>
    let l := s.dLine k
    .ok () (s.setDLine k { l with cs := 3, w := true, data := insertBytes l.data (pa.toNat % 32) bytes })

/-- A cached instruction fetch (R142, R158): the data cache is not looked at. -/
def fetchCached (s : State) (va : Dword) (pa : BitVec 40) : Res Word :=
  (instructionLine s va pa).bind fun k s => .ok (ofBytes 32 (lineBytes (s.iLine k).data pa 4)) s

end Sys2Proof.Machine
end

