-- ==== Sys2Proof/Machine/CacheOps.lean ====
section
/-! DEFINITION. CACHE (spec/47_cp0_privileged.md R450 to R465). -/

namespace Sys2Proof.Machine

/-! ### Checks (R450) -/

/-- Diagnostic.U-Mode opens the invalidate and writeback operations to user mode (R51, D42). -/
def checkCache (s : State) (userOperation : Bool) : Res Unit :=
  if userOperation && s.cp0.diagnostic.getLsbD 8 && s.mode == some .user then .ok () s else checkCp0 s

/-- The address of a CACHE instruction, translated as for a load; an uncached one is undefined (R450, D29). -/
def cacheAddress (s : State) (va : Dword) : Res (BitVec 40) :=
  (translate s .load va).bind fun r s => if r.2 = 3 then .ok r.1 s else .refuse .uncachedCacheOp

/-- A CACHE instruction: the checks, then the operation on its virtual and physical address. -/
def cacheInstruction (s : State) (userOperation : Bool) (va : Dword)
    (operation : Dword → BitVec 40 → State → Res Unit) : Outcome :=
  ((checkCache s userOperation).bind fun _ s => (cacheAddress s va).bind fun pa s => operation va pa s).finish

/-! ### Operations on the primary caches -/

/-- The data cache line an Index operation names: set VA[13:5], way VA[1:0] (R452). -/
def dataKey (va : Dword) : Nat := lineKey (primarySet va) (va.extractLsb' 0 2).toNat

/-- The doubleword of a line that an Index data operation names (R457). -/
def doublewordShift (a : BitVec 2) : Nat := 64 * a.toNat

/-- Replace one doubleword of a line. -/
def setDoubleword (d : LineData) (a : BitVec 2) (v : Dword) : LineData :=
  (d &&& ~~~((0xFFFFFFFFFFFFFFFF : LineData) <<< doublewordShift a)) ||| (v.setWidth 256 <<< doublewordShift a)

/-- Put a doubleword into TagHi and TagLo (D17). -/
def State.setTagData (s : State) (v : Dword) : State :=
  s.setCp0 { s.cp0 with tagHi := v.extractLsb' 32 32, tagLo := v.extractLsb' 0 32 }

/-- The doubleword in TagHi and TagLo (D17). -/
def State.tagData (s : State) : Dword := s.cp0.tagHi ++ s.cp0.tagLo

/-- Index Invalidate (I): the four ways of the set (R451). -/
def indexInvalidateI (s : State) (va : Dword) : State :=
  (waysOf (primarySet va)).foldl (fun s k => s.invalidateI k) s

/-- Index Load Tag (D); the StateMod bits are a free value (R453). -/
def loadTagD (s : State) (va : Dword) : State :=
  let l := s.dLine (dataKey va)
  s.setCp0 { s.cp0 with
    tagLo := (l.tag.extractLsb' 0 24 : BitVec 24) ++ l.cs ++ l.scset ++ (0 : BitVec 4)
    tagHi := (s.free .stateMod 0).extractLsb' 0 3 ++ (0 : BitVec 25) ++ (l.tag.extractLsb' 24 4 : BitVec 4) }

/-- Index Store Tag (D) (R454). -/
def storeTagD (s : State) (va : Dword) : State :=
  s.setDLine (dataKey va) { s.dLine (dataKey va) with
    scset := s.cp0.tagLo.extractLsb' 4 2
    cs := s.cp0.tagLo.extractLsb' 6 2
    tag := s.cp0.tagHi.extractLsb' 0 4 ++ s.cp0.tagLo.extractLsb' 8 24 }

/-- Hit Invalidate (D): the matching line is dropped without write-back (R455). -/
def hitInvalidateD (s : State) (va : Dword) (pa : BitVec 40) : State :=
  (waysOf (primarySet va)).foldl (fun s k => if (s.dLine k).matches pa then s.invalidateD k else s) s

/-- Hit WriteBack Invalidate (D) over the ways of a set (R456). -/
def evictMatchingD (s : State) (pa : BitVec 40) : List Nat → Res Unit
  | [] => .ok () s
  | k :: ks =>
    if (s.dLine k).matches pa then (evictData s k).bind fun _ s => evictMatchingD s pa ks
    else evictMatchingD s pa ks

/-- Index Load Data (D) (R457). -/
def loadDataD (s : State) (va : Dword) : State :=
  s.setTagData (((s.dLine (dataKey va)).data >>> doublewordShift (va.extractLsb' 3 2)).extractLsb' 0 64)

/-- Index Store Data (D) (R458). -/
def storeDataD (s : State) (va : Dword) : State :=
  let l := s.dLine (dataKey va)
  s.setDLine (dataKey va) { l with data := setDoubleword l.data (va.extractLsb' 3 2) s.tagData }

/-! ### Operations on the secondary cache -/

/-- The secondary cache line an Index operation names: set PA[16:5], way PA[1:0] (R459). -/
def secondaryKey (pa : BitVec 40) : Nat := lineKey (secondarySet pa) (pa.extractLsb' 0 2).toNat

/-- Index Load Tag (S) (R460). -/
def loadTagS (s : State) (pa : BitVec 40) : State :=
  let l := s.sLine (secondaryKey pa)
  s.setCp0 { s.cp0 with
    tagLo := (l.tag.extractLsb' 0 19 : BitVec 19) ++ (0 : BitVec 1) ++ l.state ++ (0 : BitVec 10)
    tagHi := (0 : BitVec 28) ++ (l.tag.extractLsb' 19 4 : BitVec 4) }

/-- Index Store Tag (S) (R461). -/
def storeTagS (s : State) (pa : BitVec 40) : State :=
  s.setSLine (secondaryKey pa) { s.sLine (secondaryKey pa) with
    state := s.cp0.tagLo.extractLsb' 10 2
    tag := s.cp0.tagHi.extractLsb' 0 4 ++ s.cp0.tagLo.extractLsb' 13 19 }

/-- Hit Invalidate and Hit WriteBack Invalidate (S) over the ways of a set (R462, R463).  DESIGN CHOICE: while
disable_scache = 1 the CACHE operations of the secondary cache, these and the Index operations, act on its stored lines
as they do otherwise; R731 says only that the cache is bypassed (notes/assumptions/25.md). -/
def evictMatchingS (s : State) (pa : BitVec 40) (writeBack : Bool) : List Nat → Res Unit
  | [] => .ok () s
  | k :: ks =>
    if (s.sLine k).matches pa then
      (evictSecondary s k writeBack).bind fun _ s => evictMatchingS s pa writeBack ks
    else evictMatchingS s pa writeBack ks

/-- Index Load Data (S) (R464). -/
def loadDataS (s : State) (pa : BitVec 40) : State :=
  s.setTagData (((s.sLine (secondaryKey pa)).data >>> doublewordShift (pa.extractLsb' 3 2)).extractLsb' 0 64)

/-- Index Store Data (S) (R465). -/
def storeDataS (s : State) (pa : BitVec 40) : State :=
  let l := s.sLine (secondaryKey pa)
  s.setSLine (secondaryKey pa) { l with data := setDoubleword l.data (pa.extractLsb' 3 2) s.tagData }

/-! ### Meanings -/

/-- CACHE (R450): an operation Table 8-3 does not hold is undefined, after the checks every CACHE makes. -/
def execCache (base : Reg) (_op : BitVec 5) (offset : BitVec 16) (s : State) : Outcome :=
  cacheInstruction s false (s.effectiveAddress base offset) fun _ _ _ => .refuse .undefinedCacheOp

/-- CACHE_Index_Invalidate__I (R451): the four lines of a set of the instruction cache. -/
def execCacheIndexInvalidateI (base : Reg) (offset : BitVec 16) (s : State) : Outcome :=
  cacheInstruction s true (s.effectiveAddress base offset)
    fun va _ s => .ok () (indexInvalidateI s va)

/-- CACHE_Index_Writeback_Invalidate__D (R452). -/
def execCacheIndexWritebackInvalidateD (base : Reg) (offset : BitVec 16) (s : State) : Outcome :=
  cacheInstruction s true (s.effectiveAddress base offset)
    fun va _ s => evictData s (dataKey va)

/-- CACHE_Index_Load_Tag__D (R453). -/
def execCacheIndexLoadTagD (base : Reg) (offset : BitVec 16) (s : State) : Outcome :=
  cacheInstruction s false (s.effectiveAddress base offset)
    fun va _ s => .ok () (loadTagD s va)

/-- CACHE_Index_Store_Tag__D (R454). -/
def execCacheIndexStoreTagD (base : Reg) (offset : BitVec 16) (s : State) : Outcome :=
  cacheInstruction s false (s.effectiveAddress base offset)
    fun va _ s => .ok () (storeTagD s va)

/-- CACHE_Hit_Invalidate__D (R455). -/
def execCacheHitInvalidateD (base : Reg) (offset : BitVec 16) (s : State) : Outcome :=
  cacheInstruction s true (s.effectiveAddress base offset)
    fun va pa s => .ok () (hitInvalidateD s va pa)

/-- CACHE_Hit_Writeback_Invalidate__D (R456). -/
def execCacheHitWritebackInvalidateD (base : Reg) (offset : BitVec 16) (s : State) : Outcome :=
  cacheInstruction s true (s.effectiveAddress base offset)
    fun va pa s => evictMatchingD s pa (waysOf (primarySet va))

/-- CACHE_Index_Load_Data__D (R457). -/
def execCacheIndexLoadDataD (base : Reg) (offset : BitVec 16) (s : State) : Outcome :=
  cacheInstruction s false (s.effectiveAddress base offset)
    fun va _ s => .ok () (loadDataD s va)

/-- CACHE_Index_Store_Data__D (R458). -/
def execCacheIndexStoreDataD (base : Reg) (offset : BitVec 16) (s : State) : Outcome :=
  cacheInstruction s false (s.effectiveAddress base offset)
    fun va _ s => .ok () (storeDataD s va)

/-- CACHE_Index_Writeback_Invalidate__S (R459). -/
def execCacheIndexWritebackInvalidateS (base : Reg) (offset : BitVec 16) (s : State) : Outcome :=
  cacheInstruction s true (s.effectiveAddress base offset)
    fun _ pa s => evictSecondary s (secondaryKey pa) true

/-- CACHE_Index_Load_Tag__S (R460). -/
def execCacheIndexLoadTagS (base : Reg) (offset : BitVec 16) (s : State) : Outcome :=
  cacheInstruction s false (s.effectiveAddress base offset)
    fun _ pa s => .ok () (loadTagS s pa)

/-- CACHE_Index_Store_Tag__S (R461). -/
def execCacheIndexStoreTagS (base : Reg) (offset : BitVec 16) (s : State) : Outcome :=
  cacheInstruction s false (s.effectiveAddress base offset)
    fun _ pa s => .ok () (storeTagS s pa)

/-- CACHE_Hit_Invalidate__S (R462). -/
def execCacheHitInvalidateS (base : Reg) (offset : BitVec 16) (s : State) : Outcome :=
  cacheInstruction s true (s.effectiveAddress base offset)
    fun _ pa s => evictMatchingS s pa false (waysOf (secondarySet pa))

/-- CACHE_Hit_Writeback_Invalidate__S (R463). -/
def execCacheHitWritebackInvalidateS (base : Reg) (offset : BitVec 16) (s : State) : Outcome :=
  cacheInstruction s true (s.effectiveAddress base offset)
    fun _ pa s => evictMatchingS s pa true (waysOf (secondarySet pa))

/-- CACHE_Index_Load_Data__S (R464). -/
def execCacheIndexLoadDataS (base : Reg) (offset : BitVec 16) (s : State) : Outcome :=
  cacheInstruction s false (s.effectiveAddress base offset)
    fun _ pa s => .ok () (loadDataS s pa)

/-- CACHE_Index_Store_Data__S (R465). -/
def execCacheIndexStoreDataS (base : Reg) (offset : BitVec 16) (s : State) : Outcome :=
  cacheInstruction s false (s.effectiveAddress base offset)
    fun _ pa s => .ok () (storeDataS s pa)

end Sys2Proof.Machine
end

