-- ==== Sys2Proof/Machine/Float.lean ====
section
/-! DEFINITION. The arithmetic of the floating-point unit (R481 to R496): formats, exact results in natural numbers
and integers, and one rounding at the end. -/

namespace Sys2Proof.Machine

/-! ### Formats and values (R481) -/

/-- The two binary formats. -/
inductive FpFormat where
  | single
  | double
deriving DecidableEq, Repr

/-- Fraction bits. -/
def FpFormat.fracBits : FpFormat → Nat
  | .single => 23
  | .double => 52

/-- Exponent bits. -/
def FpFormat.expBits : FpFormat → Nat
  | .single => 8
  | .double => 11

/-- The exponent bias, which is also Emax. -/
def FpFormat.bias (f : FpFormat) : Int := 2 ^ (f.expBits - 1) - 1

/-- Emin. -/
def FpFormat.emin (f : FpFormat) : Int := 1 - f.bias

/-- The exponent field of all ones. -/
def FpFormat.expTop (f : FpFormat) : Nat := 2 ^ f.expBits - 1

/-- A floating-point operand.  A finite non-zero value is `mag * 2 ^ exp` with its sign. -/
inductive FpValue where
  | nan (signaling neg : Bool)
  | inf (neg : Bool)
  | zero (neg : Bool)
  | denormal (neg : Bool) (mag : Nat) (exp : Int)
  | normal (neg : Bool) (mag : Nat) (exp : Int)
deriving DecidableEq, Repr

/-- The value of a bit pattern (R481): a NaN is signaling when the top bit of its fraction is 1. -/
def unpack (f : FpFormat) (bits : Nat) : FpValue :=
  let frac := bits % 2 ^ f.fracBits
  let e := bits / 2 ^ f.fracBits % 2 ^ f.expBits
  let neg := (bits / 2 ^ (f.fracBits + f.expBits)) % 2 == 1
  if e = f.expTop then
    if frac = 0 then .inf neg else .nan (frac / 2 ^ (f.fracBits - 1) == 1) neg
  else if e = 0 then
    if frac = 0 then .zero neg else .denormal neg frac (f.emin - f.fracBits)
  else .normal neg (2 ^ f.fracBits + frac) ((e : Int) - f.bias - f.fracBits)

/-- A bit pattern from its fields. -/
def packFields (f : FpFormat) (neg : Bool) (e frac : Nat) : Nat :=
  (if neg then 2 ^ (f.fracBits + f.expBits) else 0) + e * 2 ^ f.fracBits + frac

/-- The pattern of an infinity. -/
def packInf (f : FpFormat) (neg : Bool) : Nat := packFields f neg f.expTop 0
/-- The pattern of a zero. -/
def packZero (f : FpFormat) (neg : Bool) : Nat := packFields f neg 0 0
/-- The pattern of the largest finite number. -/
def packMax (f : FpFormat) (neg : Bool) : Nat := packFields f neg (f.expTop - 1) (2 ^ f.fracBits - 1)
/-- The pattern of the smallest normal number (R496, D32). -/
def packMinNormal (f : FpFormat) (neg : Bool) : Nat := packFields f neg 1 0
/-- The default quiet NaN: 0x7FBFFFFF and 0x7FF7FFFFFFFFFFFF (R485, D13). -/
def packQuietNan (f : FpFormat) : Nat := packFields f false f.expTop (2 ^ (f.fracBits - 1) - 1)

/-! ### Rounding (R483) -/

/-- What an operation is told: the rounding mode, FS, whether U or I is enabled, and how a multiply-add rounds. -/
structure FpControl where
  rm : BitVec 2
  fs : Bool
  /-- Enable.U or Enable.I. -/
  uiEnabled : Bool
  /-- The parameter `madd_fused` (D35): a multiply-add rounds once. -/
  fused : Bool
deriving DecidableEq, Repr

/-- What an operation on one format answers: the conditions it raises and the bits of its result. -/
structure FpResult where
  cond : Conditions
  bits : Nat
deriving DecidableEq, Repr

/-- Whether a magnitude whose integer part is odd or even, and whose rest compares with a half as said, is rounded
away from zero. -/
def roundsUp (rm : BitVec 2) (neg odd : Bool) (rest half : Nat) (sticky : Bool) : Bool :=
  match rm.toNat with
  | 0 => decide (half < rest) || (decide (rest = half) && (sticky || odd))
  | 1 => false
  | 2 => !neg && (decide (rest ≠ 0) || sticky)
  | _ => neg && (decide (rest ≠ 0) || sticky)

/-- Round `mag / 2 ^ k` (plus less than one unit of `mag` when sticky) to a natural number: the number and whether it
is inexact. -/
def roundShift (rm : BitVec 2) (neg : Bool) (mag k : Nat) (sticky : Bool) : Nat × Bool :=
  if k = 0 then (if sticky && roundsUp rm neg (mag % 2 == 1) 0 1 true then mag + 1 else mag, sticky)
  else
    let q := mag / 2 ^ k
    let rest := mag % 2 ^ k
    let up := roundsUp rm neg (q % 2 == 1) rest (2 ^ (k - 1)) sticky
    (if up then q + 1 else q, decide (rest ≠ 0) || sticky)

/-- A finite non-zero value rounded to the precision of a format with unbounded exponent: significand of exactly
`fracBits + 1` bits, exponent of its lowest bit, and whether it is inexact. -/
def roundPrecision (f : FpFormat) (rm : BitVec 2) (neg : Bool) (mag : Nat) (exp : Int) (sticky : Bool) :
    Nat × Int × Bool :=
  let p := f.fracBits + 1
  let len := Nat.log2 mag + 1
  if len ≤ p then (mag * 2 ^ (p - len), exp - ((p - len : Nat) : Int), sticky)
  else
    let k := len - p
    let (q, inexact) := roundShift rm neg mag k sticky
    if q = 2 ^ p then (2 ^ (p - 1), exp + k + 1, inexact) else (q, exp + k, inexact)

/-- The result of an overflow that does not trap (R496). -/
def overflowBits (f : FpFormat) (rm : BitVec 2) (neg : Bool) : Nat :=
  match rm.toNat with
  | 0 => packInf f neg
  | 1 => packMax f neg
  | 2 => if neg then packMax f neg else packInf f neg
  | _ => if neg then packInf f neg else packMax f neg

/-- The result of a flushed underflow (R496). -/
def underflowBits (f : FpFormat) (rm : BitVec 2) (neg : Bool) : Nat :=
  match rm.toNat with
  | 2 => if neg then packZero f neg else packMinNormal f neg
  | 3 => if neg then packMinNormal f neg else packZero f neg
  | _ => packZero f neg

/-- Deliver an exact non-zero finite result to a format: rounding, then overflow, underflow and inexact (R490, R493,
R494, R496). -/
def deliver (f : FpFormat) (c : FpControl) (neg : Bool) (mag : Nat) (exp : Int) (sticky : Bool) : FpResult :=
  let (sig, e, inexact) := roundPrecision f c.rm neg mag exp sticky
  let e0 := e + f.fracBits
  if f.bias < e0 then { cond := condOI, bits := overflowBits f c.rm neg }
  else if e0 < f.emin then
    if c.uiEnabled || !c.fs then { cond := condE, bits := 0 }
    else { cond := condUI, bits := underflowBits f c.rm neg }
  else
    { cond := if inexact then condI else 0
      bits := packFields f neg (e0 + f.bias).toNat (sig - 2 ^ f.fracBits) }

/-! ### Screening and special results -/

/-- An invalid operation that does not trap delivers the default quiet NaN (R485, R491). -/
def invalidResult (f : FpFormat) : FpResult := { cond := condV, bits := packQuietNan f }

/-- An exact result. -/
def exactResult (bits : Nat) : FpResult := { cond := 0, bits := bits }

/-- A denormal or a quiet NaN, which no arithmetic instruction takes (R495). -/
def FpValue.unimplemented : FpValue → Bool
  | .denormal _ _ _ => true
  | .nan signaling _ => !signaling
  | _ => false

/-- A signaling NaN. -/
def FpValue.isSignaling : FpValue → Bool
  | .nan signaling _ => signaling
  | _ => false

/-- Operand screening (R484 step 3): a denormal or a quiet NaN is Unimplemented, then a signaling NaN is Invalid,
otherwise the operation goes on. -/
def screen (f : FpFormat) (vs : List FpValue) (k : FpResult) : FpResult :=
  if vs.any FpValue.unimplemented then { cond := condE, bits := 0 }
  else if vs.any FpValue.isSignaling then invalidResult f
  else k

/-- The sign of a value. -/
def FpValue.neg : FpValue → Bool
  | .nan _ n => n
  | .inf n => n
  | .zero n => n
  | .denormal n _ _ => n
  | .normal n _ _ => n

/-- The value with its sign inverted. -/
def FpValue.negate : FpValue → FpValue
  | .nan s n => .nan s (!n)
  | .inf n => .inf (!n)
  | .zero n => .zero (!n)
  | .denormal n m e => .denormal (!n) m e
  | .normal n m e => .normal (!n) m e

/-- The magnitude of a finite value; zero for the others. -/
def FpValue.mag : FpValue → Nat
  | .denormal _ m _ => m
  | .normal _ m _ => m
  | _ => 0

/-- The exponent of a finite value. -/
def FpValue.exp : FpValue → Int
  | .denormal _ _ e => e
  | .normal _ _ e => e
  | _ => 0

/-! ### Addition and multiplication -/

/-- The sum of two finite values `(-1)^n * m * 2^e`, rounded once.  An exact zero of operands with opposite signs is +0,
or -0 when rounding toward minus infinity (R483). -/
def addFinite (f : FpFormat) (c : FpControl) (n1 : Bool) (m1 : Nat) (e1 : Int) (n2 : Bool) (m2 : Nat) (e2 : Int) :
    FpResult :=
  let e := if e1 ≤ e2 then e1 else e2
  let a : Int := (m1 * 2 ^ (e1 - e).toNat : Nat)
  let b : Int := (m2 * 2 ^ (e2 - e).toNat : Nat)
  let sum := (if n1 then -a else a) + (if n2 then -b else b)
  if sum = 0 then
    exactResult (packZero f (if n1 == n2 && m1 == 0 && m2 == 0 then n1 else c.rm == 3))
  else deliver f c (decide (sum < 0)) sum.natAbs e false

/-- The sum of two screened values (R500). -/
def addValues (f : FpFormat) (c : FpControl) (x y : FpValue) : FpResult :=
  match x, y with
  | .inf n1, .inf n2 => if n1 == n2 then exactResult (packInf f n1) else invalidResult f
  | .inf n1, _ => exactResult (packInf f n1)
  | _, .inf n2 => exactResult (packInf f n2)
  | x, y =>
    let ex := if x.mag = 0 then y.exp else x.exp
    let ey := if y.mag = 0 then x.exp else y.exp
    addFinite f c x.neg x.mag ex y.neg y.mag ey

/-- The product of two screened values (R502). -/
def mulValues (f : FpFormat) (c : FpControl) (x y : FpValue) : FpResult :=
  let n := x.neg != y.neg
  match x, y with
  | .inf _, .zero _ => invalidResult f
  | .zero _, .inf _ => invalidResult f
  | .inf _, _ => exactResult (packInf f n)
  | _, .inf _ => exactResult (packInf f n)
  | .zero _, _ => exactResult (packZero f n)
  | _, .zero _ => exactResult (packZero f n)
  | x, y => deliver f c n (x.mag * y.mag) (x.exp + y.exp) false

/-- ADD (R500). -/
def fpAdd (f : FpFormat) (c : FpControl) (x y : FpValue) : FpResult := screen f [x, y] (addValues f c x y)

/-- SUB (R501): the sum with the subtrahend's sign inverted. -/
def fpSub (f : FpFormat) (c : FpControl) (x y : FpValue) : FpResult :=
  screen f [x, y] (addValues f c x y.negate)

/-- MUL (R502). -/
def fpMul (f : FpFormat) (c : FpControl) (x y : FpValue) : FpResult := screen f [x, y] (mulValues f c x y)

/-! ### Division and square root -/

/-- DIV (R503).  The quotient is computed with enough bits that one sticky bit stands for the rest. -/
def divValues (f : FpFormat) (c : FpControl) (x y : FpValue) : FpResult :=
  let n := x.neg != y.neg
  match x, y with
  | .inf _, .inf _ => invalidResult f
  | .zero _, .zero _ => invalidResult f
  | .inf _, _ => exactResult (packInf f n)
  | _, .inf _ => exactResult (packZero f n)
  | .zero _, _ => exactResult (packZero f n)
  | _, .zero _ => { cond := condZ, bits := packInf f n }
  | x, y =>
    let k := 2 * f.fracBits + 8
    let num := x.mag * 2 ^ k
    deliver f c n (num / y.mag) (x.exp - y.exp - k) (num % y.mag != 0)

/-- DIV, screened; with Status.NOFDIV = 1 the operation is Unimplemented (R495, I4). -/
def fpDiv (f : FpFormat) (nofdiv : Bool) (c : FpControl) (x y : FpValue) : FpResult :=
  if nofdiv then { cond := condE, bits := 0 } else screen f [x, y] (divValues f c x y)

/-- The largest natural number below `root + 2 ^ bits` whose square is at most `m`, bit by bit. -/
def isqrtFrom (m : Nat) : Nat → Nat → Nat
  | root, 0 => root
  | root, b + 1 =>
    let t := root + 2 ^ b
    isqrtFrom m (if t * t ≤ m then t else root) b

/-- The integer square root. -/
def isqrt (m : Nat) : Nat := isqrtFrom m 0 (Nat.log2 m / 2 + 1)

/-- SQRT (R504). -/
def sqrtValue (f : FpFormat) (c : FpControl) (x : FpValue) : FpResult :=
  match x with
  | .zero n => exactResult (packZero f n)
  | .inf n => if n then invalidResult f else exactResult (packInf f false)
  | x =>
    if x.neg then invalidResult f
    else
      let k := 2 * f.fracBits + 8
      let odd := if x.exp % 2 = 0 then 0 else 1
      let m := x.mag * 2 ^ (k + odd)
      let r := isqrt m
      deliver f c false r ((x.exp - k - odd) / 2) (r * r != m)

/-- SQRT, screened; with Status.NOFSQR = 1 the operation is Unimplemented (R495, I4). -/
def fpSqrt (f : FpFormat) (nofsqr : Bool) (c : FpControl) (x : FpValue) : FpResult :=
  if nofsqr then { cond := condE, bits := 0 } else screen f [x] (sqrtValue f c x)

/-! ### Sign operations (R505, R507): arithmetic on this hardware -/

/-- ABS. -/
def fpAbs (f : FpFormat) (bits : Nat) : FpResult :=
  screen f [unpack f bits] (exactResult (bits % 2 ^ (f.fracBits + f.expBits)))

/-- The bits with the sign inverted. -/
def flipSign (f : FpFormat) (bits : Nat) : Nat :=
  if bits / 2 ^ (f.fracBits + f.expBits) % 2 = 1 then bits - 2 ^ (f.fracBits + f.expBits)
  else bits + 2 ^ (f.fracBits + f.expBits)

/-- NEG. -/
def fpNeg (f : FpFormat) (bits : Nat) : FpResult :=
  screen f [unpack f bits] (exactResult (flipSign f bits))

/-! ### Multiply-add (R589) -/

/-- The exact product of two screened values plus a screened value, rounded once. -/
def fusedValues (f : FpFormat) (c : FpControl) (x y z : FpValue) : FpResult :=
  let n := x.neg != y.neg
  match x, y with
  | .inf _, .zero _ => invalidResult f
  | .zero _, .inf _ => invalidResult f
  | .inf _, _ => addValues f c (.inf n) z
  | _, .inf _ => addValues f c (.inf n) z
  | x, y =>
    let m := x.mag * y.mag
    addValues f c (if m = 0 then .zero n else .normal n m (x.exp + y.exp)) z

/-- The product rounded first and then the sum: the other reading of `madd_fused` (D35).  DESIGN CHOICE: the conditions
of the two operations are ORed and the trap is decided once, at the end: a product that overflows to an infinity, plus
the opposite infinity, gives V with O and I, and a sum that is unimplemented gives E alone, whatever the product raised
(R589, R499; notes/assumptions/35.md). -/
def twoStepValues (f : FpFormat) (c : FpControl) (x y z : FpValue) : FpResult :=
  let p := mulValues f c x y
  if p.cond.getLsbD 5 || p.cond.getLsbD 4 then p
  else
    let r := addValues f c (unpack f p.bits) z
    if r.cond.getLsbD 5 then r else { r with cond := r.cond ||| p.cond }

/-- The four multiply-add operations: the sign of the addend and of the result. -/
def fpMadd (f : FpFormat) (negAddend negResult : Bool) (c : FpControl) (d x y : FpValue) : FpResult :=
  let z := if negAddend then d.negate else d
  let r := screen f [d, x, y] (if c.fused then fusedValues f c x y z else twoStepValues f c x y z)
  if negResult && !r.cond.getLsbD 4 then { r with bits := flipSign f r.bits } else r

/-! ### Conversions -/

/-- A finite value rounded to an integer: the magnitude and whether it is inexact. -/
def roundToInteger (rm : BitVec 2) (neg : Bool) (mag : Nat) (exp : Int) : Nat × Bool :=
  if 0 ≤ exp then (mag * 2 ^ exp.toNat, false) else roundShift rm neg mag (-exp).toNat false

/-- The integer an untrapped invalid conversion delivers: the most negative one for a negative operand, otherwise the
most positive one (R510, D33). -/
def saturated (width : Nat) (neg : Bool) : Nat := if neg then 2 ^ (width - 1) else 2 ^ (width - 1) - 1

/-- A conversion to a fixed-point format of `width` bits with rounding `rm` (R510). -/
def fpToInt (width : Nat) (rm : BitVec 2) (v : FpValue) : FpResult :=
  if v.unimplemented then { cond := condE, bits := 0 }
  else match v with
    | .nan _ n => { cond := condV, bits := saturated width n }
    | .inf n => { cond := condV, bits := saturated width n }
    | v =>
      let (m, inexact) := roundToInteger rm v.neg v.mag v.exp
      if (if v.neg then decide (2 ^ (width - 1) < m) else decide (2 ^ (width - 1) ≤ m)) then
        { cond := condV, bits := saturated width v.neg }
      else { cond := if inexact then condI else 0
             bits := if v.neg then (2 ^ width - m) % 2 ^ width else m }

/-- A conversion from a signed integer (R521, R522). -/
def intToFp (f : FpFormat) (c : FpControl) (i : Int) : FpResult :=
  if i = 0 then exactResult (packZero f false) else deliver f c (decide (i < 0)) i.natAbs 0 false

/-- A conversion between the two floating-point formats (R521, R522). -/
def fpToFp (f : FpFormat) (c : FpControl) (v : FpValue) : FpResult :=
  screen f [v] (match v with
    | .inf n => exactResult (packInf f n)
    | .zero n => exactResult (packZero f n)
    | v => deliver f c v.neg v.mag v.exp false)

/-! ### Comparison (R530) -/

/-- A number that orders the bit patterns of all values that are no NaN; both zeros are 0. -/
def orderKey (f : FpFormat) (bits : Nat) : Int :=
  let m := bits % 2 ^ (f.fracBits + f.expBits)
  if bits / 2 ^ (f.fracBits + f.expBits) % 2 = 1 then -(m : Int) else m

/-- A NaN of either kind. -/
def FpValue.isNan : FpValue → Bool
  | .nan _ _ => true
  | _ => false

/-- A comparison: whether the condition holds, and whether it is invalid. -/
def fpCompare (f : FpFormat) (cond : BitVec 4) (x y : Nat) : Bool × Bool :=
  let vx := unpack f x
  let vy := unpack f y
  let unordered := vx.isNan || vy.isNan
  let less := !unordered && decide (orderKey f x < orderKey f y)
  let equal := !unordered && decide (orderKey f x = orderKey f y)
  ((cond.getLsbD 2 && less) || (cond.getLsbD 1 && equal) || (cond.getLsbD 0 && unordered),
   vx.isSignaling || vy.isSignaling || (cond.getLsbD 3 && unordered))

/-! ### Paired single (R581) -/

/-- The two halves of a paired-single result: the conditions are joined, and E stands alone. -/
def joinHalves (lower upper : FpResult) : Conditions × Dword :=
  let c := lower.cond ||| upper.cond
  (if c.getLsbD 5 then condE else c, BitVec.ofNat 32 upper.bits ++ BitVec.ofNat 32 lower.bits)

/-- What FCR31 and the parameter `madd_fused` tell an operation. -/
def State.fpControl (s : State) : FpControl where
  rm := s.rm
  fs := s.fs
  uiEnabled := s.fpEnables.getLsbD 1 || s.fpEnables.getLsbD 0
  fused := s.params.maddFused

end Sys2Proof.Machine
end

