-- ==== Sys2Proof/Machine/FpOps.lean ====
section
/-! DEFINITION. What the floating-point meanings share (R480, R482, R484, R581): the CP1 check, reading operands,
doing one operation on a single, a double or the two halves of a paired single, and ending the instruction. -/

namespace Sys2Proof.Machine

/-! ### Operands -/

/-- A single-precision operand as a value. -/
def State.valueS (s : State) (n : Reg) : FpValue := unpack .single (s.readS n).toNat
/-- A double-precision operand as a value. -/
def State.valueD (s : State) (n : Reg) : FpValue := unpack .double (s.readD n).toNat
/-- The lower single of a paired-single operand (R580). -/
def State.lowerBits (s : State) (n : Reg) : Nat := ((s.readD n).extractLsb' 0 32 : Word).toNat
/-- The upper single of a paired-single operand (R580). -/
def State.upperBits (s : State) (n : Reg) : Nat := ((s.readD n).extractLsb' 32 32 : Word).toNat
/-- The lower single as a value. -/
def State.valueLower (s : State) (n : Reg) : FpValue := unpack .single (s.lowerBits n)
/-- The upper single as a value. -/
def State.valueUpper (s : State) (n : Reg) : FpValue := unpack .single (s.upperBits n)

/-! ### Ends -/

/-- A coprocessor 1 instruction: usable, then what it does, then the next instruction (R480). -/
def fpInstruction (s : State) (k : State → Res Unit) : Outcome := ((checkCp1 s).bind fun _ s => k s).finish

/-- The end of an operation with a single-precision or word result. -/
def endS (s : State) (fd : Reg) (r : FpResult) : Res Unit :=
  fpEnd s r.cond fun s => s.writeS fd (BitVec.ofNat 32 r.bits)

/-- The end of an operation with a double-precision or doubleword result. -/
def endD (s : State) (fd : Reg) (r : FpResult) : Res Unit :=
  fpEnd s r.cond fun s => s.writeD fd (BitVec.ofNat 64 r.bits)

/-- The end of an operation on paired singles (R581). -/
def endPS (s : State) (fd : Reg) (lower upper : FpResult) : Res Unit :=
  fpEnd s (joinHalves lower upper).1 fun s => s.writeD fd (joinHalves lower upper).2

/-! ### Shapes of operations -/

/-- Two single-precision sources. -/
def binaryS (op : FpFormat → FpControl → FpValue → FpValue → FpResult) (s : State) (fs ft fd : Reg) : Outcome :=
  fpInstruction s fun s => endS s fd (op .single s.fpControl (s.valueS fs) (s.valueS ft))

/-- Two double-precision sources. -/
def binaryD (op : FpFormat → FpControl → FpValue → FpValue → FpResult) (s : State) (fs ft fd : Reg) : Outcome :=
  fpInstruction s fun s => endD s fd (op .double s.fpControl (s.valueD fs) (s.valueD ft))

/-- Two paired-single sources. -/
def binaryPS (op : FpFormat → FpControl → FpValue → FpValue → FpResult) (s : State) (fs ft fd : Reg) : Outcome :=
  fpInstruction s fun s =>
    endPS s fd (op .single s.fpControl (s.valueLower fs) (s.valueLower ft))
      (op .single s.fpControl (s.valueUpper fs) (s.valueUpper ft))

/-- An operation on the bits of one single-precision source. -/
def unaryBitsS (op : FpFormat → Nat → FpResult) (s : State) (fs fd : Reg) : Outcome :=
  fpInstruction s fun s => endS s fd (op .single (s.readS fs).toNat)

/-- An operation on the bits of one double-precision source. -/
def unaryBitsD (op : FpFormat → Nat → FpResult) (s : State) (fs fd : Reg) : Outcome :=
  fpInstruction s fun s => endD s fd (op .double (s.readD fs).toNat)

/-- An operation on the bits of the halves of one paired-single source. -/
def unaryBitsPS (op : FpFormat → Nat → FpResult) (s : State) (fs fd : Reg) : Outcome :=
  fpInstruction s fun s => endPS s fd (op .single (s.lowerBits fs)) (op .single (s.upperBits fs))

/-- The multiply-add shape: the destination is the third source (R589). -/
abbrev TernaryOp := FpFormat → FpControl → FpValue → FpValue → FpValue → FpResult

/-- Three single-precision sources. -/
def ternaryS (op : TernaryOp) (s : State) (fs ft fd : Reg) : Outcome :=
  fpInstruction s fun s => endS s fd (op .single s.fpControl (s.valueS fd) (s.valueS fs) (s.valueS ft))

/-- Three double-precision sources. -/
def ternaryD (op : TernaryOp) (s : State) (fs ft fd : Reg) : Outcome :=
  fpInstruction s fun s => endD s fd (op .double s.fpControl (s.valueD fd) (s.valueD fs) (s.valueD ft))

/-- Three paired-single sources. -/
def ternaryPS (op : TernaryOp) (s : State) (fs ft fd : Reg) : Outcome :=
  fpInstruction s fun s =>
    endPS s fd (op .single s.fpControl (s.valueLower fd) (s.valueLower fs) (s.valueLower ft))
      (op .single s.fpControl (s.valueUpper fd) (s.valueUpper fs) (s.valueUpper ft))

/-! ### Conversions (R510, R521, R522) -/

/-- A conversion of a single to a 32-bit integer. -/
def convertSW (rm : BitVec 2) (s : State) (fs fd : Reg) : Outcome :=
  fpInstruction s fun s => endS s fd (fpToInt 32 rm (s.valueS fs))
/-- A conversion of a double to a 32-bit integer. -/
def convertDW (rm : BitVec 2) (s : State) (fs fd : Reg) : Outcome :=
  fpInstruction s fun s => endS s fd (fpToInt 32 rm (s.valueD fs))
/-- A conversion of a single to a 64-bit integer. -/
def convertSL (rm : BitVec 2) (s : State) (fs fd : Reg) : Outcome :=
  fpInstruction s fun s => endD s fd (fpToInt 64 rm (s.valueS fs))
/-- A conversion of a double to a 64-bit integer. -/
def convertDL (rm : BitVec 2) (s : State) (fs fd : Reg) : Outcome :=
  fpInstruction s fun s => endD s fd (fpToInt 64 rm (s.valueD fs))

/-! ### Comparisons (R530, R590) -/

/-- The conditions a comparison raises. -/
def compareCond (invalid : Bool) : Conditions := if invalid then condV else 0

/-- A comparison of singles into condition bit 0. -/
def compareS (cond : BitVec 4) (s : State) (fs ft : Reg) : Outcome :=
  fpInstruction s fun s =>
    let r := fpCompare .single cond (s.readS fs).toNat (s.readS ft).toNat
    fpEnd s (compareCond r.2) fun s => s.setFcr31 (withCc0 s.fcr31 r.1)

/-- A comparison of doubles into condition bit 0. -/
def compareD (cond : BitVec 4) (s : State) (fs ft : Reg) : Outcome :=
  fpInstruction s fun s =>
    let r := fpCompare .double cond (s.readD fs).toNat (s.readD ft).toNat
    fpEnd s (compareCond r.2) fun s => s.setFcr31 (withCc0 s.fcr31 r.1)

/-- A comparison of paired singles: the lower halves into condition bit 0, the upper ones into bit 1 (R590). -/
def comparePS (cond : BitVec 4) (s : State) (fs ft : Reg) : Outcome :=
  fpInstruction s fun s =>
    let lower := fpCompare .single cond (s.lowerBits fs) (s.lowerBits ft)
    let upper := fpCompare .single cond (s.upperBits fs) (s.upperBits ft)
    fpEnd s (compareCond (lower.2 || upper.2)) fun s =>
      s.setFcr31 (withCc1 (withCc0 s.fcr31 lower.1) upper.1)

end Sys2Proof.Machine
end

