-- ==== Sys2Proof/Machine/FpArithmetic.lean ====
section
/-! DEFINITION. Floating-point arithmetic on singles and doubles (spec/48_fpu.md R500 to R507). -/

namespace Sys2Proof.Machine

/-- ADD.S (R500). -/
def execAddS (ft fs fd : Reg) (s : State) : Outcome := binaryS fpAdd s fs ft fd

/-- ADD.D (R500). -/
def execAddD (ft fs fd : Reg) (s : State) : Outcome := binaryD fpAdd s fs ft fd

/-- SUB.S (R501). -/
def execSubS (ft fs fd : Reg) (s : State) : Outcome := binaryS fpSub s fs ft fd

/-- SUB.D (R501). -/
def execSubD (ft fs fd : Reg) (s : State) : Outcome := binaryD fpSub s fs ft fd

/-- MUL.S (R502). -/
def execMulS (ft fs fd : Reg) (s : State) : Outcome := binaryS fpMul s fs ft fd

/-- MUL.D (R502). -/
def execMulD (ft fs fd : Reg) (s : State) : Outcome := binaryD fpMul s fs ft fd

/-- DIV.S (R503). -/
def execDivS (ft fs fd : Reg) (s : State) : Outcome := binaryS (fun f => fpDiv f s.nofdiv) s fs ft fd

/-- DIV.D (R503). -/
def execDivD (ft fs fd : Reg) (s : State) : Outcome := binaryD (fun f => fpDiv f s.nofdiv) s fs ft fd

/-- SQRT.S (R504). -/
def execSqrtS (fs fd : Reg) (s : State) : Outcome :=
  fpInstruction s fun s => endS s fd (fpSqrt .single s.nofsqr s.fpControl (s.valueS fs))

/-- SQRT.D (R504). -/
def execSqrtD (fs fd : Reg) (s : State) : Outcome :=
  fpInstruction s fun s => endD s fd (fpSqrt .double s.nofsqr s.fpControl (s.valueD fs))

/-- ABS.S (R505): arithmetic on this hardware. -/
def execAbsS (fs fd : Reg) (s : State) : Outcome := unaryBitsS fpAbs s fs fd

/-- ABS.D (R505): arithmetic on this hardware. -/
def execAbsD (fs fd : Reg) (s : State) : Outcome := unaryBitsD fpAbs s fs fd

/-- NEG.S (R507): arithmetic on this hardware. -/
def execNegS (fs fd : Reg) (s : State) : Outcome := unaryBitsS fpNeg s fs fd

/-- NEG.D (R507): arithmetic on this hardware. -/
def execNegD (fs fd : Reg) (s : State) : Outcome := unaryBitsD fpNeg s fs fd

end Sys2Proof.Machine
end

