-- ==== Sys2Proof/Machine/FpCompare.lean ====
section
/-! DEFINITION. Floating-point comparisons of singles and doubles (spec/48_fpu.md R530 to R546). -/

namespace Sys2Proof.Machine

/-- C.F.S (R531). -/
def execCFS (ft fs : Reg) (s : State) : Outcome := compareS 0 s fs ft

/-- C.F.D (R531). -/
def execCFD (ft fs : Reg) (s : State) : Outcome := compareD 0 s fs ft

/-- C.UN.S (R532). -/
def execCUnS (ft fs : Reg) (s : State) : Outcome := compareS 1 s fs ft

/-- C.UN.D (R532). -/
def execCUnD (ft fs : Reg) (s : State) : Outcome := compareD 1 s fs ft

/-- C.EQ.S (R533). -/
def execCEqS (ft fs : Reg) (s : State) : Outcome := compareS 2 s fs ft

/-- C.EQ.D (R533). -/
def execCEqD (ft fs : Reg) (s : State) : Outcome := compareD 2 s fs ft

/-- C.UEQ.S (R534). -/
def execCUeqS (ft fs : Reg) (s : State) : Outcome := compareS 3 s fs ft

/-- C.UEQ.D (R534). -/
def execCUeqD (ft fs : Reg) (s : State) : Outcome := compareD 3 s fs ft

/-- C.OLT.S (R535). -/
def execCOltS (ft fs : Reg) (s : State) : Outcome := compareS 4 s fs ft

/-- C.OLT.D (R535). -/
def execCOltD (ft fs : Reg) (s : State) : Outcome := compareD 4 s fs ft

/-- C.ULT.S (R536). -/
def execCUltS (ft fs : Reg) (s : State) : Outcome := compareS 5 s fs ft

/-- C.ULT.D (R536). -/
def execCUltD (ft fs : Reg) (s : State) : Outcome := compareD 5 s fs ft

/-- C.OLE.S (R537). -/
def execCOleS (ft fs : Reg) (s : State) : Outcome := compareS 6 s fs ft

/-- C.OLE.D (R537). -/
def execCOleD (ft fs : Reg) (s : State) : Outcome := compareD 6 s fs ft

/-- C.ULE.S (R538). -/
def execCUleS (ft fs : Reg) (s : State) : Outcome := compareS 7 s fs ft

/-- C.ULE.D (R538). -/
def execCUleD (ft fs : Reg) (s : State) : Outcome := compareD 7 s fs ft

/-- C.SF.S (R539). -/
def execCSfS (ft fs : Reg) (s : State) : Outcome := compareS 8 s fs ft

/-- C.SF.D (R539). -/
def execCSfD (ft fs : Reg) (s : State) : Outcome := compareD 8 s fs ft

/-- C.NGLE.S (R540). -/
def execCNgleS (ft fs : Reg) (s : State) : Outcome := compareS 9 s fs ft

/-- C.NGLE.D (R540). -/
def execCNgleD (ft fs : Reg) (s : State) : Outcome := compareD 9 s fs ft

/-- C.SEQ.S (R541). -/
def execCSeqS (ft fs : Reg) (s : State) : Outcome := compareS 10 s fs ft

/-- C.SEQ.D (R541). -/
def execCSeqD (ft fs : Reg) (s : State) : Outcome := compareD 10 s fs ft

/-- C.NGL.S (R542). -/
def execCNglS (ft fs : Reg) (s : State) : Outcome := compareS 11 s fs ft

/-- C.NGL.D (R542). -/
def execCNglD (ft fs : Reg) (s : State) : Outcome := compareD 11 s fs ft

/-- C.LT.S (R543). -/
def execCLtS (ft fs : Reg) (s : State) : Outcome := compareS 12 s fs ft

/-- C.LT.D (R543). -/
def execCLtD (ft fs : Reg) (s : State) : Outcome := compareD 12 s fs ft

/-- C.NGE.S (R544). -/
def execCNgeS (ft fs : Reg) (s : State) : Outcome := compareS 13 s fs ft

/-- C.NGE.D (R544). -/
def execCNgeD (ft fs : Reg) (s : State) : Outcome := compareD 13 s fs ft

/-- C.LE.S (R545). -/
def execCLeS (ft fs : Reg) (s : State) : Outcome := compareS 14 s fs ft

/-- C.LE.D (R545). -/
def execCLeD (ft fs : Reg) (s : State) : Outcome := compareD 14 s fs ft

/-- C.NGT.S (R546). -/
def execCNgtS (ft fs : Reg) (s : State) : Outcome := compareS 15 s fs ft

/-- C.NGT.D (R546). -/
def execCNgtD (ft fs : Reg) (s : State) : Outcome := compareD 15 s fs ft

end Sys2Proof.Machine
end

