-- ==== Sys2Proof/Machine/FpConvert.lean ====
section
/-! DEFINITION. Floating-point conversions (spec/48_fpu.md R510 to R522). -/

namespace Sys2Proof.Machine

/-- ROUND.L.S (R511). -/
def execRoundLS (fs fd : Reg) (s : State) : Outcome := convertSL 0 s fs fd

/-- ROUND.L.D (R511). -/
def execRoundLD (fs fd : Reg) (s : State) : Outcome := convertDL 0 s fs fd

/-- TRUNC.L.S (R512). -/
def execTruncLS (fs fd : Reg) (s : State) : Outcome := convertSL 1 s fs fd

/-- TRUNC.L.D (R512). -/
def execTruncLD (fs fd : Reg) (s : State) : Outcome := convertDL 1 s fs fd

/-- CEIL.L.S (R513). -/
def execCeilLS (fs fd : Reg) (s : State) : Outcome := convertSL 2 s fs fd

/-- CEIL.L.D (R513). -/
def execCeilLD (fs fd : Reg) (s : State) : Outcome := convertDL 2 s fs fd

/-- FLOOR.L.S (R514). -/
def execFloorLS (fs fd : Reg) (s : State) : Outcome := convertSL 3 s fs fd

/-- FLOOR.L.D (R514). -/
def execFloorLD (fs fd : Reg) (s : State) : Outcome := convertDL 3 s fs fd

/-- ROUND.W.S (R515). -/
def execRoundWS (fs fd : Reg) (s : State) : Outcome := convertSW 0 s fs fd

/-- ROUND.W.D (R515). -/
def execRoundWD (fs fd : Reg) (s : State) : Outcome := convertDW 0 s fs fd

/-- TRUNC.W.S (R516). -/
def execTruncWS (fs fd : Reg) (s : State) : Outcome := convertSW 1 s fs fd

/-- TRUNC.W.D (R516). -/
def execTruncWD (fs fd : Reg) (s : State) : Outcome := convertDW 1 s fs fd

/-- CEIL.W.S (R517). -/
def execCeilWS (fs fd : Reg) (s : State) : Outcome := convertSW 2 s fs fd

/-- CEIL.W.D (R517). -/
def execCeilWD (fs fd : Reg) (s : State) : Outcome := convertDW 2 s fs fd

/-- FLOOR.W.S (R518). -/
def execFloorWS (fs fd : Reg) (s : State) : Outcome := convertSW 3 s fs fd

/-- FLOOR.W.D (R518). -/
def execFloorWD (fs fd : Reg) (s : State) : Outcome := convertDW 3 s fs fd

/-- CVT.W.S (R519). -/
def execCvtWS (fs fd : Reg) (s : State) : Outcome := convertSW s.rm s fs fd

/-- CVT.W.D (R519). -/
def execCvtWD (fs fd : Reg) (s : State) : Outcome := convertDW s.rm s fs fd

/-- CVT.L.S (R520). -/
def execCvtLS (fs fd : Reg) (s : State) : Outcome := convertSL s.rm s fs fd

/-- CVT.L.D (R520). -/
def execCvtLD (fs fd : Reg) (s : State) : Outcome := convertDL s.rm s fs fd

/-- CVT.S.D (R521). -/
def execCvtSD (fs fd : Reg) (s : State) : Outcome :=
  fpInstruction s fun s => endS s fd (fpToFp .single s.fpControl (s.valueD fs))

/-- CVT.S.W (R521). -/
def execCvtSW (fs fd : Reg) (s : State) : Outcome :=
  fpInstruction s fun s => endS s fd (intToFp .single s.fpControl (s.readS fs).toInt)

/-- CVT.S.L (R521). -/
def execCvtSL (fs fd : Reg) (s : State) : Outcome :=
  fpInstruction s fun s => endS s fd (intToFp .single s.fpControl (s.readD fs).toInt)

/-- CVT.D.S (R522). -/
def execCvtDS (fs fd : Reg) (s : State) : Outcome :=
  fpInstruction s fun s => endD s fd (fpToFp .double s.fpControl (s.valueS fs))

/-- CVT.D.W (R522). -/
def execCvtDW (fs fd : Reg) (s : State) : Outcome :=
  fpInstruction s fun s => endD s fd (intToFp .double s.fpControl (s.readS fs).toInt)

/-- CVT.D.L (R522). -/
def execCvtDL (fs fd : Reg) (s : State) : Outcome :=
  fpInstruction s fun s => endD s fd (intToFp .double s.fpControl (s.readD fs).toInt)

end Sys2Proof.Machine
end

