-- ==== Sys2Proof/Machine/FpMadd.lean ====
section
/-! DEFINITION. The multiply-add families (spec/49_fpu_ps_madd.md R589, R600 to R611). -/

namespace Sys2Proof.Machine

/-- MADD.S (R600). -/
def execMaddS (ft fs fd : Reg) (s : State) : Outcome := ternaryS (fun f => fpMadd f false false) s fs ft fd

/-- MADD.D (R601). -/
def execMaddD (ft fs fd : Reg) (s : State) : Outcome := ternaryD (fun f => fpMadd f false false) s fs ft fd

/-- MADD.PS (R602). -/
def execMaddPs (ft fs fd : Reg) (s : State) : Outcome := ternaryPS (fun f => fpMadd f false false) s fs ft fd

/-- MSUB.S (R603). -/
def execMsubS (ft fs fd : Reg) (s : State) : Outcome := ternaryS (fun f => fpMadd f true false) s fs ft fd

/-- MSUB.D (R604). -/
def execMsubD (ft fs fd : Reg) (s : State) : Outcome := ternaryD (fun f => fpMadd f true false) s fs ft fd

/-- MSUB.PS (R605). -/
def execMsubPs (ft fs fd : Reg) (s : State) : Outcome := ternaryPS (fun f => fpMadd f true false) s fs ft fd

/-- NMADD.S (R606). -/
def execNmaddS (ft fs fd : Reg) (s : State) : Outcome := ternaryS (fun f => fpMadd f false true) s fs ft fd

/-- NMADD.D (R607). -/
def execNmaddD (ft fs fd : Reg) (s : State) : Outcome := ternaryD (fun f => fpMadd f false true) s fs ft fd

/-- NMADD.PS (R608). -/
def execNmaddPs (ft fs fd : Reg) (s : State) : Outcome := ternaryPS (fun f => fpMadd f false true) s fs ft fd

/-- NMSUB.S (R609). -/
def execNmsubS (ft fs fd : Reg) (s : State) : Outcome := ternaryS (fun f => fpMadd f true true) s fs ft fd

/-- NMSUB.D (R610). -/
def execNmsubD (ft fs fd : Reg) (s : State) : Outcome := ternaryD (fun f => fpMadd f true true) s fs ft fd

/-- NMSUB.PS (R611). -/
def execNmsubPs (ft fs fd : Reg) (s : State) : Outcome := ternaryPS (fun f => fpMadd f true true) s fs ft fd

end Sys2Proof.Machine
end

