-- ==== Sys2Proof/Machine/FpMove.lean ====
section
/-! DEFINITION. Moves within and to the floating-point unit (spec/48_fpu.md R506, R547 to R552). -/

namespace Sys2Proof.Machine

/-- A floating-point control register: FCR0 and FCR31 exist, the others read 0 (R552, D34). -/
def State.readFcr (s : State) (n : Reg) : Dword :=
  if n = 0 then 0x501 else if n = 31 then sext32 s.fcr31 else 0

/-- A write to a floating-point control register (R551): only FCR31 takes it, and traps at once on an enabled Cause
bit. -/
def writeFcr (s : State) (n : Reg) (v : Dword) : Res Unit :=
  if n = 31 then
    let t := s.setFcr31 (writableFcr31 (low32 v))
    if fcr31Traps t.fcr31 then .raise .floatingPoint t else .ok () t
  else .ok () s

/-- MOV.S (R506): a copy of the bits; Cause is kept. -/
def execMovS (fs fd : Reg) (s : State) : Outcome := fpInstruction s fun s => .ok () (s.writeS fd (s.readS fs))

/-- MOV.D (R506): a copy of the bits; Cause is kept. -/
def execMovD (fs fd : Reg) (s : State) : Outcome := fpInstruction s fun s => .ok () (s.writeD fd (s.readD fs))

/-- MFC1 (R547). -/
def execMfc1 (rt fs : Reg) (s : State) : Outcome :=
  fpInstruction s fun s => .ok () (s.writeGpr rt (sext32 (s.readS fs)))

/-- MTC1 (R548). -/
def execMtc1 (rt fs : Reg) (s : State) : Outcome :=
  fpInstruction s fun s => .ok () (s.writeS fs (low32 (s.readGpr rt)))

/-- DMFC1 (R549). -/
def execDmfc1 (rt fs : Reg) (s : State) : Outcome := fpInstruction s fun s => .ok () (s.writeGpr rt (s.readD fs))

/-- DMTC1 (R550). -/
def execDmtc1 (rt fs : Reg) (s : State) : Outcome := fpInstruction s fun s => .ok () (s.writeD fs (s.readGpr rt))

/-- CFC1 (R552). -/
def execCfc1 (rt fs : Reg) (s : State) : Outcome := fpInstruction s fun s => .ok () (s.writeGpr rt (s.readFcr fs))

/-- CTC1 (R551): a write to FCR31 that leaves an enabled Cause bit set traps, and stays written. -/
def execCtc1 (rt fs : Reg) (s : State) : Outcome := fpInstruction s fun s => writeFcr s fs (s.readGpr rt)

end Sys2Proof.Machine
end

