-- ==== Sys2Proof/Machine/FpPairedSingle.lean ====
section
/-! DEFINITION. The paired-single instructions (spec/49_fpu_ps_madd.md R580 to R618). -/

namespace Sys2Proof.Machine

/-- ADD.PS (R582). -/
def execAddPs (ft fs fd : Reg) (s : State) : Outcome := binaryPS fpAdd s fs ft fd

/-- SUB.PS (R583). -/
def execSubPs (ft fs fd : Reg) (s : State) : Outcome := binaryPS fpSub s fs ft fd

/-- MUL.PS (R584). -/
def execMulPs (ft fs fd : Reg) (s : State) : Outcome := binaryPS fpMul s fs ft fd

/-- ABS.PS (R585): arithmetic on this hardware. -/
def execAbsPs (fs fd : Reg) (s : State) : Outcome := unaryBitsPS fpAbs s fs fd

/-- MOV.PS (R586): a copy of the bits; Cause is kept. -/
def execMovPs (fs fd : Reg) (s : State) : Outcome := fpInstruction s fun s => .ok () (s.writeD fd (s.readD fs))

/-- NEG.PS (R587): arithmetic on this hardware. -/
def execNegPs (fs fd : Reg) (s : State) : Outcome := unaryBitsPS fpNeg s fs fd

/-- C.F.PS (R591). -/
def execCFPs (ft fs : Reg) (s : State) : Outcome := comparePS 0 s fs ft

/-- C.UN.PS (R592). -/
def execCUnPs (ft fs : Reg) (s : State) : Outcome := comparePS 1 s fs ft

/-- C.EQ.PS (R593). -/
def execCEqPs (ft fs : Reg) (s : State) : Outcome := comparePS 2 s fs ft

/-- C.UEQ.PS (R594). -/
def execCUeqPs (ft fs : Reg) (s : State) : Outcome := comparePS 3 s fs ft

/-- C.OLT.PS (R595). -/
def execCOltPs (ft fs : Reg) (s : State) : Outcome := comparePS 4 s fs ft

/-- C.ULT.PS (R596). -/
def execCUltPs (ft fs : Reg) (s : State) : Outcome := comparePS 5 s fs ft

/-- C.OLE.PS (R597). -/
def execCOlePs (ft fs : Reg) (s : State) : Outcome := comparePS 6 s fs ft

/-- C.ULE.PS (R598). -/
def execCUlePs (ft fs : Reg) (s : State) : Outcome := comparePS 7 s fs ft

/-- C.SF.PS (R599). -/
def execCSfPs (ft fs : Reg) (s : State) : Outcome := comparePS 8 s fs ft

/-- C.NGLE.PS (R612). -/
def execCNglePs (ft fs : Reg) (s : State) : Outcome := comparePS 9 s fs ft

/-- C.SEQ.PS (R613). -/
def execCSeqPs (ft fs : Reg) (s : State) : Outcome := comparePS 10 s fs ft

/-- C.NGL.PS (R614). -/
def execCNglPs (ft fs : Reg) (s : State) : Outcome := comparePS 11 s fs ft

/-- C.LT.PS (R615). -/
def execCLtPs (ft fs : Reg) (s : State) : Outcome := comparePS 12 s fs ft

/-- C.NGE.PS (R616). -/
def execCNgePs (ft fs : Reg) (s : State) : Outcome := comparePS 13 s fs ft

/-- C.LE.PS (R617). -/
def execCLePs (ft fs : Reg) (s : State) : Outcome := comparePS 14 s fs ft

/-- C.NGT.PS (R618). -/
def execCNgtPs (ft fs : Reg) (s : State) : Outcome := comparePS 15 s fs ft

end Sys2Proof.Machine
end

