-- ==== Sys2Proof/Machine/Memory.lean ====
section
/-! DEFINITION. MemRead and MemWrite (R130): alignment, translation, the Watch check, and the access by its cache
attribute (R140 to R143), with the gather buffer of the uncached-accelerated stores. -/

namespace Sys2Proof.Machine

/-! ### The gather buffer (R78, R143; notes/assumptions/26.md) -/

/-- Store bytes one by one (R143). -/
def physWriteEach (s : State) (pa : BitVec 40) : List Byte → Res Unit
  | [] => .ok () s
  | b :: bs => (physWrite s pa [b]).bind fun _ s => physWriteEach s (pa + 1) bs

/-- Write the gather buffer out: a full line as one block, anything less byte by byte (R143). -/
def flushGather (s : State) : Res Unit :=
  match s.gather with
  | none => .ok () s
  | some g =>
    let s1 := { s with gather := none }
    if g.bytes.length = 32 then physWrite s1 g.first g.bytes else physWriteEach s1 g.first g.bytes

/-- Whether a store continues the collection: same type, next address, same line. -/
def Gather.continues (g : Gather) (pa : BitVec 40) (n : Nat) : Bool :=
  (g.size == n) && (pa == g.first + BitVec.ofNat 40 g.bytes.length) && (lineAddress pa == lineAddress g.first)

/-- Put a collection into the buffer; a full line is written out. -/
def keepGather (s : State) (g : Gather) : Res Unit :=
  let s1 := { s with gather := some g }
  if g.bytes.length = 32 then flushGather s1 else .ok () s1

/-- An uncached-accelerated store (R143). -/
def gatherStore (s : State) (pa : BitVec 40) (bytes : List Byte) : Res Unit :=
  match s.gather with
  | some g =>
    if g.continues pa bytes.length then keepGather s { g with bytes := g.bytes ++ bytes }
    else (flushGather s).bind fun _ s => keepGather s { first := pa, size := bytes.length, bytes := bytes }
  | none => keepGather s { first := pa, size := bytes.length, bytes := bytes }

/-! ### Accesses by attribute (R140) -/

/-- Read `n` bytes inside an aligned doubleword.  Only attribute 3 goes through the caches; every uncached access
empties the gather buffer first (D7). -/
def dataRead (s : State) (c : BitVec 3) (va : Dword) (pa : BitVec 40) (n : Nat) : Res (List Byte) :=
  if c = 3 then readCached s va pa n
  else (flushGather s).bind fun _ s =>
    if s.busErrorAt pa false then .raise (.busError false) s else physRead s pa n

/-- Write bytes inside an aligned doubleword. -/
def dataWrite (s : State) (c : BitVec 3) (va : Dword) (pa : BitVec 40) (bytes : List Byte) : Res Unit :=
  if c = 3 then writeCached s va pa bytes
  else if c = 7 then gatherStore s pa bytes
  else (flushGather s).bind fun _ s => physWrite s pa bytes

/-! ### Addresses of data accesses -/

/-- Whether the Watch register watches an access: its doubleword and its kind (R131). -/
def State.watched (s : State) (store : Bool) (va : Dword) : Bool :=
  (va.extractLsb' 3 61 == (s.cp0.watch.extractLsb' 3 61 : BitVec 61)) &&
    (if store then s.cp0.watch.getLsbD 0 else s.cp0.watch.getLsbD 1)

/-- Translation and Watch check of a data access (R130 steps 2 and 3). -/
def dataAddress (s : State) (store : Bool) (va : Dword) : Res (BitVec 40 × BitVec 3) :=
  (translate s (if store then .store else .load) va).bind fun r s =>
    if s.watched store va then .raise .watch s else .ok r s

/-- Whether an address is a multiple of the access size (R102). -/
def aligned (va : Dword) (n : Nat) : Bool := va.toNat % n == 0

/-- The alignment check before translation and Watch check (R130 step 1). -/
def alignedAddress (s : State) (store : Bool) (va : Dword) (n : Nat) : Res (BitVec 40 × BitVec 3) :=
  if aligned va n then dataAddress s store va else .raise (.addressError store va) s

/-- The physical address with bits 2:0 of another virtual address of the same doubleword: where a partial access
begins. -/
def atByte (pa : BitVec 40) (first : Dword) : BitVec 40 := pa.extractLsb' 3 37 ++ first.extractLsb' 0 3

/-! ### The primitives (R130) -/

/-- MemRead: `n` bytes, zero-extended to a doubleword.  An exception leaves no effect (R130, R621).  DESIGN CHOICE: nor
has an uncached load that ends in a bus error written the gather buffer out, which D7 says of every uncached access: its
bytes wait in the buffer as before (notes/assumptions/26.md). -/
def memRead (s : State) (va : Dword) (n : Nat) : Res Dword :=
  ((alignedAddress s false va n).bind fun r s =>
    (dataRead s r.2 va r.1 n).bind fun bytes s => .ok (ofBytes 64 bytes) s).precise s

/-- MemWrite: the low `n` bytes of a doubleword. -/
def memWrite (s : State) (va : Dword) (n : Nat) (v : Dword) : Res Unit :=
  ((alignedAddress s true va n).bind fun r s => dataWrite s r.2 va r.1 (toBytes v n)).precise s

/-- MemReadBytes: `n` bytes from `first` on, in the doubleword of `va`, for the partial loads (R130, R211). -/
def memReadPart (s : State) (va first : Dword) (n : Nat) : Res Dword :=
  ((dataAddress s false va).bind fun r s =>
    (dataRead s r.2 va (atByte r.1 first) n).bind fun bytes s => .ok (ofBytes 64 bytes) s).precise s

/-- MemWriteBytes: the low `n` bytes of a value from `first` on, in the doubleword of `va` (R130, R211). -/
def memWritePart (s : State) (va first : Dword) (n : Nat) (v : Dword) : Res Unit :=
  ((dataAddress s true va).bind fun r s => dataWrite s r.2 va (atByte r.1 first) (toBytes v n)).precise s

/-- The store of SC and SCD: checked like a store in either case, performed when LLbit is 1 (R224). -/
def memWriteConditional (s : State) (va : Dword) (n : Nat) (v : Dword) : Res Unit :=
  ((alignedAddress s true va n).bind fun r s =>
    if s.llbit then dataWrite s r.2 va r.1 (toBytes v n) else .ok () s).precise s

end Sys2Proof.Machine
end

