-- ==== Sys2Proof/Machine/LoadStore.lean ====
section
/-! DEFINITION. The loads and stores (spec/40_load_store.md). -/

namespace Sys2Proof.Machine

/-! ### Shapes -/

/-- The low `n` bits of a doubleword, sign-extended. -/
def signExtendFrom (n : Nat) (v : Dword) : Dword := (v.setWidth n).signExtend 64

/-- A load into a general register.  A load to r0 is a prefetch: no exception, no change (R203, D21). -/
def load (s : State) (rt : Reg) (va : Dword) (n : Nat) (extend : Dword → Dword) : Outcome :=
  if rt = 0 then complete s
  else ((memRead s va n).bind fun v s => .ok () (s.writeGpr rt (extend v))).finish

/-- The bytes a partial access touches: the effective address, the first byte and how many (R211). -/
structure Part where
  va : Dword
  first : Dword
  count : Nat
deriving DecidableEq, Repr

/-- The bytes of a word from its first to the addressed one. -/
def wordLeft (va : Dword) : Part :=
  { va := va, first := va &&& ~~~(3 : Dword), count := (va.extractLsb' 0 2).toNat + 1 }
/-- The bytes of a word from the addressed one to its last. -/
def wordRight (va : Dword) : Part := { va := va, first := va, count := 4 - (va.extractLsb' 0 2).toNat }
/-- The bytes of a doubleword from its first to the addressed one. -/
def doubleLeft (va : Dword) : Part :=
  { va := va, first := va &&& ~~~(7 : Dword), count := (va.extractLsb' 0 3).toNat + 1 }
/-- The bytes of a doubleword from the addressed one to its last. -/
def doubleRight (va : Dword) : Part := { va := va, first := va, count := 8 - (va.extractLsb' 0 3).toNat }

/-- The result of LWL: the bytes read go to the high end of the word, which is sign-extended (R212). -/
def mergeWordLeft (va : Dword) (bytes old : Dword) : Dword :=
  let k := 8 * (3 - (va.extractLsb' 0 2).toNat)
  sext32 ((low32 bytes <<< k) ||| (low32 old &&& ~~~((0xFFFFFFFF : Word) <<< k)))
/-- The result of LWR: the bytes read go to the low end of the word, which is sign-extended (R213, D26). -/
def mergeWordRight (va : Dword) (bytes old : Dword) : Dword :=
  sext32 (low32 bytes ||| (low32 old &&& ~~~((0xFFFFFFFF : Word) >>> (8 * (va.extractLsb' 0 2).toNat))))
/-- The result of LDL (R216). -/
def mergeDoubleLeft (va : Dword) (bytes old : Dword) : Dword :=
  let k := 8 * (7 - (va.extractLsb' 0 3).toNat)
  (bytes <<< k) ||| (old &&& ~~~((0xFFFFFFFFFFFFFFFF : Dword) <<< k))
/-- The result of LDR (R217). -/
def mergeDoubleRight (va : Dword) (bytes old : Dword) : Dword :=
  bytes ||| (old &&& ~~~((0xFFFFFFFFFFFFFFFF : Dword) >>> (8 * (va.extractLsb' 0 3).toNat)))

/-- A partial load: `merge` puts the bytes read into the old register value (R211). -/
def loadPart (s : State) (rt : Reg) (part : Part) (merge : Dword → Dword → Dword) : Outcome :=
  if rt = 0 then complete s
  else ((memReadPart s part.va part.first part.count).bind fun v s =>
    .ok () (s.writeGpr rt (merge v (s.readGpr rt)))).finish

/-- A partial store of the low bytes of a value (R211). -/
def storePart (s : State) (part : Part) (v : Dword) : Outcome :=
  (memWritePart s part.va part.first part.count v).finish

/-- LL and LLD (R222, D9). -/
def loadLinked (s : State) (rt : Reg) (va : Dword) (n : Nat) (extend : Dword → Dword) : Outcome :=
  if rt = 0 then complete s
  else ((memRead s va n).bind fun v s => .ok () ((s.writeGpr rt (extend v)).setLlbit true)).finish

/-- SC and SCD: the store happens if LLbit is 1, and rt says whether it did; LLbit is kept (R224, D9). -/
def storeConditional (s : State) (rt : Reg) (va : Dword) (n : Nat) : Outcome :=
  ((memWriteConditional s va n (s.readGpr rt)).bind fun _ s =>
    .ok () (s.writeGpr rt (if s.llbit then 1 else 0))).finish

/-! ### Meanings -/

/-- LB (R204): load byte, signed. -/
def execLb (base rt : Reg) (offset : BitVec 16) (s : State) : Outcome :=
  load s rt (s.effectiveAddress base offset) 1 (signExtendFrom 8)

/-- LBU (R205): load byte, unsigned. -/
def execLbu (base rt : Reg) (offset : BitVec 16) (s : State) : Outcome :=
  load s rt (s.effectiveAddress base offset) 1 id

/-- LH (R206): load halfword, signed. -/
def execLh (base rt : Reg) (offset : BitVec 16) (s : State) : Outcome :=
  load s rt (s.effectiveAddress base offset) 2 (signExtendFrom 16)

/-- LHU (R207): load halfword, unsigned. -/
def execLhu (base rt : Reg) (offset : BitVec 16) (s : State) : Outcome :=
  load s rt (s.effectiveAddress base offset) 2 id

/-- LW (R208): load word, signed. -/
def execLw (base rt : Reg) (offset : BitVec 16) (s : State) : Outcome :=
  load s rt (s.effectiveAddress base offset) 4 (signExtendFrom 32)

/-- LWU (R209): load word, unsigned. -/
def execLwu (base rt : Reg) (offset : BitVec 16) (s : State) : Outcome :=
  load s rt (s.effectiveAddress base offset) 4 id

/-- LD (R210): load doubleword. -/
def execLd (base rt : Reg) (offset : BitVec 16) (s : State) : Outcome :=
  load s rt (s.effectiveAddress base offset) 8 id

/-- LWL (R212): load word left. -/
def execLwl (base rt : Reg) (offset : BitVec 16) (s : State) : Outcome :=
  loadPart s rt (wordLeft (s.effectiveAddress base offset)) (mergeWordLeft (s.effectiveAddress base offset))

/-- LWR (R213): load word right. -/
def execLwr (base rt : Reg) (offset : BitVec 16) (s : State) : Outcome :=
  loadPart s rt (wordRight (s.effectiveAddress base offset)) (mergeWordRight (s.effectiveAddress base offset))

/-- SWL (R214): store word left, the high-order bytes of the word. -/
def execSwl (base rt : Reg) (offset : BitVec 16) (s : State) : Outcome :=
  let part := wordLeft (s.effectiveAddress base offset)
  storePart s part ((s.readGpr rt &&& 0xFFFFFFFF) >>> (8 * (4 - part.count)))

/-- SWR (R215): store word right, the low-order bytes of the word. -/
def execSwr (base rt : Reg) (offset : BitVec 16) (s : State) : Outcome :=
  storePart s (wordRight (s.effectiveAddress base offset)) (s.readGpr rt)

/-- LDL (R216): load doubleword left. -/
def execLdl (base rt : Reg) (offset : BitVec 16) (s : State) : Outcome :=
  loadPart s rt (doubleLeft (s.effectiveAddress base offset)) (mergeDoubleLeft (s.effectiveAddress base offset))

/-- LDR (R217): load doubleword right. -/
def execLdr (base rt : Reg) (offset : BitVec 16) (s : State) : Outcome :=
  loadPart s rt (doubleRight (s.effectiveAddress base offset)) (mergeDoubleRight (s.effectiveAddress base offset))

/-- SDL (R218): store doubleword left, the high-order bytes. -/
def execSdl (base rt : Reg) (offset : BitVec 16) (s : State) : Outcome :=
  let part := doubleLeft (s.effectiveAddress base offset)
  storePart s part (s.readGpr rt >>> (8 * (8 - part.count)))

/-- SDR (R219): store doubleword right, the low-order bytes. -/
def execSdr (base rt : Reg) (offset : BitVec 16) (s : State) : Outcome :=
  storePart s (doubleRight (s.effectiveAddress base offset)) (s.readGpr rt)

/-- SB (R220): store byte. -/
def execSb (base rt : Reg) (offset : BitVec 16) (s : State) : Outcome :=
  (memWrite s (s.effectiveAddress base offset) 1 (s.readGpr rt)).finish

/-- SH (R221): store halfword. -/
def execSh (base rt : Reg) (offset : BitVec 16) (s : State) : Outcome :=
  (memWrite s (s.effectiveAddress base offset) 2 (s.readGpr rt)).finish

/-- SW (R226): store word. -/
def execSw (base rt : Reg) (offset : BitVec 16) (s : State) : Outcome :=
  (memWrite s (s.effectiveAddress base offset) 4 (s.readGpr rt)).finish

/-- SD (R227): store doubleword. -/
def execSd (base rt : Reg) (offset : BitVec 16) (s : State) : Outcome :=
  (memWrite s (s.effectiveAddress base offset) 8 (s.readGpr rt)).finish

/-- LL (R222): load linked word: LLbit becomes 1. -/
def execLl (base rt : Reg) (offset : BitVec 16) (s : State) : Outcome :=
  loadLinked s rt (s.effectiveAddress base offset) 4 (signExtendFrom 32)

/-- LLD (R223): load linked doubleword: LLbit becomes 1. -/
def execLld (base rt : Reg) (offset : BitVec 16) (s : State) : Outcome :=
  loadLinked s rt (s.effectiveAddress base offset) 8 id

/-- SC (R224): store conditional word: whether LLbit was 1 goes to rt. -/
def execSc (base rt : Reg) (offset : BitVec 16) (s : State) : Outcome :=
  storeConditional s rt (s.effectiveAddress base offset) 4

/-- SCD (R225): store conditional doubleword. -/
def execScd (base rt : Reg) (offset : BitVec 16) (s : State) : Outcome :=
  storeConditional s rt (s.effectiveAddress base offset) 8

/-- LWC1 (R228): load word to coprocessor 1. -/
def execLwc1 (base ft : Reg) (offset : BitVec 16) (s : State) : Outcome :=
  fpInstruction s fun s =>
    (memRead s (s.effectiveAddress base offset) 4).bind fun v s => .ok () (s.writeS ft (low32 v))

/-- LDC1 (R229): load doubleword to coprocessor 1. -/
def execLdc1 (base ft : Reg) (offset : BitVec 16) (s : State) : Outcome :=
  fpInstruction s fun s =>
    (memRead s (s.effectiveAddress base offset) 8).bind fun v s => .ok () (s.writeD ft v)

/-- SWC1 (R230): store word from coprocessor 1. -/
def execSwc1 (base ft : Reg) (offset : BitVec 16) (s : State) : Outcome :=
  fpInstruction s fun s => memWrite s (s.effectiveAddress base offset) 4 ((s.readS ft).setWidth 64)

/-- SDC1 (R231): store doubleword from coprocessor 1. -/
def execSdc1 (base ft : Reg) (offset : BitVec 16) (s : State) : Outcome :=
  fpInstruction s fun s => memWrite s (s.effectiveAddress base offset) 8 (s.readD ft)

end Sys2Proof.Machine
end

