-- ==== Sys2Proof/Machine/MulDiv.lean ====
section
/-! DEFINITION. Multiplication and division (spec/43_muldiv.md). -/

namespace Sys2Proof.Machine

/-! ### Shapes -/

/-- The low word of an integer, sign-extended. -/
def wordOfInt (i : Int) : Dword := sext32 (BitVec.ofInt 32 i)

/-- The product of a word multiplication to HI and LO (R292, R293). -/
def multiplyWord (s : State) (product : Int) : Outcome :=
  let p := BitVec.ofInt 64 product
  complete (s.setHiLo (sext32 (p.extractLsb' 32 32)) (sext32 (p.extractLsb' 0 32)))

/-- The product of a doubleword multiplication to HI and LO (R294, R295). -/
def multiplyDouble (s : State) (product : Int) : Outcome :=
  let p := BitVec.ofInt 128 product
  complete (s.setHiLo (p.extractLsb' 64 64) (p.extractLsb' 0 64))

/-- HI and LO after a division: remainder and quotient, truncated toward zero (R291); free values for divisor 0. -/
def divide (s : State) (toReg : Int → Dword) (a b : Int) : Outcome :=
  if b = 0 then complete (s.setHiLo (s.free .divHi 0) (s.free .divLo 0))
  else complete (s.setHiLo (toReg (a.tmod b)) (toReg (a.tdiv b)))

/-- A word division (R296, R297). -/
def divideWord (s : State) (a b : Int) : Outcome := divide s wordOfInt a b

/-- A doubleword division (R298, R299). -/
def divideDouble (s : State) (a b : Int) : Outcome := divide s (BitVec.ofInt 64) a b

/-- A Godson division or remainder of words; divisor 0 gives the parameter GS_DIV0_RESULT (R291(c)). -/
def godsonWord (s : State) (op : Int → Int → Int) (a b : Int) : Dword :=
  if b = 0 then s.params.gsDiv0Result else wordOfInt (op a b)

/-- A Godson division or remainder of doublewords. -/
def godsonDouble (s : State) (op : Int → Int → Int) (a b : Int) : Dword :=
  if b = 0 then s.params.gsDiv0Result else BitVec.ofInt 64 (op a b)

/-! ### Meanings -/

/-- MULT (R292): multiply word, signed. -/
def execMult (rs rt : Reg) (s : State) : Outcome :=
  multiplyWord s ((low32 (s.readGpr rs)).toInt * (low32 (s.readGpr rt)).toInt)

/-- MULTU (R293): multiply word, unsigned. -/
def execMultu (rs rt : Reg) (s : State) : Outcome :=
  multiplyWord s ((low32 (s.readGpr rs)).toNat * (low32 (s.readGpr rt)).toNat)

/-- DMULT (R294): multiply doubleword, signed. -/
def execDmult (rs rt : Reg) (s : State) : Outcome := multiplyDouble s ((s.readGpr rs).toInt * (s.readGpr rt).toInt)

/-- DMULTU (R295): multiply doubleword, unsigned. -/
def execDmultu (rs rt : Reg) (s : State) : Outcome := multiplyDouble s ((s.readGpr rs).toNat * (s.readGpr rt).toNat)

/-- DIV (R296): divide word, signed. -/
def execDiv (rs rt : Reg) (s : State) : Outcome :=
  divideWord s (low32 (s.readGpr rs)).toInt (low32 (s.readGpr rt)).toInt

/-- DIVU (R297): divide word, unsigned. -/
def execDivu (rs rt : Reg) (s : State) : Outcome :=
  divideWord s (low32 (s.readGpr rs)).toNat (low32 (s.readGpr rt)).toNat

/-- DDIV (R298): divide doubleword, signed. -/
def execDdiv (rs rt : Reg) (s : State) : Outcome := divideDouble s (s.readGpr rs).toInt (s.readGpr rt).toInt

/-- DDIVU (R299): divide doubleword, unsigned. -/
def execDdivu (rs rt : Reg) (s : State) : Outcome := divideDouble s (s.readGpr rs).toNat (s.readGpr rt).toNat

/-- MFHI (R300): move from HI. -/
def execMfhi (rd : Reg) (s : State) : Outcome := writeResult s rd s.hi

/-- MTHI (R301): move to HI; LO is kept. -/
def execMthi (rs : Reg) (s : State) : Outcome := complete (s.setHiLo (s.readGpr rs) s.lo)

/-- MFLO (R302): move from LO. -/
def execMflo (rd : Reg) (s : State) : Outcome := writeResult s rd s.lo

/-- MTLO (R303): move to LO; HI is kept. -/
def execMtlo (rs : Reg) (s : State) : Outcome := complete (s.setHiLo s.hi (s.readGpr rs))

/-- MULTG (R310): multiply word, signed, to a general register. -/
def execMultg (rs rt rd : Reg) (s : State) : Outcome :=
  writeResult s rd (wordOfInt ((low32 (s.readGpr rs)).toInt * (low32 (s.readGpr rt)).toInt))

/-- MULTUG (R311): multiply word, unsigned, to a general register. -/
def execMultug (rs rt rd : Reg) (s : State) : Outcome :=
  writeResult s rd (wordOfInt ((low32 (s.readGpr rs)).toNat * (low32 (s.readGpr rt)).toNat))

/-- DMULTG (R312): multiply doubleword, signed, to a general register. -/
def execDmultg (rs rt rd : Reg) (s : State) : Outcome :=
  writeResult s rd (BitVec.ofInt 64 ((s.readGpr rs).toInt * (s.readGpr rt).toInt))

/-- DMULTUG (R313): multiply doubleword, unsigned, to a general register. -/
def execDmultug (rs rt rd : Reg) (s : State) : Outcome :=
  writeResult s rd (BitVec.ofInt 64 ((s.readGpr rs).toNat * (s.readGpr rt).toNat))

/-- DIVG (R314): divide of words, signed, to a general register. -/
def execDivg (rs rt rd : Reg) (s : State) : Outcome :=
  writeResult s rd (godsonWord s Int.tdiv (low32 (s.readGpr rs)).toInt (low32 (s.readGpr rt)).toInt)

/-- DIVUG (R315): divide of words, unsigned, to a general register. -/
def execDivug (rs rt rd : Reg) (s : State) : Outcome :=
  writeResult s rd (godsonWord s Int.tdiv (low32 (s.readGpr rs)).toNat (low32 (s.readGpr rt)).toNat)

/-- DDIVG (R316): divide of doublewords, signed, to a general register. -/
def execDdivg (rs rt rd : Reg) (s : State) : Outcome :=
  writeResult s rd (godsonDouble s Int.tdiv (s.readGpr rs).toInt (s.readGpr rt).toInt)

/-- DDIVUG (R317): divide of doublewords, unsigned, to a general register. -/
def execDdivug (rs rt rd : Reg) (s : State) : Outcome :=
  writeResult s rd (godsonDouble s Int.tdiv (s.readGpr rs).toNat (s.readGpr rt).toNat)

/-- MODG (R318): remainder of words, signed, to a general register. -/
def execModg (rs rt rd : Reg) (s : State) : Outcome :=
  writeResult s rd (godsonWord s Int.tmod (low32 (s.readGpr rs)).toInt (low32 (s.readGpr rt)).toInt)

/-- MODUG (R319): remainder of words, unsigned, to a general register. -/
def execModug (rs rt rd : Reg) (s : State) : Outcome :=
  writeResult s rd (godsonWord s Int.tmod (low32 (s.readGpr rs)).toNat (low32 (s.readGpr rt)).toNat)

/-- DMODG (R320): remainder of doublewords, signed, to a general register. -/
def execDmodg (rs rt rd : Reg) (s : State) : Outcome :=
  writeResult s rd (godsonDouble s Int.tmod (s.readGpr rs).toInt (s.readGpr rt).toInt)

/-- DMODUG (R321): remainder of doublewords, unsigned, to a general register. -/
def execDmodug (rs rt rd : Reg) (s : State) : Outcome :=
  writeResult s rd (godsonDouble s Int.tmod (s.readGpr rs).toNat (s.readGpr rt).toNat)

end Sys2Proof.Machine
end

