-- ==== Sys2Proof/Machine/Cp0Regs.lean ====
section
/-! DEFINITION. Reading and writing the CP0 registers by number (R30 to R59, R431 to R436). -/

namespace Sys2Proof.Machine

/-! ### Reading -/

/-- Index (R31). -/
def Cp0.indexWord (c : Cp0) : Word := BitVec.ofBool c.indexP ++ (0 : BitVec 25) ++ c.index

/-- Cause (R44). -/
def State.causeWord (s : State) : Word :=
  BitVec.ofBool s.cp0.cause.bd ++ (0 : BitVec 1) ++ s.cp0.cause.ce ++ (0 : BitVec 12) ++ s.causeIp ++
    (0 : BitVec 1) ++ s.cp0.cause.excCode ++ (0 : BitVec 2)

/-- PRID (R46): the revision is the parameter `PRID_REV`. -/
def State.pridWord (s : State) : Word := 0x00006300 ||| s.params.pridRev.setWidth 32

/-- Config (R47). -/
def Cp0.configWord (c : Cp0) : Word := 0x00030930 ||| c.k0.setWidth 32

/-- What DMFC0 reads from a CP0 register; 32-bit registers are sign-extended, reserved numbers read 0 (R59). -/
def State.readCp0 (s : State) (n : Reg) : Dword :=
  match n.toNat with
  | 0 => sext32 s.cp0.indexWord
  | 1 => s.cp0.random.setWidth 64
  | 2 => s.cp0.entryLo0
  | 3 => s.cp0.entryLo1
  | 4 => s.cp0.context
  | 5 => sext32 s.cp0.pageMask
  | 6 => s.cp0.wired.setWidth 64
  | 8 => s.cp0.badVAddr
  | 9 => sext32 s.cp0.count
  | 10 => s.cp0.entryHi
  | 11 => sext32 s.cp0.compare
  | 12 => sext32 s.cp0.status
  | 13 => sext32 s.causeWord
  | 14 => s.cp0.epc
  | 15 => sext32 s.pridWord
  | 16 => sext32 s.cp0.configWord
  | 17 => s.free .llAddr 0
  | 18 => s.cp0.watch
  | 20 => s.cp0.xcontext
  | 22 => s.cp0.diagnostic
  | 24 => s.cp0.perfControl
  | 25 => s.cp0.perf1 ++ s.cp0.perf0
  | 28 => sext32 s.cp0.tagLo
  | 29 => sext32 s.cp0.tagHi
  | 30 => s.cp0.errorEpc
  | _ => 0

/-! ### Writing -/

/-- The bits of EntryLo0 and EntryLo1 that hold state (R33). -/
def entryLoMask : Dword := 0x20000003FFFFFFFF
/-- The bits of EntryHi that hold state (R40). -/
def entryHiMask : Dword := 0xC00000FFFFFFE0FF
/-- PTEBase of Context (R34). -/
def contextMask : Dword := 0xFFFFFFFFFF800000
/-- PTEBase of XContext (R50). -/
def xcontextMask : Dword := 0xFFFFFFFE00000000
/-- The Mask field of PageMask (R35). -/
def pageMaskMask : Word := 0x01FFE000
/-- The bits of Status that hold state (R42). -/
def statusMask : Word := 0xF5D0FF1F
/-- The bits of Watch that hold state (R49). -/
def watchMask : Dword := 0xFFFFFFFFFFFFFFFB
/-- The bits of Diagnostic that hold state: bits 2 and 1 are actions (R51). -/
def diagnosticMask : Dword := 0x1F1
/-- The fields of the performance counter control register (R52). -/
def perfControlMask : Dword := 0x1FFF

/-- The CP0 registers after a write of a doubleword to register `n` (R436); read-only and reserved registers ignore
it (R59). -/
def Cp0.write (c : Cp0) (n : Reg) (v : Dword) : Cp0 :=
  match n.toNat with
  | 0 => { c with index := v.extractLsb' 0 6 }
  | 2 => { c with entryLo0 := v &&& entryLoMask }
  | 3 => { c with entryLo1 := v &&& entryLoMask }
  | 4 => { c with context := (v &&& contextMask) ||| (c.context &&& ~~~contextMask) }
  | 5 => { c with pageMask := low32 v &&& pageMaskMask }
  | 6 => { c with wired := v.extractLsb' 0 6, random := 63 }
  | 9 => { c with count := low32 v, cause := { c.cause with timer := c.cause.timer || low32 v == c.compare } }
  | 10 => { c with entryHi := v &&& entryHiMask }
  | 11 => { c with compare := low32 v, cause := { c.cause with timer := false } }
  | 12 => { c with status := low32 v &&& statusMask }
  | 13 => { c with cause := { c.cause with sw := v.extractLsb' 8 2 } }
  | 14 => { c with epc := v }
  | 16 => { c with k0 := v.extractLsb' 0 3 }
  | 18 => { c with watch := v &&& watchMask }
  | 20 => { c with xcontext := (v &&& xcontextMask) ||| (c.xcontext &&& ~~~xcontextMask) }
  | 22 => { c with diagnostic := v &&& diagnosticMask }
  | 24 => { c with perfControl := v &&& perfControlMask }
  | 25 => { c with perf1 := v.extractLsb' 32 32, perf0 := v.extractLsb' 0 32 }
  | 28 => { c with tagLo := low32 v }
  | 29 => { c with tagHi := low32 v }
  | 30 => { c with errorEpc := v }
  | _ => c

/-- A write to CP0 register `n`; writing 1 to bit 2 of Diagnostic empties the ITLB (R51). -/
def State.writeCp0 (s : State) (n : Reg) (v : Dword) : State :=
  let t := s.setCp0 (s.cp0.write n v)
  if n = 22 && v.getLsbD 2 then t.emptyItlb else t

end Sys2Proof.Machine
end

