-- ==== Sys2Proof/Machine/Privileged.lean ====
section
/-! DEFINITION. The privileged instructions but CACHE (spec/47_cp0_privileged.md). -/

namespace Sys2Proof.Machine

/-! ### Shapes -/

/-- A coprocessor 0 instruction: usable, then what it does, then the next instruction (R430). -/
def cp0Instruction (s : State) (k : State → Res Unit) : Outcome := ((checkCp0 s).bind fun _ s => k s).finish

/-- The CP0 check before ERET (R430). -/
def ifCp0 (s : State) (o : Outcome) : Outcome :=
  match checkCp0 s with
  | .ok _ _ => o
  | .raise e s => .next (takeException e s)
  | .fault f => .fault f
  | .refuse r => .refused r

/-- The moves from CP0; the performance counter registers may be read in every mode (R434). -/
def moveFromCp0 (s : State) (rt rd : Reg) (view : Dword → Dword) : Outcome :=
  if rd = 24 || rd = 25 then complete (s.writeGpr rt (view (s.readCp0 rd)))
  else cp0Instruction s fun s => .ok () (s.writeGpr rt (view (s.readCp0 rd)))

/-- TLBP (R440): a match gives its number; no match sets P, and Index.Index is a free value. -/
def probeTlb (s : State) : Res Unit :=
  match s.tlbLookup (s.cp0.entryHi.extractLsb' 62 2) (s.cp0.entryHi.extractLsb' 13 27) s.asid with
  | .found i => .ok () (s.setCp0 { s.cp0 with indexP := false, index := BitVec.ofNat 6 i.val })
  | .miss =>
    .ok () (s.setCp0 { s.cp0 with indexP := true, index := (s.free .probeIndex 0).extractLsb' 0 6 })
  | .several => .refuse .multipleTlbMatch

/-- TLBR (R441). -/
def State.readTlbEntry (s : State) : State :=
  let e := s.tlb[s.cp0.index.toNat]
  s.setCp0 { s.cp0 with
    pageMask := pageMaskOfEntry e
    entryHi := entryHiOfEntry e
    entryLo0 := entryLoOfPage e.even e.g
    entryLo1 := entryLoOfPage e.odd e.g }

/-- TLBWI and TLBWR (R442, R443); a mask that is none of the seven is undefined (R35). -/
def writeTlbEntry (s : State) (i : BitVec 6) : Res Unit :=
  if legalMask s.pageMaskField then .ok () (s.setTlb i s.entryToWrite) else .refuse .undefinedPageMask

/-! ### Meanings -/

/-- DMFC0 (R431): all 64 bits. -/
def execDmfc0 (rt rd : Reg) (s : State) : Outcome := moveFromCp0 s rt rd id

/-- DMTC0 (R432): all 64 bits. -/
def execDmtc0 (rt rd : Reg) (s : State) : Outcome := cp0Instruction s fun s => .ok () (s.writeCp0 rd (s.readGpr rt))

/-- MFC0 (R433): the low word, sign-extended. -/
def execMfc0 (rt rd : Reg) (s : State) : Outcome := moveFromCp0 s rt rd fun v => sext32 (low32 v)

/-- MTC0 (R435): the low word, sign-extended for a 64-bit register. -/
def execMtc0 (rt rd : Reg) (s : State) : Outcome :=
  cp0Instruction s fun s => .ok () (s.writeCp0 rd (sext32 (low32 (s.readGpr rt))))

/-- TLBP (R440): probe the TLB. -/
def execTlbp (s : State) : Outcome := cp0Instruction s probeTlb

/-- TLBR (R441): read the indexed TLB entry. -/
def execTlbr (s : State) : Outcome := cp0Instruction s fun s => .ok () s.readTlbEntry

/-- TLBWI (R442): write the indexed TLB entry. -/
def execTlbwi (s : State) : Outcome := cp0Instruction s fun s => writeTlbEntry s s.cp0.index

/-- TLBWR (R443): write the TLB entry that Random names. -/
def execTlbwr (s : State) : Outcome := cp0Instruction s fun s => writeTlbEntry s s.cp0.random

/-- ERET (R445): return from an exception; it has no delay slot and may not be in one. -/
def execEret (s : State) : Outcome :=
  ifCp0 s (if s.delay.isSome then .refused .delaySlotBranch else .next (returnFromException s))

end Sys2Proof.Machine
end

