-- ==== Sys2Proof/Machine/Shift.lean ====
section
/-! DEFINITION. The shifts (spec/45_shift.md). -/

namespace Sys2Proof.Machine

/-- The amount of a variable word shift: bits 4:0 (R374). -/
def shiftAmount5 (v : Dword) : Nat := (v.extractLsb' 0 5).toNat
/-- The amount of a variable doubleword shift: bits 5:0 (R380). -/
def shiftAmount6 (v : Dword) : Nat := (v.extractLsb' 0 6).toNat

/-- SLL (R371). -/
def execSll (rt rd : Reg) (sa : BitVec 5) (s : State) : Outcome :=
  writeResult s rd (sext32 (low32 (s.readGpr rt) <<< sa.toNat))

/-- SRL (R372). -/
def execSrl (rt rd : Reg) (sa : BitVec 5) (s : State) : Outcome :=
  writeResult s rd (sext32 (low32 (s.readGpr rt) >>> sa.toNat))

/-- SRA (R373). -/
def execSra (rt rd : Reg) (sa : BitVec 5) (s : State) : Outcome :=
  writeResult s rd (sext32 ((low32 (s.readGpr rt)).sshiftRight sa.toNat))

/-- DSLL (R377). -/
def execDsll (rt rd : Reg) (sa : BitVec 5) (s : State) : Outcome := writeResult s rd (s.readGpr rt <<< sa.toNat)

/-- DSRL (R378). -/
def execDsrl (rt rd : Reg) (sa : BitVec 5) (s : State) : Outcome := writeResult s rd (s.readGpr rt >>> sa.toNat)

/-- DSRA (R379). -/
def execDsra (rt rd : Reg) (sa : BitVec 5) (s : State) : Outcome :=
  writeResult s rd ((s.readGpr rt).sshiftRight sa.toNat)

/-- DSLL32 (R383). -/
def execDsll32 (rt rd : Reg) (sa : BitVec 5) (s : State) : Outcome :=
  writeResult s rd (s.readGpr rt <<< (sa.toNat + 32))

/-- DSRL32 (R384). -/
def execDsrl32 (rt rd : Reg) (sa : BitVec 5) (s : State) : Outcome :=
  writeResult s rd (s.readGpr rt >>> (sa.toNat + 32))

/-- DSRA32 (R385). -/
def execDsra32 (rt rd : Reg) (sa : BitVec 5) (s : State) : Outcome :=
  writeResult s rd ((s.readGpr rt).sshiftRight (sa.toNat + 32))

/-- SLLV (R374). -/
def execSllv (rs rt rd : Reg) (s : State) : Outcome :=
  writeResult s rd (sext32 (low32 (s.readGpr rt) <<< (shiftAmount5 (s.readGpr rs))))

/-- SRLV (R375). -/
def execSrlv (rs rt rd : Reg) (s : State) : Outcome :=
  writeResult s rd (sext32 (low32 (s.readGpr rt) >>> (shiftAmount5 (s.readGpr rs))))

/-- SRAV (R376). -/
def execSrav (rs rt rd : Reg) (s : State) : Outcome :=
  writeResult s rd (sext32 ((low32 (s.readGpr rt)).sshiftRight (shiftAmount5 (s.readGpr rs))))

/-- DSLLV (R380). -/
def execDsllv (rs rt rd : Reg) (s : State) : Outcome :=
  writeResult s rd (s.readGpr rt <<< (shiftAmount6 (s.readGpr rs)))

/-- DSRLV (R381). -/
def execDsrlv (rs rt rd : Reg) (s : State) : Outcome :=
  writeResult s rd (s.readGpr rt >>> (shiftAmount6 (s.readGpr rs)))

/-- DSRAV (R382). -/
def execDsrav (rs rt rd : Reg) (s : State) : Outcome :=
  writeResult s rd ((s.readGpr rt).sshiftRight (shiftAmount6 (s.readGpr rs)))

end Sys2Proof.Machine
end

