-- ==== Sys2Proof/Machine/Special.lean ====
section
/-! DEFINITION. System call, breakpoint, SYNC and the traps (spec/46_special_trap.md). -/

namespace Sys2Proof.Machine

/-- A trap instruction (R403). -/
def trapIf (s : State) (condition : Bool) : Outcome := if condition then raiseExc .trap s else complete s

/-- SYSCALL (R400): system call; the code is for the handler. -/
def execSyscall (_code : BitVec 20) (s : State) : Outcome := raiseExc .syscall s

/-- BREAK (R401): breakpoint; the code is for the handler. -/
def execBreak (_code : BitVec 20) (s : State) : Outcome := raiseExc .breakpoint s

/-- SYNC (R402): the stores held in the gather buffer reach the bus (R156). -/
def execSync (_stype : BitVec 5) (s : State) : Outcome := (flushGather s).finish

/-- TGE (R404). -/
def execTge (rs rt : Reg) (_code : BitVec 10) (s : State) : Outcome := trapIf s (!(s.readGpr rs).slt (s.readGpr rt))

/-- TGEU (R405). -/
def execTgeu (rs rt : Reg) (_code : BitVec 10) (s : State) : Outcome := trapIf s (!(s.readGpr rs).ult (s.readGpr rt))

/-- TLT (R406). -/
def execTlt (rs rt : Reg) (_code : BitVec 10) (s : State) : Outcome := trapIf s ((s.readGpr rs).slt (s.readGpr rt))

/-- TLTU (R407). -/
def execTltu (rs rt : Reg) (_code : BitVec 10) (s : State) : Outcome := trapIf s ((s.readGpr rs).ult (s.readGpr rt))

/-- TEQ (R408). -/
def execTeq (rs rt : Reg) (_code : BitVec 10) (s : State) : Outcome := trapIf s (s.readGpr rs == (s.readGpr rt))

/-- TNE (R409). -/
def execTne (rs rt : Reg) (_code : BitVec 10) (s : State) : Outcome := trapIf s (s.readGpr rs != (s.readGpr rt))

/-- TGEI (R410). -/
def execTgei (rs : Reg) (imm : BitVec 16) (s : State) : Outcome := trapIf s (!(s.readGpr rs).slt (sext16 imm))

/-- TGEIU (R411). -/
def execTgeiu (rs : Reg) (imm : BitVec 16) (s : State) : Outcome := trapIf s (!(s.readGpr rs).ult (sext16 imm))

/-- TLTI (R412). -/
def execTlti (rs : Reg) (imm : BitVec 16) (s : State) : Outcome := trapIf s ((s.readGpr rs).slt (sext16 imm))

/-- TLTIU (R413). -/
def execTltiu (rs : Reg) (imm : BitVec 16) (s : State) : Outcome := trapIf s ((s.readGpr rs).ult (sext16 imm))

/-- TEQI (R414). -/
def execTeqi (rs : Reg) (imm : BitVec 16) (s : State) : Outcome := trapIf s (s.readGpr rs == (sext16 imm))

/-- TNEI (R415). -/
def execTnei (rs : Reg) (imm : BitVec 16) (s : State) : Outcome := trapIf s (s.readGpr rs != (sext16 imm))

end Sys2Proof.Machine
end

