-- ==== Sys2Proof/Syntax.lean ====
section
/-! DEFINITION. The instructions of the Loongson 2F: one constructor per row of spec/opcode_table.json.

The operands stand in the order of their bit fields, from the high bits to the low ones, under the table's
own field names.  A field that hardware ignores (the hint of JR and JALR, the stype of SYNC, the code of
SYSCALL, BREAK and the register traps) is kept, so that no bit of a word is lost in decoding.  `cache` is the
table's general row: its words are those whose `op` is one of the seventeen values the manual leaves undefined
(R183, R450); the fifteen defined operations have constructors of their own. -/

namespace Sys2Proof

/-- One constructor per row of the opcode table; each docstring names the row and its rule. -/
inductive Instr where
  -- Load and store (spec/40_load_store.md)
  /-- LB (R204). -/
  | lb (base rt : Reg) (offset : BitVec 16)
  /-- LBU (R205). -/
  | lbu (base rt : Reg) (offset : BitVec 16)
  /-- LH (R206). -/
  | lh (base rt : Reg) (offset : BitVec 16)
  /-- LHU (R207). -/
  | lhu (base rt : Reg) (offset : BitVec 16)
  /-- LW (R208). -/
  | lw (base rt : Reg) (offset : BitVec 16)
  /-- LWU (R209). -/
  | lwu (base rt : Reg) (offset : BitVec 16)
  /-- LD (R210). -/
  | ld (base rt : Reg) (offset : BitVec 16)
  /-- LWL (R212). -/
  | lwl (base rt : Reg) (offset : BitVec 16)
  /-- LWR (R213). -/
  | lwr (base rt : Reg) (offset : BitVec 16)
  /-- SWL (R214). -/
  | swl (base rt : Reg) (offset : BitVec 16)
  /-- SWR (R215). -/
  | swr (base rt : Reg) (offset : BitVec 16)
  /-- LDL (R216). -/
  | ldl (base rt : Reg) (offset : BitVec 16)
  /-- LDR (R217). -/
  | ldr (base rt : Reg) (offset : BitVec 16)
  /-- SDL (R218). -/
  | sdl (base rt : Reg) (offset : BitVec 16)
  /-- SDR (R219). -/
  | sdr (base rt : Reg) (offset : BitVec 16)
  /-- SB (R220). -/
  | sb (base rt : Reg) (offset : BitVec 16)
  /-- SH (R221). -/
  | sh (base rt : Reg) (offset : BitVec 16)
  /-- SW (R226). -/
  | sw (base rt : Reg) (offset : BitVec 16)
  /-- SD (R227). -/
  | sd (base rt : Reg) (offset : BitVec 16)
  /-- LL (R222). -/
  | ll (base rt : Reg) (offset : BitVec 16)
  /-- LLD (R223). -/
  | lld (base rt : Reg) (offset : BitVec 16)
  /-- SC (R224). -/
  | sc (base rt : Reg) (offset : BitVec 16)
  /-- SCD (R225). -/
  | scd (base rt : Reg) (offset : BitVec 16)
  /-- LWC1 (R228). -/
  | lwc1 (base ft : Reg) (offset : BitVec 16)
  /-- LDC1 (R229). -/
  | ldc1 (base ft : Reg) (offset : BitVec 16)
  /-- SWC1 (R230). -/
  | swc1 (base ft : Reg) (offset : BitVec 16)
  /-- SDC1 (R231). -/
  | sdc1 (base ft : Reg) (offset : BitVec 16)
  -- ALU with immediate (spec/41_alu_immediate.md)
  /-- ADDI (R242). -/
  | addi (rs rt : Reg) (imm : BitVec 16)
  /-- DADDI (R243). -/
  | daddi (rs rt : Reg) (imm : BitVec 16)
  /-- ADDIU (R244). -/
  | addiu (rs rt : Reg) (imm : BitVec 16)
  /-- DADDIU (R245). -/
  | daddiu (rs rt : Reg) (imm : BitVec 16)
  /-- SLTI (R246). -/
  | slti (rs rt : Reg) (imm : BitVec 16)
  /-- SLTIU (R247). -/
  | sltiu (rs rt : Reg) (imm : BitVec 16)
  /-- ANDI (R248). -/
  | andi (rs rt : Reg) (imm : BitVec 16)
  /-- ORI (R249). -/
  | ori (rs rt : Reg) (imm : BitVec 16)
  /-- XORI (R250). -/
  | xori (rs rt : Reg) (imm : BitVec 16)
  /-- LUI (R251). -/
  | lui (rt : Reg) (imm : BitVec 16)
  -- ALU with registers (spec/42_alu_register.md)
  /-- ADD (R261). -/
  | add (rs rt rd : Reg)
  /-- ADDU (R262). -/
  | addu (rs rt rd : Reg)
  /-- SUB (R263). -/
  | sub (rs rt rd : Reg)
  /-- SUBU (R264). -/
  | subu (rs rt rd : Reg)
  /-- DADD (R265). -/
  | dadd (rs rt rd : Reg)
  /-- DADDU (R266). -/
  | daddu (rs rt rd : Reg)
  /-- DSUB (R267). -/
  | dsub (rs rt rd : Reg)
  /-- DSUBU (R268). -/
  | dsubu (rs rt rd : Reg)
  /-- SLT (R269). -/
  | slt (rs rt rd : Reg)
  /-- SLTU (R270). -/
  | sltu (rs rt rd : Reg)
  /-- AND (R271). -/
  | and (rs rt rd : Reg)
  /-- OR (R272). -/
  | or (rs rt rd : Reg)
  /-- XOR (R273). -/
  | xor (rs rt rd : Reg)
  /-- NOR (R274). -/
  | nor (rs rt rd : Reg)
  /-- MOVZ (R275). -/
  | movz (rs rt rd : Reg)
  /-- MOVN (R276). -/
  | movn (rs rt rd : Reg)
  -- Multiply and divide (spec/43_muldiv.md)
  /-- MULT (R292). -/
  | mult (rs rt : Reg)
  /-- MULTU (R293). -/
  | multu (rs rt : Reg)
  /-- DMULT (R294). -/
  | dmult (rs rt : Reg)
  /-- DMULTU (R295). -/
  | dmultu (rs rt : Reg)
  /-- DIV (R296). -/
  | div (rs rt : Reg)
  /-- DIVU (R297). -/
  | divu (rs rt : Reg)
  /-- DDIV (R298). -/
  | ddiv (rs rt : Reg)
  /-- DDIVU (R299). -/
  | ddivu (rs rt : Reg)
  /-- MFHI (R300). -/
  | mfhi (rd : Reg)
  /-- MTHI (R301). -/
  | mthi (rs : Reg)
  /-- MFLO (R302). -/
  | mflo (rd : Reg)
  /-- MTLO (R303). -/
  | mtlo (rs : Reg)
  /-- MULTG (R310). -/
  | multg (rs rt rd : Reg)
  /-- MULTUG (R311). -/
  | multug (rs rt rd : Reg)
  /-- DMULTG (R312). -/
  | dmultg (rs rt rd : Reg)
  /-- DMULTUG (R313). -/
  | dmultug (rs rt rd : Reg)
  /-- DIVG (R314). -/
  | divg (rs rt rd : Reg)
  /-- DIVUG (R315). -/
  | divug (rs rt rd : Reg)
  /-- DDIVG (R316). -/
  | ddivg (rs rt rd : Reg)
  /-- DDIVUG (R317). -/
  | ddivug (rs rt rd : Reg)
  /-- MODG (R318). -/
  | modg (rs rt rd : Reg)
  /-- MODUG (R319). -/
  | modug (rs rt rd : Reg)
  /-- DMODG (R320). -/
  | dmodg (rs rt rd : Reg)
  /-- DMODUG (R321). -/
  | dmodug (rs rt rd : Reg)
  -- Jumps and branches (spec/44_jump_branch.md)
  /-- J (R337). -/
  | j (target : BitVec 26)
  /-- JAL (R338). -/
  | jal (target : BitVec 26)
  /-- JR (R339). -/
  | jr (rs : Reg) (hint : BitVec 5)
  /-- JALR (R340). -/
  | jalr (rs rd : Reg) (hint : BitVec 5)
  /-- BEQ (R341). -/
  | beq (rs rt : Reg) (offset : BitVec 16)
  /-- BNE (R342). -/
  | bne (rs rt : Reg) (offset : BitVec 16)
  /-- BLEZ (R343). -/
  | blez (rs : Reg) (offset : BitVec 16)
  /-- BGTZ (R344). -/
  | bgtz (rs : Reg) (offset : BitVec 16)
  /-- BLTZ (R345). -/
  | bltz (rs : Reg) (offset : BitVec 16)
  /-- BGEZ (R346). -/
  | bgez (rs : Reg) (offset : BitVec 16)
  /-- BLTZAL (R347). -/
  | bltzal (rs : Reg) (offset : BitVec 16)
  /-- BGEZAL (R348). -/
  | bgezal (rs : Reg) (offset : BitVec 16)
  /-- BEQL (R349). -/
  | beql (rs rt : Reg) (offset : BitVec 16)
  /-- BNEL (R350). -/
  | bnel (rs rt : Reg) (offset : BitVec 16)
  /-- BLEZL (R351). -/
  | blezl (rs : Reg) (offset : BitVec 16)
  /-- BGTZL (R352). -/
  | bgtzl (rs : Reg) (offset : BitVec 16)
  /-- BLTZL (R353). -/
  | bltzl (rs : Reg) (offset : BitVec 16)
  /-- BGEZL (R354). -/
  | bgezl (rs : Reg) (offset : BitVec 16)
  /-- BLTZALL (R355). -/
  | bltzall (rs : Reg) (offset : BitVec 16)
  /-- BGEZALL (R356). -/
  | bgezall (rs : Reg) (offset : BitVec 16)
  -- Shifts (spec/45_shift.md)
  /-- SLL (R371). -/
  | sll (rt rd : Reg) (sa : BitVec 5)
  /-- SRL (R372). -/
  | srl (rt rd : Reg) (sa : BitVec 5)
  /-- SRA (R373). -/
  | sra (rt rd : Reg) (sa : BitVec 5)
  /-- DSLL (R377). -/
  | dsll (rt rd : Reg) (sa : BitVec 5)
  /-- DSRL (R378). -/
  | dsrl (rt rd : Reg) (sa : BitVec 5)
  /-- DSRA (R379). -/
  | dsra (rt rd : Reg) (sa : BitVec 5)
  /-- DSLL32 (R383). -/
  | dsll32 (rt rd : Reg) (sa : BitVec 5)
  /-- DSRL32 (R384). -/
  | dsrl32 (rt rd : Reg) (sa : BitVec 5)
  /-- DSRA32 (R385). -/
  | dsra32 (rt rd : Reg) (sa : BitVec 5)
  /-- SLLV (R374). -/
  | sllv (rs rt rd : Reg)
  /-- SRLV (R375). -/
  | srlv (rs rt rd : Reg)
  /-- SRAV (R376). -/
  | srav (rs rt rd : Reg)
  /-- DSLLV (R380). -/
  | dsllv (rs rt rd : Reg)
  /-- DSRLV (R381). -/
  | dsrlv (rs rt rd : Reg)
  /-- DSRAV (R382). -/
  | dsrav (rs rt rd : Reg)
  -- System call, breakpoint, SYNC and traps (spec/46_special_trap.md)
  /-- SYSCALL (R400). -/
  | syscall (code : BitVec 20)
  /-- BREAK (R401). -/
  | break_ (code : BitVec 20)
  /-- SYNC (R402). -/
  | sync (stype : BitVec 5)
  /-- TGE (R404). -/
  | tge (rs rt : Reg) (code : BitVec 10)
  /-- TGEU (R405). -/
  | tgeu (rs rt : Reg) (code : BitVec 10)
  /-- TLT (R406). -/
  | tlt (rs rt : Reg) (code : BitVec 10)
  /-- TLTU (R407). -/
  | tltu (rs rt : Reg) (code : BitVec 10)
  /-- TEQ (R408). -/
  | teq (rs rt : Reg) (code : BitVec 10)
  /-- TNE (R409). -/
  | tne (rs rt : Reg) (code : BitVec 10)
  /-- TGEI (R410). -/
  | tgei (rs : Reg) (imm : BitVec 16)
  /-- TGEIU (R411). -/
  | tgeiu (rs : Reg) (imm : BitVec 16)
  /-- TLTI (R412). -/
  | tlti (rs : Reg) (imm : BitVec 16)
  /-- TLTIU (R413). -/
  | tltiu (rs : Reg) (imm : BitVec 16)
  /-- TEQI (R414). -/
  | teqi (rs : Reg) (imm : BitVec 16)
  /-- TNEI (R415). -/
  | tnei (rs : Reg) (imm : BitVec 16)
  -- Coprocessor 0 (spec/47_cp0_privileged.md)
  /-- DMFC0 (R431). -/
  | dmfc0 (rt rd : Reg)
  /-- DMTC0 (R432). -/
  | dmtc0 (rt rd : Reg)
  /-- MFC0 (R433). -/
  | mfc0 (rt rd : Reg)
  /-- MTC0 (R435). -/
  | mtc0 (rt rd : Reg)
  /-- TLBP (R440). -/
  | tlbp
  /-- TLBR (R441). -/
  | tlbr
  /-- TLBWI (R442). -/
  | tlbwi
  /-- TLBWR (R443). -/
  | tlbwr
  /-- ERET (R445). -/
  | eret
  /-- CACHE (R450). -/
  | cache (base : Reg) (op : BitVec 5) (offset : BitVec 16)
  /-- CACHE_Index_Invalidate__I (R451). -/
  | cache_index_invalidate_i (base : Reg) (offset : BitVec 16)
  /-- CACHE_Index_Writeback_Invalidate__D (R452). -/
  | cache_index_writeback_invalidate_d (base : Reg) (offset : BitVec 16)
  /-- CACHE_Index_Load_Tag__D (R453). -/
  | cache_index_load_tag_d (base : Reg) (offset : BitVec 16)
  /-- CACHE_Index_Store_Tag__D (R454). -/
  | cache_index_store_tag_d (base : Reg) (offset : BitVec 16)
  /-- CACHE_Hit_Invalidate__D (R455). -/
  | cache_hit_invalidate_d (base : Reg) (offset : BitVec 16)
  /-- CACHE_Hit_Writeback_Invalidate__D (R456). -/
  | cache_hit_writeback_invalidate_d (base : Reg) (offset : BitVec 16)
  /-- CACHE_Index_Load_Data__D (R457). -/
  | cache_index_load_data_d (base : Reg) (offset : BitVec 16)
  /-- CACHE_Index_Store_Data__D (R458). -/
  | cache_index_store_data_d (base : Reg) (offset : BitVec 16)
  /-- CACHE_Index_Writeback_Invalidate__S (R459). -/
  | cache_index_writeback_invalidate_s (base : Reg) (offset : BitVec 16)
  /-- CACHE_Index_Load_Tag__S (R460). -/
  | cache_index_load_tag_s (base : Reg) (offset : BitVec 16)
  /-- CACHE_Index_Store_Tag__S (R461). -/
  | cache_index_store_tag_s (base : Reg) (offset : BitVec 16)
  /-- CACHE_Hit_Invalidate__S (R462). -/
  | cache_hit_invalidate_s (base : Reg) (offset : BitVec 16)
  /-- CACHE_Hit_Writeback_Invalidate__S (R463). -/
  | cache_hit_writeback_invalidate_s (base : Reg) (offset : BitVec 16)
  /-- CACHE_Index_Load_Data__S (R464). -/
  | cache_index_load_data_s (base : Reg) (offset : BitVec 16)
  /-- CACHE_Index_Store_Data__S (R465). -/
  | cache_index_store_data_s (base : Reg) (offset : BitVec 16)
  -- Floating point (spec/48_fpu.md)
  /-- ADD.S (R500). -/
  | add_s (ft fs fd : Reg)
  /-- ADD.D (R500). -/
  | add_d (ft fs fd : Reg)
  /-- SUB.S (R501). -/
  | sub_s (ft fs fd : Reg)
  /-- SUB.D (R501). -/
  | sub_d (ft fs fd : Reg)
  /-- MUL.S (R502). -/
  | mul_s (ft fs fd : Reg)
  /-- MUL.D (R502). -/
  | mul_d (ft fs fd : Reg)
  /-- DIV.S (R503). -/
  | div_s (ft fs fd : Reg)
  /-- DIV.D (R503). -/
  | div_d (ft fs fd : Reg)
  /-- SQRT.S (R504). -/
  | sqrt_s (fs fd : Reg)
  /-- SQRT.D (R504). -/
  | sqrt_d (fs fd : Reg)
  /-- ABS.S (R505). -/
  | abs_s (fs fd : Reg)
  /-- ABS.D (R505). -/
  | abs_d (fs fd : Reg)
  /-- MOV.S (R506). -/
  | mov_s (fs fd : Reg)
  /-- MOV.D (R506). -/
  | mov_d (fs fd : Reg)
  /-- NEG.S (R507). -/
  | neg_s (fs fd : Reg)
  /-- NEG.D (R507). -/
  | neg_d (fs fd : Reg)
  /-- ROUND.L.S (R511). -/
  | round_l_s (fs fd : Reg)
  /-- ROUND.L.D (R511). -/
  | round_l_d (fs fd : Reg)
  /-- TRUNC.L.S (R512). -/
  | trunc_l_s (fs fd : Reg)
  /-- TRUNC.L.D (R512). -/
  | trunc_l_d (fs fd : Reg)
  /-- CEIL.L.S (R513). -/
  | ceil_l_s (fs fd : Reg)
  /-- CEIL.L.D (R513). -/
  | ceil_l_d (fs fd : Reg)
  /-- FLOOR.L.S (R514). -/
  | floor_l_s (fs fd : Reg)
  /-- FLOOR.L.D (R514). -/
  | floor_l_d (fs fd : Reg)
  /-- ROUND.W.S (R515). -/
  | round_w_s (fs fd : Reg)
  /-- ROUND.W.D (R515). -/
  | round_w_d (fs fd : Reg)
  /-- TRUNC.W.S (R516). -/
  | trunc_w_s (fs fd : Reg)
  /-- TRUNC.W.D (R516). -/
  | trunc_w_d (fs fd : Reg)
  /-- CEIL.W.S (R517). -/
  | ceil_w_s (fs fd : Reg)
  /-- CEIL.W.D (R517). -/
  | ceil_w_d (fs fd : Reg)
  /-- FLOOR.W.S (R518). -/
  | floor_w_s (fs fd : Reg)
  /-- FLOOR.W.D (R518). -/
  | floor_w_d (fs fd : Reg)
  /-- CVT.W.S (R519). -/
  | cvt_w_s (fs fd : Reg)
  /-- CVT.W.D (R519). -/
  | cvt_w_d (fs fd : Reg)
  /-- CVT.L.S (R520). -/
  | cvt_l_s (fs fd : Reg)
  /-- CVT.L.D (R520). -/
  | cvt_l_d (fs fd : Reg)
  /-- CVT.S.D (R521). -/
  | cvt_s_d (fs fd : Reg)
  /-- CVT.S.W (R521). -/
  | cvt_s_w (fs fd : Reg)
  /-- CVT.S.L (R521). -/
  | cvt_s_l (fs fd : Reg)
  /-- CVT.D.S (R522). -/
  | cvt_d_s (fs fd : Reg)
  /-- CVT.D.W (R522). -/
  | cvt_d_w (fs fd : Reg)
  /-- CVT.D.L (R522). -/
  | cvt_d_l (fs fd : Reg)
  /-- C.F.S (R531). -/
  | c_f_s (ft fs : Reg)
  /-- C.F.D (R531). -/
  | c_f_d (ft fs : Reg)
  /-- C.UN.S (R532). -/
  | c_un_s (ft fs : Reg)
  /-- C.UN.D (R532). -/
  | c_un_d (ft fs : Reg)
  /-- C.EQ.S (R533). -/
  | c_eq_s (ft fs : Reg)
  /-- C.EQ.D (R533). -/
  | c_eq_d (ft fs : Reg)
  /-- C.UEQ.S (R534). -/
  | c_ueq_s (ft fs : Reg)
  /-- C.UEQ.D (R534). -/
  | c_ueq_d (ft fs : Reg)
  /-- C.OLT.S (R535). -/
  | c_olt_s (ft fs : Reg)
  /-- C.OLT.D (R535). -/
  | c_olt_d (ft fs : Reg)
  /-- C.ULT.S (R536). -/
  | c_ult_s (ft fs : Reg)
  /-- C.ULT.D (R536). -/
  | c_ult_d (ft fs : Reg)
  /-- C.OLE.S (R537). -/
  | c_ole_s (ft fs : Reg)
  /-- C.OLE.D (R537). -/
  | c_ole_d (ft fs : Reg)
  /-- C.ULE.S (R538). -/
  | c_ule_s (ft fs : Reg)
  /-- C.ULE.D (R538). -/
  | c_ule_d (ft fs : Reg)
  /-- C.SF.S (R539). -/
  | c_sf_s (ft fs : Reg)
  /-- C.SF.D (R539). -/
  | c_sf_d (ft fs : Reg)
  /-- C.NGLE.S (R540). -/
  | c_ngle_s (ft fs : Reg)
  /-- C.NGLE.D (R540). -/
  | c_ngle_d (ft fs : Reg)
  /-- C.SEQ.S (R541). -/
  | c_seq_s (ft fs : Reg)
  /-- C.SEQ.D (R541). -/
  | c_seq_d (ft fs : Reg)
  /-- C.NGL.S (R542). -/
  | c_ngl_s (ft fs : Reg)
  /-- C.NGL.D (R542). -/
  | c_ngl_d (ft fs : Reg)
  /-- C.LT.S (R543). -/
  | c_lt_s (ft fs : Reg)
  /-- C.LT.D (R543). -/
  | c_lt_d (ft fs : Reg)
  /-- C.NGE.S (R544). -/
  | c_nge_s (ft fs : Reg)
  /-- C.NGE.D (R544). -/
  | c_nge_d (ft fs : Reg)
  /-- C.LE.S (R545). -/
  | c_le_s (ft fs : Reg)
  /-- C.LE.D (R545). -/
  | c_le_d (ft fs : Reg)
  /-- C.NGT.S (R546). -/
  | c_ngt_s (ft fs : Reg)
  /-- C.NGT.D (R546). -/
  | c_ngt_d (ft fs : Reg)
  /-- MFC1 (R547). -/
  | mfc1 (rt fs : Reg)
  /-- MTC1 (R548). -/
  | mtc1 (rt fs : Reg)
  /-- DMFC1 (R549). -/
  | dmfc1 (rt fs : Reg)
  /-- DMTC1 (R550). -/
  | dmtc1 (rt fs : Reg)
  /-- CFC1 (R552). -/
  | cfc1 (rt fs : Reg)
  /-- CTC1 (R551). -/
  | ctc1 (rt fs : Reg)
  /-- BC1F (R560). -/
  | bc1f (offset : BitVec 16)
  /-- BC1T (R561). -/
  | bc1t (offset : BitVec 16)
  /-- BC1FL (R562). -/
  | bc1fl (offset : BitVec 16)
  /-- BC1TL (R563). -/
  | bc1tl (offset : BitVec 16)
  -- Paired single and multiply-add (spec/49_fpu_ps_madd.md)
  /-- ADD.PS (R582). -/
  | add_ps (ft fs fd : Reg)
  /-- SUB.PS (R583). -/
  | sub_ps (ft fs fd : Reg)
  /-- MUL.PS (R584). -/
  | mul_ps (ft fs fd : Reg)
  /-- ABS.PS (R585). -/
  | abs_ps (fs fd : Reg)
  /-- MOV.PS (R586). -/
  | mov_ps (fs fd : Reg)
  /-- NEG.PS (R587). -/
  | neg_ps (fs fd : Reg)
  /-- C.F.PS (R591). -/
  | c_f_ps (ft fs : Reg)
  /-- C.UN.PS (R592). -/
  | c_un_ps (ft fs : Reg)
  /-- C.EQ.PS (R593). -/
  | c_eq_ps (ft fs : Reg)
  /-- C.UEQ.PS (R594). -/
  | c_ueq_ps (ft fs : Reg)
  /-- C.OLT.PS (R595). -/
  | c_olt_ps (ft fs : Reg)
  /-- C.ULT.PS (R596). -/
  | c_ult_ps (ft fs : Reg)
  /-- C.OLE.PS (R597). -/
  | c_ole_ps (ft fs : Reg)
  /-- C.ULE.PS (R598). -/
  | c_ule_ps (ft fs : Reg)
  /-- C.SF.PS (R599). -/
  | c_sf_ps (ft fs : Reg)
  /-- C.NGLE.PS (R612). -/
  | c_ngle_ps (ft fs : Reg)
  /-- C.SEQ.PS (R613). -/
  | c_seq_ps (ft fs : Reg)
  /-- C.NGL.PS (R614). -/
  | c_ngl_ps (ft fs : Reg)
  /-- C.LT.PS (R615). -/
  | c_lt_ps (ft fs : Reg)
  /-- C.NGE.PS (R616). -/
  | c_nge_ps (ft fs : Reg)
  /-- C.LE.PS (R617). -/
  | c_le_ps (ft fs : Reg)
  /-- C.NGT.PS (R618). -/
  | c_ngt_ps (ft fs : Reg)
  /-- MADD.S (R600). -/
  | madd_s (ft fs fd : Reg)
  /-- MADD.D (R601). -/
  | madd_d (ft fs fd : Reg)
  /-- MADD.PS (R602). -/
  | madd_ps (ft fs fd : Reg)
  /-- MSUB.S (R603). -/
  | msub_s (ft fs fd : Reg)
  /-- MSUB.D (R604). -/
  | msub_d (ft fs fd : Reg)
  /-- MSUB.PS (R605). -/
  | msub_ps (ft fs fd : Reg)
  /-- NMADD.S (R606). -/
  | nmadd_s (ft fs fd : Reg)
  /-- NMADD.D (R607). -/
  | nmadd_d (ft fs fd : Reg)
  /-- NMADD.PS (R608). -/
  | nmadd_ps (ft fs fd : Reg)
  /-- NMSUB.S (R609). -/
  | nmsub_s (ft fs fd : Reg)
  /-- NMSUB.D (R610). -/
  | nmsub_d (ft fs fd : Reg)
  /-- NMSUB.PS (R611). -/
  | nmsub_ps (ft fs fd : Reg)
deriving DecidableEq, Repr

end Sys2Proof
end

