-- ==== Sys2Proof/Machine/Dispatch.lean ====
section
/-! DEFINITION. One arm per constructor of `Instr`: each calls the meaning of its instruction. -/

namespace Sys2Proof.Machine

def exec (i : Instr) (s : State) : Host.Outcome State Fault Refusal :=
  match i with
  | .lb base rt offset => Sys2Proof.Machine.execLb base rt offset s
  | .lbu base rt offset => Sys2Proof.Machine.execLbu base rt offset s
  | .lh base rt offset => Sys2Proof.Machine.execLh base rt offset s
  | .lhu base rt offset => Sys2Proof.Machine.execLhu base rt offset s
  | .lw base rt offset => Sys2Proof.Machine.execLw base rt offset s
  | .lwu base rt offset => Sys2Proof.Machine.execLwu base rt offset s
  | .ld base rt offset => Sys2Proof.Machine.execLd base rt offset s
  | .lwl base rt offset => Sys2Proof.Machine.execLwl base rt offset s
  | .lwr base rt offset => Sys2Proof.Machine.execLwr base rt offset s
  | .swl base rt offset => Sys2Proof.Machine.execSwl base rt offset s
  | .swr base rt offset => Sys2Proof.Machine.execSwr base rt offset s
  | .ldl base rt offset => Sys2Proof.Machine.execLdl base rt offset s
  | .ldr base rt offset => Sys2Proof.Machine.execLdr base rt offset s
  | .sdl base rt offset => Sys2Proof.Machine.execSdl base rt offset s
  | .sdr base rt offset => Sys2Proof.Machine.execSdr base rt offset s
  | .sb base rt offset => Sys2Proof.Machine.execSb base rt offset s
  | .sh base rt offset => Sys2Proof.Machine.execSh base rt offset s
  | .sw base rt offset => Sys2Proof.Machine.execSw base rt offset s
  | .sd base rt offset => Sys2Proof.Machine.execSd base rt offset s
  | .ll base rt offset => Sys2Proof.Machine.execLl base rt offset s
  | .lld base rt offset => Sys2Proof.Machine.execLld base rt offset s
  | .sc base rt offset => Sys2Proof.Machine.execSc base rt offset s
  | .scd base rt offset => Sys2Proof.Machine.execScd base rt offset s
  | .lwc1 base ft offset => Sys2Proof.Machine.execLwc1 base ft offset s
  | .ldc1 base ft offset => Sys2Proof.Machine.execLdc1 base ft offset s
  | .swc1 base ft offset => Sys2Proof.Machine.execSwc1 base ft offset s
  | .sdc1 base ft offset => Sys2Proof.Machine.execSdc1 base ft offset s
  | .addi rs rt imm => Sys2Proof.Machine.execAddi rs rt imm s
  | .daddi rs rt imm => Sys2Proof.Machine.execDaddi rs rt imm s
  | .addiu rs rt imm => Sys2Proof.Machine.execAddiu rs rt imm s
  | .daddiu rs rt imm => Sys2Proof.Machine.execDaddiu rs rt imm s
  | .slti rs rt imm => Sys2Proof.Machine.execSlti rs rt imm s
  | .sltiu rs rt imm => Sys2Proof.Machine.execSltiu rs rt imm s
  | .andi rs rt imm => Sys2Proof.Machine.execAndi rs rt imm s
  | .ori rs rt imm => Sys2Proof.Machine.execOri rs rt imm s
  | .xori rs rt imm => Sys2Proof.Machine.execXori rs rt imm s
  | .lui rt imm => Sys2Proof.Machine.execLui rt imm s
  | .add rs rt rd => Sys2Proof.Machine.execAdd rs rt rd s
  | .addu rs rt rd => Sys2Proof.Machine.execAddu rs rt rd s
  | .sub rs rt rd => Sys2Proof.Machine.execSub rs rt rd s
  | .subu rs rt rd => Sys2Proof.Machine.execSubu rs rt rd s
  | .dadd rs rt rd => Sys2Proof.Machine.execDadd rs rt rd s
  | .daddu rs rt rd => Sys2Proof.Machine.execDaddu rs rt rd s
  | .dsub rs rt rd => Sys2Proof.Machine.execDsub rs rt rd s
  | .dsubu rs rt rd => Sys2Proof.Machine.execDsubu rs rt rd s
  | .slt rs rt rd => Sys2Proof.Machine.execSlt rs rt rd s
  | .sltu rs rt rd => Sys2Proof.Machine.execSltu rs rt rd s
  | .and rs rt rd => Sys2Proof.Machine.execAnd rs rt rd s
  | .or rs rt rd => Sys2Proof.Machine.execOr rs rt rd s
  | .xor rs rt rd => Sys2Proof.Machine.execXor rs rt rd s
  | .nor rs rt rd => Sys2Proof.Machine.execNor rs rt rd s
  | .movz rs rt rd => Sys2Proof.Machine.execMovz rs rt rd s
  | .movn rs rt rd => Sys2Proof.Machine.execMovn rs rt rd s
  | .mult rs rt => Sys2Proof.Machine.execMult rs rt s
  | .multu rs rt => Sys2Proof.Machine.execMultu rs rt s
  | .dmult rs rt => Sys2Proof.Machine.execDmult rs rt s
  | .dmultu rs rt => Sys2Proof.Machine.execDmultu rs rt s
  | .div rs rt => Sys2Proof.Machine.execDiv rs rt s
  | .divu rs rt => Sys2Proof.Machine.execDivu rs rt s
  | .ddiv rs rt => Sys2Proof.Machine.execDdiv rs rt s
  | .ddivu rs rt => Sys2Proof.Machine.execDdivu rs rt s
  | .mfhi rd => Sys2Proof.Machine.execMfhi rd s
  | .mthi rs => Sys2Proof.Machine.execMthi rs s
  | .mflo rd => Sys2Proof.Machine.execMflo rd s
  | .mtlo rs => Sys2Proof.Machine.execMtlo rs s
  | .multg rs rt rd => Sys2Proof.Machine.execMultg rs rt rd s
  | .multug rs rt rd => Sys2Proof.Machine.execMultug rs rt rd s
  | .dmultg rs rt rd => Sys2Proof.Machine.execDmultg rs rt rd s
  | .dmultug rs rt rd => Sys2Proof.Machine.execDmultug rs rt rd s
  | .divg rs rt rd => Sys2Proof.Machine.execDivg rs rt rd s
  | .divug rs rt rd => Sys2Proof.Machine.execDivug rs rt rd s
  | .ddivg rs rt rd => Sys2Proof.Machine.execDdivg rs rt rd s
  | .ddivug rs rt rd => Sys2Proof.Machine.execDdivug rs rt rd s
  | .modg rs rt rd => Sys2Proof.Machine.execModg rs rt rd s
  | .modug rs rt rd => Sys2Proof.Machine.execModug rs rt rd s
  | .dmodg rs rt rd => Sys2Proof.Machine.execDmodg rs rt rd s
  | .dmodug rs rt rd => Sys2Proof.Machine.execDmodug rs rt rd s
  | .j target => Sys2Proof.Machine.execJ target s
  | .jal target => Sys2Proof.Machine.execJal target s
  | .jr rs hint => Sys2Proof.Machine.execJr rs hint s
  | .jalr rs rd hint => Sys2Proof.Machine.execJalr rs rd hint s
  | .beq rs rt offset => Sys2Proof.Machine.execBeq rs rt offset s
  | .bne rs rt offset => Sys2Proof.Machine.execBne rs rt offset s
  | .blez rs offset => Sys2Proof.Machine.execBlez rs offset s
  | .bgtz rs offset => Sys2Proof.Machine.execBgtz rs offset s
  | .bltz rs offset => Sys2Proof.Machine.execBltz rs offset s
  | .bgez rs offset => Sys2Proof.Machine.execBgez rs offset s
  | .bltzal rs offset => Sys2Proof.Machine.execBltzal rs offset s
  | .bgezal rs offset => Sys2Proof.Machine.execBgezal rs offset s
  | .beql rs rt offset => Sys2Proof.Machine.execBeql rs rt offset s
  | .bnel rs rt offset => Sys2Proof.Machine.execBnel rs rt offset s
  | .blezl rs offset => Sys2Proof.Machine.execBlezl rs offset s
  | .bgtzl rs offset => Sys2Proof.Machine.execBgtzl rs offset s
  | .bltzl rs offset => Sys2Proof.Machine.execBltzl rs offset s
  | .bgezl rs offset => Sys2Proof.Machine.execBgezl rs offset s
  | .bltzall rs offset => Sys2Proof.Machine.execBltzall rs offset s
  | .bgezall rs offset => Sys2Proof.Machine.execBgezall rs offset s
  | .sll rt rd sa => Sys2Proof.Machine.execSll rt rd sa s
  | .srl rt rd sa => Sys2Proof.Machine.execSrl rt rd sa s
  | .sra rt rd sa => Sys2Proof.Machine.execSra rt rd sa s
  | .dsll rt rd sa => Sys2Proof.Machine.execDsll rt rd sa s
  | .dsrl rt rd sa => Sys2Proof.Machine.execDsrl rt rd sa s
  | .dsra rt rd sa => Sys2Proof.Machine.execDsra rt rd sa s
  | .dsll32 rt rd sa => Sys2Proof.Machine.execDsll32 rt rd sa s
  | .dsrl32 rt rd sa => Sys2Proof.Machine.execDsrl32 rt rd sa s
  | .dsra32 rt rd sa => Sys2Proof.Machine.execDsra32 rt rd sa s
  | .sllv rs rt rd => Sys2Proof.Machine.execSllv rs rt rd s
  | .srlv rs rt rd => Sys2Proof.Machine.execSrlv rs rt rd s
  | .srav rs rt rd => Sys2Proof.Machine.execSrav rs rt rd s
  | .dsllv rs rt rd => Sys2Proof.Machine.execDsllv rs rt rd s
  | .dsrlv rs rt rd => Sys2Proof.Machine.execDsrlv rs rt rd s
  | .dsrav rs rt rd => Sys2Proof.Machine.execDsrav rs rt rd s
  | .syscall code => Sys2Proof.Machine.execSyscall code s
  | .break_ code => Sys2Proof.Machine.execBreak code s
  | .sync stype => Sys2Proof.Machine.execSync stype s
  | .tge rs rt code => Sys2Proof.Machine.execTge rs rt code s
  | .tgeu rs rt code => Sys2Proof.Machine.execTgeu rs rt code s
  | .tlt rs rt code => Sys2Proof.Machine.execTlt rs rt code s
  | .tltu rs rt code => Sys2Proof.Machine.execTltu rs rt code s
  | .teq rs rt code => Sys2Proof.Machine.execTeq rs rt code s
  | .tne rs rt code => Sys2Proof.Machine.execTne rs rt code s
  | .tgei rs imm => Sys2Proof.Machine.execTgei rs imm s
  | .tgeiu rs imm => Sys2Proof.Machine.execTgeiu rs imm s
  | .tlti rs imm => Sys2Proof.Machine.execTlti rs imm s
  | .tltiu rs imm => Sys2Proof.Machine.execTltiu rs imm s
  | .teqi rs imm => Sys2Proof.Machine.execTeqi rs imm s
  | .tnei rs imm => Sys2Proof.Machine.execTnei rs imm s
  | .dmfc0 rt rd => Sys2Proof.Machine.execDmfc0 rt rd s
  | .dmtc0 rt rd => Sys2Proof.Machine.execDmtc0 rt rd s
  | .mfc0 rt rd => Sys2Proof.Machine.execMfc0 rt rd s
  | .mtc0 rt rd => Sys2Proof.Machine.execMtc0 rt rd s
  | .tlbp => Sys2Proof.Machine.execTlbp s
  | .tlbr => Sys2Proof.Machine.execTlbr s
  | .tlbwi => Sys2Proof.Machine.execTlbwi s
  | .tlbwr => Sys2Proof.Machine.execTlbwr s
  | .eret => Sys2Proof.Machine.execEret s
  | .cache base op offset => Sys2Proof.Machine.execCache base op offset s
  | .cache_index_invalidate_i base offset => Sys2Proof.Machine.execCacheIndexInvalidateI base offset s
  | .cache_index_writeback_invalidate_d base offset => Sys2Proof.Machine.execCacheIndexWritebackInvalidateD base offset s
  | .cache_index_load_tag_d base offset => Sys2Proof.Machine.execCacheIndexLoadTagD base offset s
  | .cache_index_store_tag_d base offset => Sys2Proof.Machine.execCacheIndexStoreTagD base offset s
  | .cache_hit_invalidate_d base offset => Sys2Proof.Machine.execCacheHitInvalidateD base offset s
  | .cache_hit_writeback_invalidate_d base offset => Sys2Proof.Machine.execCacheHitWritebackInvalidateD base offset s
  | .cache_index_load_data_d base offset => Sys2Proof.Machine.execCacheIndexLoadDataD base offset s
  | .cache_index_store_data_d base offset => Sys2Proof.Machine.execCacheIndexStoreDataD base offset s
  | .cache_index_writeback_invalidate_s base offset => Sys2Proof.Machine.execCacheIndexWritebackInvalidateS base offset s
  | .cache_index_load_tag_s base offset => Sys2Proof.Machine.execCacheIndexLoadTagS base offset s
  | .cache_index_store_tag_s base offset => Sys2Proof.Machine.execCacheIndexStoreTagS base offset s
  | .cache_hit_invalidate_s base offset => Sys2Proof.Machine.execCacheHitInvalidateS base offset s
  | .cache_hit_writeback_invalidate_s base offset => Sys2Proof.Machine.execCacheHitWritebackInvalidateS base offset s
  | .cache_index_load_data_s base offset => Sys2Proof.Machine.execCacheIndexLoadDataS base offset s
  | .cache_index_store_data_s base offset => Sys2Proof.Machine.execCacheIndexStoreDataS base offset s
  | .add_s ft fs fd => Sys2Proof.Machine.execAddS ft fs fd s
  | .add_d ft fs fd => Sys2Proof.Machine.execAddD ft fs fd s
  | .sub_s ft fs fd => Sys2Proof.Machine.execSubS ft fs fd s
  | .sub_d ft fs fd => Sys2Proof.Machine.execSubD ft fs fd s
  | .mul_s ft fs fd => Sys2Proof.Machine.execMulS ft fs fd s
  | .mul_d ft fs fd => Sys2Proof.Machine.execMulD ft fs fd s
  | .div_s ft fs fd => Sys2Proof.Machine.execDivS ft fs fd s
  | .div_d ft fs fd => Sys2Proof.Machine.execDivD ft fs fd s
  | .sqrt_s fs fd => Sys2Proof.Machine.execSqrtS fs fd s
  | .sqrt_d fs fd => Sys2Proof.Machine.execSqrtD fs fd s
  | .abs_s fs fd => Sys2Proof.Machine.execAbsS fs fd s
  | .abs_d fs fd => Sys2Proof.Machine.execAbsD fs fd s
  | .mov_s fs fd => Sys2Proof.Machine.execMovS fs fd s
  | .mov_d fs fd => Sys2Proof.Machine.execMovD fs fd s
  | .neg_s fs fd => Sys2Proof.Machine.execNegS fs fd s
  | .neg_d fs fd => Sys2Proof.Machine.execNegD fs fd s
  | .round_l_s fs fd => Sys2Proof.Machine.execRoundLS fs fd s
  | .round_l_d fs fd => Sys2Proof.Machine.execRoundLD fs fd s
  | .trunc_l_s fs fd => Sys2Proof.Machine.execTruncLS fs fd s
  | .trunc_l_d fs fd => Sys2Proof.Machine.execTruncLD fs fd s
  | .ceil_l_s fs fd => Sys2Proof.Machine.execCeilLS fs fd s
  | .ceil_l_d fs fd => Sys2Proof.Machine.execCeilLD fs fd s
  | .floor_l_s fs fd => Sys2Proof.Machine.execFloorLS fs fd s
  | .floor_l_d fs fd => Sys2Proof.Machine.execFloorLD fs fd s
  | .round_w_s fs fd => Sys2Proof.Machine.execRoundWS fs fd s
  | .round_w_d fs fd => Sys2Proof.Machine.execRoundWD fs fd s
  | .trunc_w_s fs fd => Sys2Proof.Machine.execTruncWS fs fd s
  | .trunc_w_d fs fd => Sys2Proof.Machine.execTruncWD fs fd s
  | .ceil_w_s fs fd => Sys2Proof.Machine.execCeilWS fs fd s
  | .ceil_w_d fs fd => Sys2Proof.Machine.execCeilWD fs fd s
  | .floor_w_s fs fd => Sys2Proof.Machine.execFloorWS fs fd s
  | .floor_w_d fs fd => Sys2Proof.Machine.execFloorWD fs fd s
  | .cvt_w_s fs fd => Sys2Proof.Machine.execCvtWS fs fd s
  | .cvt_w_d fs fd => Sys2Proof.Machine.execCvtWD fs fd s
  | .cvt_l_s fs fd => Sys2Proof.Machine.execCvtLS fs fd s
  | .cvt_l_d fs fd => Sys2Proof.Machine.execCvtLD fs fd s
  | .cvt_s_d fs fd => Sys2Proof.Machine.execCvtSD fs fd s
  | .cvt_s_w fs fd => Sys2Proof.Machine.execCvtSW fs fd s
  | .cvt_s_l fs fd => Sys2Proof.Machine.execCvtSL fs fd s
  | .cvt_d_s fs fd => Sys2Proof.Machine.execCvtDS fs fd s
  | .cvt_d_w fs fd => Sys2Proof.Machine.execCvtDW fs fd s
  | .cvt_d_l fs fd => Sys2Proof.Machine.execCvtDL fs fd s
  | .c_f_s ft fs => Sys2Proof.Machine.execCFS ft fs s
  | .c_f_d ft fs => Sys2Proof.Machine.execCFD ft fs s
  | .c_un_s ft fs => Sys2Proof.Machine.execCUnS ft fs s
  | .c_un_d ft fs => Sys2Proof.Machine.execCUnD ft fs s
  | .c_eq_s ft fs => Sys2Proof.Machine.execCEqS ft fs s
  | .c_eq_d ft fs => Sys2Proof.Machine.execCEqD ft fs s
  | .c_ueq_s ft fs => Sys2Proof.Machine.execCUeqS ft fs s
  | .c_ueq_d ft fs => Sys2Proof.Machine.execCUeqD ft fs s
  | .c_olt_s ft fs => Sys2Proof.Machine.execCOltS ft fs s
  | .c_olt_d ft fs => Sys2Proof.Machine.execCOltD ft fs s
  | .c_ult_s ft fs => Sys2Proof.Machine.execCUltS ft fs s
  | .c_ult_d ft fs => Sys2Proof.Machine.execCUltD ft fs s
  | .c_ole_s ft fs => Sys2Proof.Machine.execCOleS ft fs s
  | .c_ole_d ft fs => Sys2Proof.Machine.execCOleD ft fs s
  | .c_ule_s ft fs => Sys2Proof.Machine.execCUleS ft fs s
  | .c_ule_d ft fs => Sys2Proof.Machine.execCUleD ft fs s
  | .c_sf_s ft fs => Sys2Proof.Machine.execCSfS ft fs s
  | .c_sf_d ft fs => Sys2Proof.Machine.execCSfD ft fs s
  | .c_ngle_s ft fs => Sys2Proof.Machine.execCNgleS ft fs s
  | .c_ngle_d ft fs => Sys2Proof.Machine.execCNgleD ft fs s
  | .c_seq_s ft fs => Sys2Proof.Machine.execCSeqS ft fs s
  | .c_seq_d ft fs => Sys2Proof.Machine.execCSeqD ft fs s
  | .c_ngl_s ft fs => Sys2Proof.Machine.execCNglS ft fs s
  | .c_ngl_d ft fs => Sys2Proof.Machine.execCNglD ft fs s
  | .c_lt_s ft fs => Sys2Proof.Machine.execCLtS ft fs s
  | .c_lt_d ft fs => Sys2Proof.Machine.execCLtD ft fs s
  | .c_nge_s ft fs => Sys2Proof.Machine.execCNgeS ft fs s
  | .c_nge_d ft fs => Sys2Proof.Machine.execCNgeD ft fs s
  | .c_le_s ft fs => Sys2Proof.Machine.execCLeS ft fs s
  | .c_le_d ft fs => Sys2Proof.Machine.execCLeD ft fs s
  | .c_ngt_s ft fs => Sys2Proof.Machine.execCNgtS ft fs s
  | .c_ngt_d ft fs => Sys2Proof.Machine.execCNgtD ft fs s
  | .mfc1 rt fs => Sys2Proof.Machine.execMfc1 rt fs s
  | .mtc1 rt fs => Sys2Proof.Machine.execMtc1 rt fs s
  | .dmfc1 rt fs => Sys2Proof.Machine.execDmfc1 rt fs s
  | .dmtc1 rt fs => Sys2Proof.Machine.execDmtc1 rt fs s
  | .cfc1 rt fs => Sys2Proof.Machine.execCfc1 rt fs s
  | .ctc1 rt fs => Sys2Proof.Machine.execCtc1 rt fs s
  | .bc1f offset => Sys2Proof.Machine.execBc1f offset s
  | .bc1t offset => Sys2Proof.Machine.execBc1t offset s
  | .bc1fl offset => Sys2Proof.Machine.execBc1fl offset s
  | .bc1tl offset => Sys2Proof.Machine.execBc1tl offset s
  | .add_ps ft fs fd => Sys2Proof.Machine.execAddPs ft fs fd s
  | .sub_ps ft fs fd => Sys2Proof.Machine.execSubPs ft fs fd s
  | .mul_ps ft fs fd => Sys2Proof.Machine.execMulPs ft fs fd s
  | .abs_ps fs fd => Sys2Proof.Machine.execAbsPs fs fd s
  | .mov_ps fs fd => Sys2Proof.Machine.execMovPs fs fd s
  | .neg_ps fs fd => Sys2Proof.Machine.execNegPs fs fd s
  | .c_f_ps ft fs => Sys2Proof.Machine.execCFPs ft fs s
  | .c_un_ps ft fs => Sys2Proof.Machine.execCUnPs ft fs s
  | .c_eq_ps ft fs => Sys2Proof.Machine.execCEqPs ft fs s
  | .c_ueq_ps ft fs => Sys2Proof.Machine.execCUeqPs ft fs s
  | .c_olt_ps ft fs => Sys2Proof.Machine.execCOltPs ft fs s
  | .c_ult_ps ft fs => Sys2Proof.Machine.execCUltPs ft fs s
  | .c_ole_ps ft fs => Sys2Proof.Machine.execCOlePs ft fs s
  | .c_ule_ps ft fs => Sys2Proof.Machine.execCUlePs ft fs s
  | .c_sf_ps ft fs => Sys2Proof.Machine.execCSfPs ft fs s
  | .c_ngle_ps ft fs => Sys2Proof.Machine.execCNglePs ft fs s
  | .c_seq_ps ft fs => Sys2Proof.Machine.execCSeqPs ft fs s
  | .c_ngl_ps ft fs => Sys2Proof.Machine.execCNglPs ft fs s
  | .c_lt_ps ft fs => Sys2Proof.Machine.execCLtPs ft fs s
  | .c_nge_ps ft fs => Sys2Proof.Machine.execCNgePs ft fs s
  | .c_le_ps ft fs => Sys2Proof.Machine.execCLePs ft fs s
  | .c_ngt_ps ft fs => Sys2Proof.Machine.execCNgtPs ft fs s
  | .madd_s ft fs fd => Sys2Proof.Machine.execMaddS ft fs fd s
  | .madd_d ft fs fd => Sys2Proof.Machine.execMaddD ft fs fd s
  | .madd_ps ft fs fd => Sys2Proof.Machine.execMaddPs ft fs fd s
  | .msub_s ft fs fd => Sys2Proof.Machine.execMsubS ft fs fd s
  | .msub_d ft fs fd => Sys2Proof.Machine.execMsubD ft fs fd s
  | .msub_ps ft fs fd => Sys2Proof.Machine.execMsubPs ft fs fd s
  | .nmadd_s ft fs fd => Sys2Proof.Machine.execNmaddS ft fs fd s
  | .nmadd_d ft fs fd => Sys2Proof.Machine.execNmaddD ft fs fd s
  | .nmadd_ps ft fs fd => Sys2Proof.Machine.execNmaddPs ft fs fd s
  | .nmsub_s ft fs fd => Sys2Proof.Machine.execNmsubS ft fs fd s
  | .nmsub_d ft fs fd => Sys2Proof.Machine.execNmsubD ft fs fd s
  | .nmsub_ps ft fs fd => Sys2Proof.Machine.execNmsubPs ft fs fd s

end Sys2Proof.Machine
end

