-- ==== Sys2Proof/WellFormed.lean ====
section
/-! DEFINITION. The checks a term of `Instr` must pass to stand for a word: the operands are fixed-width fields, so
only the general CACHE row restricts one of them (R183, R450). -/

namespace Sys2Proof

/-- The fifteen operations of Table 8-3 (R450). -/
def definedCacheOps : List (BitVec 5) :=
  [0b00000, 0b00001, 0b00101, 0b01001, 0b10001, 0b10101, 0b11001, 0b11101,
   0b00011, 0b00111, 0b01011, 0b10011, 0b10111, 0b11011, 0b11111]

/-- A term stands for a word of its row: the general CACHE row holds only the operations the manual leaves undefined,
since a word that also matches a row of one operation is that row's instruction (R183). -/
def Instr.wellFormed : Instr → Bool
  | .cache _ op _ => !definedCacheOps.contains op
  | _ => true

end Sys2Proof
end

