-- ==== Sys2Proof/Decode.lean ====
section
/-! DEFINITION. The decoder, total on any bytes, and the encoder, both written from the formats of
spec/30_encoding.md R170 to R186 and the rows of spec/opcode_table.json.

`decode` answers the instruction of a word, or the name of the way in which the word is no instruction (R180,
R181, R183).  The encodings that are not those of the CP0 group rest on general knowledge
(notes/assumptions/21.md); fields an instruction does not use must be zero (R182, notes/assumptions/22.md).

The decoding functions that build the last constructors of `Instr` are marked `noncomputable`: Lean's compiler gives a
data type at most 245 constructors with operands and the opcode table has more.  The mark concerns compiled code
only; the kernel evaluates these functions like any other. -/

namespace Sys2Proof

/-- How bytes fail to be an instruction. -/
inductive Reject where
  /-- A reserved word: the reserved instruction exception (R180). -/
  | reserved
  /-- A word of the COP0 opcode that no row matches: the CP0 check comes first (R183). -/
  | reservedCop0
  /-- A word of the COP1 opcode that no row matches: the CP1 check, then Unimplemented (R178, R183). -/
  | reservedCop1
  /-- A word of a coprocessor 2 opcode (R181). -/
  | cop2
  /-- Fewer than the four bytes of an instruction word (R170). -/
  | truncated
deriving DecidableEq, Repr

/-! ### The fields of a word (R171) -/

/-- Bits 31:26. -/
def opOf (w : Word) : BitVec 6 := w.extractLsb' 26 6
/-- Bits 25:21. -/
def rsOf (w : Word) : Reg := w.extractLsb' 21 5
/-- Bits 20:16. -/
def rtOf (w : Word) : Reg := w.extractLsb' 16 5
/-- Bits 15:11. -/
def rdOf (w : Word) : Reg := w.extractLsb' 11 5
/-- Bits 10:6. -/
def saOf (w : Word) : BitVec 5 := w.extractLsb' 6 5
/-- Bits 5:0. -/
def functOf (w : Word) : BitVec 6 := w.extractLsb' 0 6
/-- Bits 15:0. -/
def immOf (w : Word) : BitVec 16 := w.extractLsb' 0 16
/-- Bits 25:0. -/
def targetOf (w : Word) : BitVec 26 := w.extractLsb' 0 26
/-- The code of SYSCALL and BREAK, bits 25:6 (R173(h)). -/
def codeOf (w : Word) : BitVec 20 := w.extractLsb' 6 20
/-- The code of the register traps, bits 15:6 (R173(h)). -/
def trapCodeOf (w : Word) : BitVec 10 := w.extractLsb' 6 10

/-- The instruction if the fields it does not use are zero, otherwise the rejection (R182). -/
def onlyIf (zero : Bool) (r : Reject) (i : Instr) : Except Reject Instr :=
  if zero then .ok i else .error r

/-! ### The opcode maps -/

/-- SPECIAL, by bits 5:0 (R176). -/
def decodeSpecial (w : Word) (rs rt rd : Reg) (sa : BitVec 5) : Except Reject Instr :=
  match (functOf w).toNat with
  | 0 => onlyIf (rs == 0) .reserved (.sll rt rd sa)
  | 2 => onlyIf (rs == 0) .reserved (.srl rt rd sa)
  | 3 => onlyIf (rs == 0) .reserved (.sra rt rd sa)
  | 4 => onlyIf (sa == 0) .reserved (.sllv rs rt rd)
  | 6 => onlyIf (sa == 0) .reserved (.srlv rs rt rd)
  | 7 => onlyIf (sa == 0) .reserved (.srav rs rt rd)
  | 8 => onlyIf (rt == 0 && rd == 0) .reserved (.jr rs sa)
  | 9 => onlyIf (rt == 0) .reserved (.jalr rs rd sa)
  | 10 => onlyIf (sa == 0) .reserved (.movz rs rt rd)
  | 11 => onlyIf (sa == 0) .reserved (.movn rs rt rd)
  | 12 => .ok (.syscall (codeOf w))
  | 13 => .ok (.break_ (codeOf w))
  | 15 => onlyIf (rs == 0 && rt == 0 && rd == 0) .reserved (.sync sa)
  | 16 => onlyIf (rs == 0 && rt == 0 && sa == 0) .reserved (.mfhi rd)
  | 17 => onlyIf (rt == 0 && rd == 0 && sa == 0) .reserved (.mthi rs)
  | 18 => onlyIf (rs == 0 && rt == 0 && sa == 0) .reserved (.mflo rd)
  | 19 => onlyIf (rt == 0 && rd == 0 && sa == 0) .reserved (.mtlo rs)
  | 20 => onlyIf (sa == 0) .reserved (.dsllv rs rt rd)
  | 22 => onlyIf (sa == 0) .reserved (.dsrlv rs rt rd)
  | 23 => onlyIf (sa == 0) .reserved (.dsrav rs rt rd)
  | 24 => onlyIf (rd == 0 && sa == 0) .reserved (.mult rs rt)
  | 25 => onlyIf (rd == 0 && sa == 0) .reserved (.multu rs rt)
  | 26 => onlyIf (rd == 0 && sa == 0) .reserved (.div rs rt)
  | 27 => onlyIf (rd == 0 && sa == 0) .reserved (.divu rs rt)
  | 28 => onlyIf (rd == 0 && sa == 0) .reserved (.dmult rs rt)
  | 29 => onlyIf (rd == 0 && sa == 0) .reserved (.dmultu rs rt)
  | 30 => onlyIf (rd == 0 && sa == 0) .reserved (.ddiv rs rt)
  | 31 => onlyIf (rd == 0 && sa == 0) .reserved (.ddivu rs rt)
  | 32 => onlyIf (sa == 0) .reserved (.add rs rt rd)
  | 33 => onlyIf (sa == 0) .reserved (.addu rs rt rd)
  | 34 => onlyIf (sa == 0) .reserved (.sub rs rt rd)
  | 35 => onlyIf (sa == 0) .reserved (.subu rs rt rd)
  | 36 => onlyIf (sa == 0) .reserved (.and rs rt rd)
  | 37 => onlyIf (sa == 0) .reserved (.or rs rt rd)
  | 38 => onlyIf (sa == 0) .reserved (.xor rs rt rd)
  | 39 => onlyIf (sa == 0) .reserved (.nor rs rt rd)
  | 42 => onlyIf (sa == 0) .reserved (.slt rs rt rd)
  | 43 => onlyIf (sa == 0) .reserved (.sltu rs rt rd)
  | 44 => onlyIf (sa == 0) .reserved (.dadd rs rt rd)
  | 45 => onlyIf (sa == 0) .reserved (.daddu rs rt rd)
  | 46 => onlyIf (sa == 0) .reserved (.dsub rs rt rd)
  | 47 => onlyIf (sa == 0) .reserved (.dsubu rs rt rd)
  | 48 => .ok (.tge rs rt (trapCodeOf w))
  | 49 => .ok (.tgeu rs rt (trapCodeOf w))
  | 50 => .ok (.tlt rs rt (trapCodeOf w))
  | 51 => .ok (.tltu rs rt (trapCodeOf w))
  | 52 => .ok (.teq rs rt (trapCodeOf w))
  | 54 => .ok (.tne rs rt (trapCodeOf w))
  | 56 => onlyIf (rs == 0) .reserved (.dsll rt rd sa)
  | 58 => onlyIf (rs == 0) .reserved (.dsrl rt rd sa)
  | 59 => onlyIf (rs == 0) .reserved (.dsra rt rd sa)
  | 60 => onlyIf (rs == 0) .reserved (.dsll32 rt rd sa)
  | 62 => onlyIf (rs == 0) .reserved (.dsrl32 rt rd sa)
  | 63 => onlyIf (rs == 0) .reserved (.dsra32 rt rd sa)
  | _ => .error .reserved

/-- REGIMM, by bits 20:16 (R177). -/
def decodeRegimm (rs rt : Reg) (imm : BitVec 16) : Except Reject Instr :=
  match rt.toNat with
  | 0 => .ok (.bltz rs imm)
  | 1 => .ok (.bgez rs imm)
  | 2 => .ok (.bltzl rs imm)
  | 3 => .ok (.bgezl rs imm)
  | 8 => .ok (.tgei rs imm)
  | 9 => .ok (.tgeiu rs imm)
  | 10 => .ok (.tlti rs imm)
  | 11 => .ok (.tltiu rs imm)
  | 12 => .ok (.teqi rs imm)
  | 14 => .ok (.tnei rs imm)
  | 16 => .ok (.bltzal rs imm)
  | 17 => .ok (.bgezal rs imm)
  | 18 => .ok (.bltzall rs imm)
  | 19 => .ok (.bgezall rs imm)
  | _ => .error .reserved

/-- The CO form of COP0: bits 24:6 are zero, bits 5:0 name the operation (R172). -/
def decodeCo (w : Word) : Except Reject Instr :=
  match (functOf w).toNat with
  | 1 => .ok .tlbr
  | 2 => .ok .tlbwi
  | 6 => .ok .tlbwr
  | 8 => .ok .tlbp
  | 24 => .ok .eret
  | _ => .error .reservedCop0

/-- COP0: the moves by bits 25:21 with bits 10:0 zero, and the CO form (R172). -/
def decodeCop0 (w : Word) (rs rt rd : Reg) : Except Reject Instr :=
  match rs.toNat with
  | 0 => onlyIf (w.extractLsb' 0 11 == 0) .reservedCop0 (.mfc0 rt rd)
  | 1 => onlyIf (w.extractLsb' 0 11 == 0) .reservedCop0 (.dmfc0 rt rd)
  | 4 => onlyIf (w.extractLsb' 0 11 == 0) .reservedCop0 (.mtc0 rt rd)
  | 5 => onlyIf (w.extractLsb' 0 11 == 0) .reservedCop0 (.dmtc0 rt rd)
  | 16 => if w.extractLsb' 6 15 == 0 then decodeCo w else .error .reservedCop0
  | _ => .error .reservedCop0

/-- COP1 with format S (16), by bits 5:0 (R178). -/
def decodeFmtS (w : Word) (rt rd : Reg) (sa : BitVec 5) : Except Reject Instr :=
  match (functOf w).toNat with
  | 0 => .ok (.add_s rt rd sa)
  | 1 => .ok (.sub_s rt rd sa)
  | 2 => .ok (.mul_s rt rd sa)
  | 3 => .ok (.div_s rt rd sa)
  | 4 => onlyIf (rt == 0) .reservedCop1 (.sqrt_s rd sa)
  | 5 => onlyIf (rt == 0) .reservedCop1 (.abs_s rd sa)
  | 6 => onlyIf (rt == 0) .reservedCop1 (.mov_s rd sa)
  | 7 => onlyIf (rt == 0) .reservedCop1 (.neg_s rd sa)
  | 8 => onlyIf (rt == 0) .reservedCop1 (.round_l_s rd sa)
  | 9 => onlyIf (rt == 0) .reservedCop1 (.trunc_l_s rd sa)
  | 10 => onlyIf (rt == 0) .reservedCop1 (.ceil_l_s rd sa)
  | 11 => onlyIf (rt == 0) .reservedCop1 (.floor_l_s rd sa)
  | 12 => onlyIf (rt == 0) .reservedCop1 (.round_w_s rd sa)
  | 13 => onlyIf (rt == 0) .reservedCop1 (.trunc_w_s rd sa)
  | 14 => onlyIf (rt == 0) .reservedCop1 (.ceil_w_s rd sa)
  | 15 => onlyIf (rt == 0) .reservedCop1 (.floor_w_s rd sa)
  | 33 => onlyIf (rt == 0) .reservedCop1 (.cvt_d_s rd sa)
  | 36 => onlyIf (rt == 0) .reservedCop1 (.cvt_w_s rd sa)
  | 37 => onlyIf (rt == 0) .reservedCop1 (.cvt_l_s rd sa)
  | 48 => onlyIf (sa == 0) .reservedCop1 (.c_f_s rt rd)
  | 49 => onlyIf (sa == 0) .reservedCop1 (.c_un_s rt rd)
  | 50 => onlyIf (sa == 0) .reservedCop1 (.c_eq_s rt rd)
  | 51 => onlyIf (sa == 0) .reservedCop1 (.c_ueq_s rt rd)
  | 52 => onlyIf (sa == 0) .reservedCop1 (.c_olt_s rt rd)
  | 53 => onlyIf (sa == 0) .reservedCop1 (.c_ult_s rt rd)
  | 54 => onlyIf (sa == 0) .reservedCop1 (.c_ole_s rt rd)
  | 55 => onlyIf (sa == 0) .reservedCop1 (.c_ule_s rt rd)
  | 56 => onlyIf (sa == 0) .reservedCop1 (.c_sf_s rt rd)
  | 57 => onlyIf (sa == 0) .reservedCop1 (.c_ngle_s rt rd)
  | 58 => onlyIf (sa == 0) .reservedCop1 (.c_seq_s rt rd)
  | 59 => onlyIf (sa == 0) .reservedCop1 (.c_ngl_s rt rd)
  | 60 => onlyIf (sa == 0) .reservedCop1 (.c_lt_s rt rd)
  | 61 => onlyIf (sa == 0) .reservedCop1 (.c_nge_s rt rd)
  | 62 => onlyIf (sa == 0) .reservedCop1 (.c_le_s rt rd)
  | 63 => onlyIf (sa == 0) .reservedCop1 (.c_ngt_s rt rd)
  | _ => .error .reservedCop1

/-- COP1 with format D (17), by bits 5:0 (R178). -/
def decodeFmtD (w : Word) (rt rd : Reg) (sa : BitVec 5) : Except Reject Instr :=
  match (functOf w).toNat with
  | 0 => .ok (.add_d rt rd sa)
  | 1 => .ok (.sub_d rt rd sa)
  | 2 => .ok (.mul_d rt rd sa)
  | 3 => .ok (.div_d rt rd sa)
  | 4 => onlyIf (rt == 0) .reservedCop1 (.sqrt_d rd sa)
  | 5 => onlyIf (rt == 0) .reservedCop1 (.abs_d rd sa)
  | 6 => onlyIf (rt == 0) .reservedCop1 (.mov_d rd sa)
  | 7 => onlyIf (rt == 0) .reservedCop1 (.neg_d rd sa)
  | 8 => onlyIf (rt == 0) .reservedCop1 (.round_l_d rd sa)
  | 9 => onlyIf (rt == 0) .reservedCop1 (.trunc_l_d rd sa)
  | 10 => onlyIf (rt == 0) .reservedCop1 (.ceil_l_d rd sa)
  | 11 => onlyIf (rt == 0) .reservedCop1 (.floor_l_d rd sa)
  | 12 => onlyIf (rt == 0) .reservedCop1 (.round_w_d rd sa)
  | 13 => onlyIf (rt == 0) .reservedCop1 (.trunc_w_d rd sa)
  | 14 => onlyIf (rt == 0) .reservedCop1 (.ceil_w_d rd sa)
  | 15 => onlyIf (rt == 0) .reservedCop1 (.floor_w_d rd sa)
  | 32 => onlyIf (rt == 0) .reservedCop1 (.cvt_s_d rd sa)
  | 36 => onlyIf (rt == 0) .reservedCop1 (.cvt_w_d rd sa)
  | 37 => onlyIf (rt == 0) .reservedCop1 (.cvt_l_d rd sa)
  | 48 => onlyIf (sa == 0) .reservedCop1 (.c_f_d rt rd)
  | 49 => onlyIf (sa == 0) .reservedCop1 (.c_un_d rt rd)
  | 50 => onlyIf (sa == 0) .reservedCop1 (.c_eq_d rt rd)
  | 51 => onlyIf (sa == 0) .reservedCop1 (.c_ueq_d rt rd)
  | 52 => onlyIf (sa == 0) .reservedCop1 (.c_olt_d rt rd)
  | 53 => onlyIf (sa == 0) .reservedCop1 (.c_ult_d rt rd)
  | 54 => onlyIf (sa == 0) .reservedCop1 (.c_ole_d rt rd)
  | 55 => onlyIf (sa == 0) .reservedCop1 (.c_ule_d rt rd)
  | 56 => onlyIf (sa == 0) .reservedCop1 (.c_sf_d rt rd)
  | 57 => onlyIf (sa == 0) .reservedCop1 (.c_ngle_d rt rd)
  | 58 => onlyIf (sa == 0) .reservedCop1 (.c_seq_d rt rd)
  | 59 => onlyIf (sa == 0) .reservedCop1 (.c_ngl_d rt rd)
  | 60 => onlyIf (sa == 0) .reservedCop1 (.c_lt_d rt rd)
  | 61 => onlyIf (sa == 0) .reservedCop1 (.c_nge_d rt rd)
  | 62 => onlyIf (sa == 0) .reservedCop1 (.c_le_d rt rd)
  | 63 => onlyIf (sa == 0) .reservedCop1 (.c_ngt_d rt rd)
  | _ => .error .reservedCop1

/-- COP1 with format W (20), by bits 5:0 (R178). -/
def decodeFmtW (w : Word) (rt rd : Reg) (sa : BitVec 5) : Except Reject Instr :=
  match (functOf w).toNat with
  | 32 => onlyIf (rt == 0) .reservedCop1 (.cvt_s_w rd sa)
  | 33 => onlyIf (rt == 0) .reservedCop1 (.cvt_d_w rd sa)
  | _ => .error .reservedCop1

/-- COP1 with format L (21), by bits 5:0 (R178). -/
def decodeFmtL (w : Word) (rt rd : Reg) (sa : BitVec 5) : Except Reject Instr :=
  match (functOf w).toNat with
  | 32 => onlyIf (rt == 0) .reservedCop1 (.cvt_s_l rd sa)
  | 33 => onlyIf (rt == 0) .reservedCop1 (.cvt_d_l rd sa)
  | _ => .error .reservedCop1

/-- COP1 with format PS (22), by bits 5:0 (R178). -/
noncomputable def decodeFmtPS (w : Word) (rt rd : Reg) (sa : BitVec 5) : Except Reject Instr :=
  match (functOf w).toNat with
  | 0 => .ok (.add_ps rt rd sa)
  | 1 => .ok (.sub_ps rt rd sa)
  | 2 => .ok (.mul_ps rt rd sa)
  | 5 => onlyIf (rt == 0) .reservedCop1 (.abs_ps rd sa)
  | 6 => onlyIf (rt == 0) .reservedCop1 (.mov_ps rd sa)
  | 7 => onlyIf (rt == 0) .reservedCop1 (.neg_ps rd sa)
  | 48 => onlyIf (sa == 0) .reservedCop1 (.c_f_ps rt rd)
  | 49 => onlyIf (sa == 0) .reservedCop1 (.c_un_ps rt rd)
  | 50 => onlyIf (sa == 0) .reservedCop1 (.c_eq_ps rt rd)
  | 51 => onlyIf (sa == 0) .reservedCop1 (.c_ueq_ps rt rd)
  | 52 => onlyIf (sa == 0) .reservedCop1 (.c_olt_ps rt rd)
  | 53 => onlyIf (sa == 0) .reservedCop1 (.c_ult_ps rt rd)
  | 54 => onlyIf (sa == 0) .reservedCop1 (.c_ole_ps rt rd)
  | 55 => onlyIf (sa == 0) .reservedCop1 (.c_ule_ps rt rd)
  | 56 => onlyIf (sa == 0) .reservedCop1 (.c_sf_ps rt rd)
  | 57 => onlyIf (sa == 0) .reservedCop1 (.c_ngle_ps rt rd)
  | 58 => onlyIf (sa == 0) .reservedCop1 (.c_seq_ps rt rd)
  | 59 => onlyIf (sa == 0) .reservedCop1 (.c_ngl_ps rt rd)
  | 60 => onlyIf (sa == 0) .reservedCop1 (.c_lt_ps rt rd)
  | 61 => onlyIf (sa == 0) .reservedCop1 (.c_nge_ps rt rd)
  | 62 => onlyIf (sa == 0) .reservedCop1 (.c_le_ps rt rd)
  | 63 => onlyIf (sa == 0) .reservedCop1 (.c_ngt_ps rt rd)
  | _ => .error .reservedCop1

/-- The branches on the condition bit, by bits 20:16 (R174). -/
def decodeBc1 (rt : Reg) (imm : BitVec 16) : Except Reject Instr :=
  match rt.toNat with
  | 0 => .ok (.bc1f imm)
  | 1 => .ok (.bc1t imm)
  | 2 => .ok (.bc1fl imm)
  | 3 => .ok (.bc1tl imm)
  | _ => .error .reservedCop1

/-- COP1, by bits 25:21 (R174, R178). -/
noncomputable def decodeCop1 (w : Word) (rs rt rd : Reg) (sa : BitVec 5) (imm : BitVec 16) : Except Reject Instr :=
  match rs.toNat with
  | 0 => onlyIf (w.extractLsb' 0 11 == 0) .reservedCop1 (.mfc1 rt rd)
  | 1 => onlyIf (w.extractLsb' 0 11 == 0) .reservedCop1 (.dmfc1 rt rd)
  | 2 => onlyIf (w.extractLsb' 0 11 == 0) .reservedCop1 (.cfc1 rt rd)
  | 4 => onlyIf (w.extractLsb' 0 11 == 0) .reservedCop1 (.mtc1 rt rd)
  | 5 => onlyIf (w.extractLsb' 0 11 == 0) .reservedCop1 (.dmtc1 rt rd)
  | 6 => onlyIf (w.extractLsb' 0 11 == 0) .reservedCop1 (.ctc1 rt rd)
  | 8 => decodeBc1 rt imm
  | 16 => decodeFmtS w rt rd sa
  | 17 => decodeFmtD w rt rd sa
  | 20 => decodeFmtW w rt rd sa
  | 21 => decodeFmtL w rt rd sa
  | 22 => decodeFmtPS w rt rd sa
  | _ => .error .reservedCop1

/-- The multiply-add families of SPECIAL2: bits 25:21 name the format (R186). -/
noncomputable def decodeMadd (w : Word) (rs rt rd : Reg) (sa : BitVec 5) : Except Reject Instr :=
  match rs.toNat, (functOf w).toNat with
  | 11, 24 => .ok (.madd_ps rt rd sa)
  | 11, 25 => .ok (.msub_ps rt rd sa)
  | 11, 26 => .ok (.nmadd_ps rt rd sa)
  | 11, 27 => .ok (.nmsub_ps rt rd sa)
  | 16, 24 => .ok (.madd_s rt rd sa)
  | 16, 25 => .ok (.msub_s rt rd sa)
  | 16, 26 => .ok (.nmadd_s rt rd sa)
  | 16, 27 => .ok (.nmsub_s rt rd sa)
  | 17, 24 => .ok (.madd_d rt rd sa)
  | 17, 25 => .ok (.msub_d rt rd sa)
  | 17, 26 => .ok (.nmadd_d rt rd sa)
  | 17, 27 => .ok (.nmsub_d rt rd sa)
  | _, _ => .error .reserved

/-- SPECIAL2, the Godson extensions, by bits 5:0 (R179, R186). -/
noncomputable def decodeSpecial2 (w : Word) (rs rt rd : Reg) (sa : BitVec 5) : Except Reject Instr :=
  match (functOf w).toNat with
  | 16 => onlyIf (sa == 0) .reserved (.multg rs rt rd)
  | 17 => onlyIf (sa == 0) .reserved (.dmultg rs rt rd)
  | 18 => onlyIf (sa == 0) .reserved (.multug rs rt rd)
  | 19 => onlyIf (sa == 0) .reserved (.dmultug rs rt rd)
  | 20 => onlyIf (sa == 0) .reserved (.divg rs rt rd)
  | 21 => onlyIf (sa == 0) .reserved (.ddivg rs rt rd)
  | 22 => onlyIf (sa == 0) .reserved (.divug rs rt rd)
  | 23 => onlyIf (sa == 0) .reserved (.ddivug rs rt rd)
  | 28 => onlyIf (sa == 0) .reserved (.modg rs rt rd)
  | 29 => onlyIf (sa == 0) .reserved (.dmodg rs rt rd)
  | 30 => onlyIf (sa == 0) .reserved (.modug rs rt rd)
  | 31 => onlyIf (sa == 0) .reserved (.dmodug rs rt rd)
  | _ => decodeMadd w rs rt rd sa

/-- CACHE, by the operation in bits 20:16; the seventeen undefined values are the general row (R183, R450). -/
def decodeCache (rs rt : Reg) (imm : BitVec 16) : Except Reject Instr :=
  match rt.toNat with
  | 0 => .ok (.cache_index_invalidate_i rs imm)
  | 1 => .ok (.cache_index_writeback_invalidate_d rs imm)
  | 3 => .ok (.cache_index_writeback_invalidate_s rs imm)
  | 5 => .ok (.cache_index_load_tag_d rs imm)
  | 7 => .ok (.cache_index_load_tag_s rs imm)
  | 9 => .ok (.cache_index_store_tag_d rs imm)
  | 11 => .ok (.cache_index_store_tag_s rs imm)
  | 17 => .ok (.cache_hit_invalidate_d rs imm)
  | 19 => .ok (.cache_hit_invalidate_s rs imm)
  | 21 => .ok (.cache_hit_writeback_invalidate_d rs imm)
  | 23 => .ok (.cache_hit_writeback_invalidate_s rs imm)
  | 25 => .ok (.cache_index_load_data_d rs imm)
  | 27 => .ok (.cache_index_load_data_s rs imm)
  | 29 => .ok (.cache_index_store_data_d rs imm)
  | 31 => .ok (.cache_index_store_data_s rs imm)
  | _ => .ok (.cache rs rt imm)

/-- The instruction of a word, or why there is none (R175, R183). -/
noncomputable def decode (w : Word) : Except Reject Instr :=
  let rs := rsOf w
  let rt := rtOf w
  let rd := rdOf w
  let sa := saOf w
  let imm := immOf w
  match (opOf w).toNat with
  | 0 => decodeSpecial w rs rt rd sa
  | 1 => decodeRegimm rs rt imm
  | 2 => .ok (.j (targetOf w))
  | 3 => .ok (.jal (targetOf w))
  | 4 => .ok (.beq rs rt imm)
  | 5 => .ok (.bne rs rt imm)
  | 6 => onlyIf (rt == 0) .reserved (.blez rs imm)
  | 7 => onlyIf (rt == 0) .reserved (.bgtz rs imm)
  | 8 => .ok (.addi rs rt imm)
  | 9 => .ok (.addiu rs rt imm)
  | 10 => .ok (.slti rs rt imm)
  | 11 => .ok (.sltiu rs rt imm)
  | 12 => .ok (.andi rs rt imm)
  | 13 => .ok (.ori rs rt imm)
  | 14 => .ok (.xori rs rt imm)
  | 15 => onlyIf (rs == 0) .reserved (.lui rt imm)
  | 16 => decodeCop0 w rs rt rd
  | 17 => decodeCop1 w rs rt rd sa imm
  | 18 => .error .cop2
  | 20 => .ok (.beql rs rt imm)
  | 21 => .ok (.bnel rs rt imm)
  | 22 => onlyIf (rt == 0) .reserved (.blezl rs imm)
  | 23 => onlyIf (rt == 0) .reserved (.bgtzl rs imm)
  | 24 => .ok (.daddi rs rt imm)
  | 25 => .ok (.daddiu rs rt imm)
  | 26 => .ok (.ldl rs rt imm)
  | 27 => .ok (.ldr rs rt imm)
  | 28 => decodeSpecial2 w rs rt rd sa
  | 32 => .ok (.lb rs rt imm)
  | 33 => .ok (.lh rs rt imm)
  | 34 => .ok (.lwl rs rt imm)
  | 35 => .ok (.lw rs rt imm)
  | 36 => .ok (.lbu rs rt imm)
  | 37 => .ok (.lhu rs rt imm)
  | 38 => .ok (.lwr rs rt imm)
  | 39 => .ok (.lwu rs rt imm)
  | 40 => .ok (.sb rs rt imm)
  | 41 => .ok (.sh rs rt imm)
  | 42 => .ok (.swl rs rt imm)
  | 43 => .ok (.sw rs rt imm)
  | 44 => .ok (.sdl rs rt imm)
  | 45 => .ok (.sdr rs rt imm)
  | 46 => .ok (.swr rs rt imm)
  | 47 => decodeCache rs rt imm
  | 48 => .ok (.ll rs rt imm)
  | 49 => .ok (.lwc1 rs rt imm)
  | 50 => .error .cop2
  | 52 => .ok (.lld rs rt imm)
  | 53 => .ok (.ldc1 rs rt imm)
  | 54 => .error .cop2
  | 55 => .ok (.ld rs rt imm)
  | 56 => .ok (.sc rs rt imm)
  | 57 => .ok (.swc1 rs rt imm)
  | 58 => .error .cop2
  | 60 => .ok (.scd rs rt imm)
  | 61 => .ok (.sdc1 rs rt imm)
  | 62 => .error .cop2
  | 63 => .ok (.sd rs rt imm)
  | _ => .error .reserved

/-! ### The parameter `GS_OPCODES` (R8, R186; notes/assumptions/31.md) -/

/-- The instruction of a row of `GS_OPCODES`, with its operands from the fields that R186 names. -/
noncomputable def gsInstr (name : Config.GsName) (w : Word) : Instr :=
  match name with
  | .multg => .multg (rsOf w) (rtOf w) (rdOf w)
  | .dmultg => .dmultg (rsOf w) (rtOf w) (rdOf w)
  | .multug => .multug (rsOf w) (rtOf w) (rdOf w)
  | .dmultug => .dmultug (rsOf w) (rtOf w) (rdOf w)
  | .divg => .divg (rsOf w) (rtOf w) (rdOf w)
  | .ddivg => .ddivg (rsOf w) (rtOf w) (rdOf w)
  | .divug => .divug (rsOf w) (rtOf w) (rdOf w)
  | .ddivug => .ddivug (rsOf w) (rtOf w) (rdOf w)
  | .modg => .modg (rsOf w) (rtOf w) (rdOf w)
  | .dmodg => .dmodg (rsOf w) (rtOf w) (rdOf w)
  | .modug => .modug (rsOf w) (rtOf w) (rdOf w)
  | .dmodug => .dmodug (rsOf w) (rtOf w) (rdOf w)
  | .madd_s => .madd_s (rtOf w) (rdOf w) (saOf w)
  | .madd_d => .madd_d (rtOf w) (rdOf w) (saOf w)
  | .madd_ps => .madd_ps (rtOf w) (rdOf w) (saOf w)
  | .msub_s => .msub_s (rtOf w) (rdOf w) (saOf w)
  | .msub_d => .msub_d (rtOf w) (rdOf w) (saOf w)
  | .msub_ps => .msub_ps (rtOf w) (rdOf w) (saOf w)
  | .nmadd_s => .nmadd_s (rtOf w) (rdOf w) (saOf w)
  | .nmadd_d => .nmadd_d (rtOf w) (rdOf w) (saOf w)
  | .nmadd_ps => .nmadd_ps (rtOf w) (rdOf w) (saOf w)
  | .nmsub_s => .nmsub_s (rtOf w) (rdOf w) (saOf w)
  | .nmsub_d => .nmsub_d (rtOf w) (rdOf w) (saOf w)
  | .nmsub_ps => .nmsub_ps (rtOf w) (rdOf w) (saOf w)

/-- The instruction of a word under a value of `GS_OPCODES`: without a table, that of `decode`, whose SPECIAL2 map is the
table of R186; with one, a word of a row is that row's instruction and every other SPECIAL2 word is reserved (R179). -/
noncomputable def decodeFor (table : Option (List Config.GsRow)) (w : Word) : Except Reject Instr :=
  match table with
  | none => decode w
  | some rows =>
    match rows.find? fun r => w &&& r.mask == r.bits with
    | some r => .ok (gsInstr r.name w)
    | none => if opOf w = 28 then .error .reserved else decode w

/-- A word from its bytes, the first in bits 7:0 (R101, R170). -/
def wordOfBytes (b0 b1 b2 b3 : Byte) : Word := b3 ++ b2 ++ b1 ++ b0

/-- The instruction at the head of a list of bytes, and the bytes after it (R170: always one word). -/
noncomputable def decodeBytes : List Byte → Except Reject (Instr × List Byte)
  | b0 :: b1 :: b2 :: b3 :: rest =>
    match decode (wordOfBytes b0 b1 b2 b3) with
    | .ok i => .ok (i, rest)
    | .error r => .error r
  | _ => .error .truncated

/-! ### The encoder -/

/-- A word of the I format (R171). -/
def iType (op : BitVec 6) (rs rt : Reg) (imm : BitVec 16) : Word := op ++ rs ++ rt ++ imm
/-- A word of the J format (R171). -/
def jType (op : BitVec 6) (target : BitVec 26) : Word := op ++ target
/-- A word of the R format (R171). -/
def rType (op : BitVec 6) (rs rt rd : Reg) (sa : BitVec 5) (funct : BitVec 6) : Word :=
  op ++ rs ++ rt ++ rd ++ sa ++ funct
/-- A word that carries a 20-bit code (R173(h)). -/
def codeType (op : BitVec 6) (code : BitVec 20) (funct : BitVec 6) : Word := op ++ code ++ funct
/-- A register trap, with its 10-bit code (R173(h)). -/
def trapType (op : BitVec 6) (rs rt : Reg) (code : BitVec 10) (funct : BitVec 6) : Word :=
  op ++ rs ++ rt ++ code ++ funct

/-- The word of an instruction, its unused fields zero. -/
def encode : Instr → Word
  | .lb base rt offset => iType 32 base rt offset
  | .lbu base rt offset => iType 36 base rt offset
  | .lh base rt offset => iType 33 base rt offset
  | .lhu base rt offset => iType 37 base rt offset
  | .lw base rt offset => iType 35 base rt offset
  | .lwu base rt offset => iType 39 base rt offset
  | .ld base rt offset => iType 55 base rt offset
  | .lwl base rt offset => iType 34 base rt offset
  | .lwr base rt offset => iType 38 base rt offset
  | .swl base rt offset => iType 42 base rt offset
  | .swr base rt offset => iType 46 base rt offset
  | .ldl base rt offset => iType 26 base rt offset
  | .ldr base rt offset => iType 27 base rt offset
  | .sdl base rt offset => iType 44 base rt offset
  | .sdr base rt offset => iType 45 base rt offset
  | .sb base rt offset => iType 40 base rt offset
  | .sh base rt offset => iType 41 base rt offset
  | .sw base rt offset => iType 43 base rt offset
  | .sd base rt offset => iType 63 base rt offset
  | .ll base rt offset => iType 48 base rt offset
  | .lld base rt offset => iType 52 base rt offset
  | .sc base rt offset => iType 56 base rt offset
  | .scd base rt offset => iType 60 base rt offset
  | .lwc1 base ft offset => iType 49 base ft offset
  | .ldc1 base ft offset => iType 53 base ft offset
  | .swc1 base ft offset => iType 57 base ft offset
  | .sdc1 base ft offset => iType 61 base ft offset
  | .addi rs rt imm => iType 8 rs rt imm
  | .daddi rs rt imm => iType 24 rs rt imm
  | .addiu rs rt imm => iType 9 rs rt imm
  | .daddiu rs rt imm => iType 25 rs rt imm
  | .slti rs rt imm => iType 10 rs rt imm
  | .sltiu rs rt imm => iType 11 rs rt imm
  | .andi rs rt imm => iType 12 rs rt imm
  | .ori rs rt imm => iType 13 rs rt imm
  | .xori rs rt imm => iType 14 rs rt imm
  | .lui rt imm => iType 15 0 rt imm
  | .add rs rt rd => rType 0 rs rt rd 0 32
  | .addu rs rt rd => rType 0 rs rt rd 0 33
  | .sub rs rt rd => rType 0 rs rt rd 0 34
  | .subu rs rt rd => rType 0 rs rt rd 0 35
  | .dadd rs rt rd => rType 0 rs rt rd 0 44
  | .daddu rs rt rd => rType 0 rs rt rd 0 45
  | .dsub rs rt rd => rType 0 rs rt rd 0 46
  | .dsubu rs rt rd => rType 0 rs rt rd 0 47
  | .slt rs rt rd => rType 0 rs rt rd 0 42
  | .sltu rs rt rd => rType 0 rs rt rd 0 43
  | .and rs rt rd => rType 0 rs rt rd 0 36
  | .or rs rt rd => rType 0 rs rt rd 0 37
  | .xor rs rt rd => rType 0 rs rt rd 0 38
  | .nor rs rt rd => rType 0 rs rt rd 0 39
  | .movz rs rt rd => rType 0 rs rt rd 0 10
  | .movn rs rt rd => rType 0 rs rt rd 0 11
  | .mult rs rt => rType 0 rs rt 0 0 24
  | .multu rs rt => rType 0 rs rt 0 0 25
  | .dmult rs rt => rType 0 rs rt 0 0 28
  | .dmultu rs rt => rType 0 rs rt 0 0 29
  | .div rs rt => rType 0 rs rt 0 0 26
  | .divu rs rt => rType 0 rs rt 0 0 27
  | .ddiv rs rt => rType 0 rs rt 0 0 30
  | .ddivu rs rt => rType 0 rs rt 0 0 31
  | .mfhi rd => rType 0 0 0 rd 0 16
  | .mthi rs => rType 0 rs 0 0 0 17
  | .mflo rd => rType 0 0 0 rd 0 18
  | .mtlo rs => rType 0 rs 0 0 0 19
  | .multg rs rt rd => rType 28 rs rt rd 0 16
  | .multug rs rt rd => rType 28 rs rt rd 0 18
  | .dmultg rs rt rd => rType 28 rs rt rd 0 17
  | .dmultug rs rt rd => rType 28 rs rt rd 0 19
  | .divg rs rt rd => rType 28 rs rt rd 0 20
  | .divug rs rt rd => rType 28 rs rt rd 0 22
  | .ddivg rs rt rd => rType 28 rs rt rd 0 21
  | .ddivug rs rt rd => rType 28 rs rt rd 0 23
  | .modg rs rt rd => rType 28 rs rt rd 0 28
  | .modug rs rt rd => rType 28 rs rt rd 0 30
  | .dmodg rs rt rd => rType 28 rs rt rd 0 29
  | .dmodug rs rt rd => rType 28 rs rt rd 0 31
  | .j target => jType 2 target
  | .jal target => jType 3 target
  | .jr rs hint => rType 0 rs 0 0 hint 8
  | .jalr rs rd hint => rType 0 rs 0 rd hint 9
  | .beq rs rt offset => iType 4 rs rt offset
  | .bne rs rt offset => iType 5 rs rt offset
  | .blez rs offset => iType 6 rs 0 offset
  | .bgtz rs offset => iType 7 rs 0 offset
  | .bltz rs offset => iType 1 rs 0 offset
  | .bgez rs offset => iType 1 rs 1 offset
  | .bltzal rs offset => iType 1 rs 16 offset
  | .bgezal rs offset => iType 1 rs 17 offset
  | .beql rs rt offset => iType 20 rs rt offset
  | .bnel rs rt offset => iType 21 rs rt offset
  | .blezl rs offset => iType 22 rs 0 offset
  | .bgtzl rs offset => iType 23 rs 0 offset
  | .bltzl rs offset => iType 1 rs 2 offset
  | .bgezl rs offset => iType 1 rs 3 offset
  | .bltzall rs offset => iType 1 rs 18 offset
  | .bgezall rs offset => iType 1 rs 19 offset
  | .sll rt rd sa => rType 0 0 rt rd sa 0
  | .srl rt rd sa => rType 0 0 rt rd sa 2
  | .sra rt rd sa => rType 0 0 rt rd sa 3
  | .dsll rt rd sa => rType 0 0 rt rd sa 56
  | .dsrl rt rd sa => rType 0 0 rt rd sa 58
  | .dsra rt rd sa => rType 0 0 rt rd sa 59
  | .dsll32 rt rd sa => rType 0 0 rt rd sa 60
  | .dsrl32 rt rd sa => rType 0 0 rt rd sa 62
  | .dsra32 rt rd sa => rType 0 0 rt rd sa 63
  | .sllv rs rt rd => rType 0 rs rt rd 0 4
  | .srlv rs rt rd => rType 0 rs rt rd 0 6
  | .srav rs rt rd => rType 0 rs rt rd 0 7
  | .dsllv rs rt rd => rType 0 rs rt rd 0 20
  | .dsrlv rs rt rd => rType 0 rs rt rd 0 22
  | .dsrav rs rt rd => rType 0 rs rt rd 0 23
  | .syscall code => codeType 0 code 12
  | .break_ code => codeType 0 code 13
  | .sync stype => rType 0 0 0 0 stype 15
  | .tge rs rt code => trapType 0 rs rt code 48
  | .tgeu rs rt code => trapType 0 rs rt code 49
  | .tlt rs rt code => trapType 0 rs rt code 50
  | .tltu rs rt code => trapType 0 rs rt code 51
  | .teq rs rt code => trapType 0 rs rt code 52
  | .tne rs rt code => trapType 0 rs rt code 54
  | .tgei rs imm => iType 1 rs 8 imm
  | .tgeiu rs imm => iType 1 rs 9 imm
  | .tlti rs imm => iType 1 rs 10 imm
  | .tltiu rs imm => iType 1 rs 11 imm
  | .teqi rs imm => iType 1 rs 12 imm
  | .tnei rs imm => iType 1 rs 14 imm
  | .dmfc0 rt rd => rType 16 1 rt rd 0 0
  | .dmtc0 rt rd => rType 16 5 rt rd 0 0
  | .mfc0 rt rd => rType 16 0 rt rd 0 0
  | .mtc0 rt rd => rType 16 4 rt rd 0 0
  | .tlbp => rType 16 16 0 0 0 8
  | .tlbr => rType 16 16 0 0 0 1
  | .tlbwi => rType 16 16 0 0 0 2
  | .tlbwr => rType 16 16 0 0 0 6
  | .eret => rType 16 16 0 0 0 24
  | .cache base op offset => iType 47 base op offset
  | .cache_index_invalidate_i base offset => iType 47 base 0 offset
  | .cache_index_writeback_invalidate_d base offset => iType 47 base 1 offset
  | .cache_index_load_tag_d base offset => iType 47 base 5 offset
  | .cache_index_store_tag_d base offset => iType 47 base 9 offset
  | .cache_hit_invalidate_d base offset => iType 47 base 17 offset
  | .cache_hit_writeback_invalidate_d base offset => iType 47 base 21 offset
  | .cache_index_load_data_d base offset => iType 47 base 25 offset
  | .cache_index_store_data_d base offset => iType 47 base 29 offset
  | .cache_index_writeback_invalidate_s base offset => iType 47 base 3 offset
  | .cache_index_load_tag_s base offset => iType 47 base 7 offset
  | .cache_index_store_tag_s base offset => iType 47 base 11 offset
  | .cache_hit_invalidate_s base offset => iType 47 base 19 offset
  | .cache_hit_writeback_invalidate_s base offset => iType 47 base 23 offset
  | .cache_index_load_data_s base offset => iType 47 base 27 offset
  | .cache_index_store_data_s base offset => iType 47 base 31 offset
  | .add_s ft fs fd => rType 17 16 ft fs fd 0
  | .add_d ft fs fd => rType 17 17 ft fs fd 0
  | .sub_s ft fs fd => rType 17 16 ft fs fd 1
  | .sub_d ft fs fd => rType 17 17 ft fs fd 1
  | .mul_s ft fs fd => rType 17 16 ft fs fd 2
  | .mul_d ft fs fd => rType 17 17 ft fs fd 2
  | .div_s ft fs fd => rType 17 16 ft fs fd 3
  | .div_d ft fs fd => rType 17 17 ft fs fd 3
  | .sqrt_s fs fd => rType 17 16 0 fs fd 4
  | .sqrt_d fs fd => rType 17 17 0 fs fd 4
  | .abs_s fs fd => rType 17 16 0 fs fd 5
  | .abs_d fs fd => rType 17 17 0 fs fd 5
  | .mov_s fs fd => rType 17 16 0 fs fd 6
  | .mov_d fs fd => rType 17 17 0 fs fd 6
  | .neg_s fs fd => rType 17 16 0 fs fd 7
  | .neg_d fs fd => rType 17 17 0 fs fd 7
  | .round_l_s fs fd => rType 17 16 0 fs fd 8
  | .round_l_d fs fd => rType 17 17 0 fs fd 8
  | .trunc_l_s fs fd => rType 17 16 0 fs fd 9
  | .trunc_l_d fs fd => rType 17 17 0 fs fd 9
  | .ceil_l_s fs fd => rType 17 16 0 fs fd 10
  | .ceil_l_d fs fd => rType 17 17 0 fs fd 10
  | .floor_l_s fs fd => rType 17 16 0 fs fd 11
  | .floor_l_d fs fd => rType 17 17 0 fs fd 11
  | .round_w_s fs fd => rType 17 16 0 fs fd 12
  | .round_w_d fs fd => rType 17 17 0 fs fd 12
  | .trunc_w_s fs fd => rType 17 16 0 fs fd 13
  | .trunc_w_d fs fd => rType 17 17 0 fs fd 13
  | .ceil_w_s fs fd => rType 17 16 0 fs fd 14
  | .ceil_w_d fs fd => rType 17 17 0 fs fd 14
  | .floor_w_s fs fd => rType 17 16 0 fs fd 15
  | .floor_w_d fs fd => rType 17 17 0 fs fd 15
  | .cvt_w_s fs fd => rType 17 16 0 fs fd 36
  | .cvt_w_d fs fd => rType 17 17 0 fs fd 36
  | .cvt_l_s fs fd => rType 17 16 0 fs fd 37
  | .cvt_l_d fs fd => rType 17 17 0 fs fd 37
  | .cvt_s_d fs fd => rType 17 17 0 fs fd 32
  | .cvt_s_w fs fd => rType 17 20 0 fs fd 32
  | .cvt_s_l fs fd => rType 17 21 0 fs fd 32
  | .cvt_d_s fs fd => rType 17 16 0 fs fd 33
  | .cvt_d_w fs fd => rType 17 20 0 fs fd 33
  | .cvt_d_l fs fd => rType 17 21 0 fs fd 33
  | .c_f_s ft fs => rType 17 16 ft fs 0 48
  | .c_f_d ft fs => rType 17 17 ft fs 0 48
  | .c_un_s ft fs => rType 17 16 ft fs 0 49
  | .c_un_d ft fs => rType 17 17 ft fs 0 49
  | .c_eq_s ft fs => rType 17 16 ft fs 0 50
  | .c_eq_d ft fs => rType 17 17 ft fs 0 50
  | .c_ueq_s ft fs => rType 17 16 ft fs 0 51
  | .c_ueq_d ft fs => rType 17 17 ft fs 0 51
  | .c_olt_s ft fs => rType 17 16 ft fs 0 52
  | .c_olt_d ft fs => rType 17 17 ft fs 0 52
  | .c_ult_s ft fs => rType 17 16 ft fs 0 53
  | .c_ult_d ft fs => rType 17 17 ft fs 0 53
  | .c_ole_s ft fs => rType 17 16 ft fs 0 54
  | .c_ole_d ft fs => rType 17 17 ft fs 0 54
  | .c_ule_s ft fs => rType 17 16 ft fs 0 55
  | .c_ule_d ft fs => rType 17 17 ft fs 0 55
  | .c_sf_s ft fs => rType 17 16 ft fs 0 56
  | .c_sf_d ft fs => rType 17 17 ft fs 0 56
  | .c_ngle_s ft fs => rType 17 16 ft fs 0 57
  | .c_ngle_d ft fs => rType 17 17 ft fs 0 57
  | .c_seq_s ft fs => rType 17 16 ft fs 0 58
  | .c_seq_d ft fs => rType 17 17 ft fs 0 58
  | .c_ngl_s ft fs => rType 17 16 ft fs 0 59
  | .c_ngl_d ft fs => rType 17 17 ft fs 0 59
  | .c_lt_s ft fs => rType 17 16 ft fs 0 60
  | .c_lt_d ft fs => rType 17 17 ft fs 0 60
  | .c_nge_s ft fs => rType 17 16 ft fs 0 61
  | .c_nge_d ft fs => rType 17 17 ft fs 0 61
  | .c_le_s ft fs => rType 17 16 ft fs 0 62
  | .c_le_d ft fs => rType 17 17 ft fs 0 62
  | .c_ngt_s ft fs => rType 17 16 ft fs 0 63
  | .c_ngt_d ft fs => rType 17 17 ft fs 0 63
  | .mfc1 rt fs => rType 17 0 rt fs 0 0
  | .mtc1 rt fs => rType 17 4 rt fs 0 0
  | .dmfc1 rt fs => rType 17 1 rt fs 0 0
  | .dmtc1 rt fs => rType 17 5 rt fs 0 0
  | .cfc1 rt fs => rType 17 2 rt fs 0 0
  | .ctc1 rt fs => rType 17 6 rt fs 0 0
  | .bc1f offset => iType 17 8 0 offset
  | .bc1t offset => iType 17 8 1 offset
  | .bc1fl offset => iType 17 8 2 offset
  | .bc1tl offset => iType 17 8 3 offset
  | .add_ps ft fs fd => rType 17 22 ft fs fd 0
  | .sub_ps ft fs fd => rType 17 22 ft fs fd 1
  | .mul_ps ft fs fd => rType 17 22 ft fs fd 2
  | .abs_ps fs fd => rType 17 22 0 fs fd 5
  | .mov_ps fs fd => rType 17 22 0 fs fd 6
  | .neg_ps fs fd => rType 17 22 0 fs fd 7
  | .c_f_ps ft fs => rType 17 22 ft fs 0 48
  | .c_un_ps ft fs => rType 17 22 ft fs 0 49
  | .c_eq_ps ft fs => rType 17 22 ft fs 0 50
  | .c_ueq_ps ft fs => rType 17 22 ft fs 0 51
  | .c_olt_ps ft fs => rType 17 22 ft fs 0 52
  | .c_ult_ps ft fs => rType 17 22 ft fs 0 53
  | .c_ole_ps ft fs => rType 17 22 ft fs 0 54
  | .c_ule_ps ft fs => rType 17 22 ft fs 0 55
  | .c_sf_ps ft fs => rType 17 22 ft fs 0 56
  | .c_ngle_ps ft fs => rType 17 22 ft fs 0 57
  | .c_seq_ps ft fs => rType 17 22 ft fs 0 58
  | .c_ngl_ps ft fs => rType 17 22 ft fs 0 59
  | .c_lt_ps ft fs => rType 17 22 ft fs 0 60
  | .c_nge_ps ft fs => rType 17 22 ft fs 0 61
  | .c_le_ps ft fs => rType 17 22 ft fs 0 62
  | .c_ngt_ps ft fs => rType 17 22 ft fs 0 63
  | .madd_s ft fs fd => rType 28 16 ft fs fd 24
  | .madd_d ft fs fd => rType 28 17 ft fs fd 24
  | .madd_ps ft fs fd => rType 28 11 ft fs fd 24
  | .msub_s ft fs fd => rType 28 16 ft fs fd 25
  | .msub_d ft fs fd => rType 28 17 ft fs fd 25
  | .msub_ps ft fs fd => rType 28 11 ft fs fd 25
  | .nmadd_s ft fs fd => rType 28 16 ft fs fd 26
  | .nmadd_d ft fs fd => rType 28 17 ft fs fd 26
  | .nmadd_ps ft fs fd => rType 28 11 ft fs fd 26
  | .nmsub_s ft fs fd => rType 28 16 ft fs fd 27
  | .nmsub_d ft fs fd => rType 28 17 ft fs fd 27
  | .nmsub_ps ft fs fd => rType 28 11 ft fs fd 27

/-- The bytes of an instruction as memory holds them, the lowest address first (R170). -/
def encodeBytes (i : Instr) : List Byte :=
  let w := encode i
  [w.extractLsb' 0 8, w.extractLsb' 8 8, w.extractLsb' 16 8, w.extractLsb' 24 8]

/-- The bytes of the 32-bit word `w mod 2^32`, the lowest address first: how the hardware stores it (R101). -/
def bytesOfNat (w : Nat) : List Byte :=
  let v := BitVec.ofNat 32 w
  [v.extractLsb' 0 8, v.extractLsb' 8 8, v.extractLsb' 16 8, v.extractLsb' 24 8]

/-- The instruction the decoder reads from the instruction whose bits are `w`, numbered as the opcode table numbers
them; bits at and above `nbits` are zero. -/
noncomputable def decodeTableWord (nbits w : Nat) : Option Instr :=
  match decodeBytes (bytesOfNat (w % 2 ^ nbits)) with
  | .ok (i, _) => some i
  | .error _ => none

end Sys2Proof
end

