-- ==== Sys2Proof/Machine/Fetch.lean ====
section
/-! DEFINITION. Fetching the instruction at the program counter (R24, R128, R130), what a word that is no instruction
does (R180, R181, R183), and placing a word where the fetch reads it. -/

namespace Sys2Proof.Machine

/-! ### The fetch -/

/-- The word at a physical address, by the cache attribute (R141, R142); an uncached fetch, like every uncached access,
empties the gather buffer first (R143, D7). -/
def fetchWord (s : State) (c : BitVec 3) (va : Dword) (pa : BitVec 40) : Res Word :=
  if c = 3 then fetchCached s va pa
  else (flushGather s).bind fun _ s =>
    if s.busErrorAt pa true then .raise (.busError true) s
    else (physRead s pa 4).bind fun bytes s => .ok (ofBytes 32 bytes) s

/-- MemRead(pc, 4) with kind fetch (R130): the word, and the state in which the instruction runs.  An exception leaves
no effect, so that an uncached fetch that ends in a bus error has not written the gather buffer out: a DESIGN CHOICE
(notes/assumptions/26.md).  The instruction draws other free values than its fetch (notes/assumptions/10.md).  Every instruction is
fetched in its own step, so none is stale after a store or a CACHE operation (R158, D8; notes/assumptions/59.md). -/
def fetch (s : State) : Res Word :=
  ((if aligned s.pc 4 then translate s .fetch s.pc else .raise (.addressError false s.pc) s).bind fun r s =>
    (fetchWord s r.2 s.pc r.1).bind fun w s => .ok w { s with stamp := s.stamp + 1 }).precise s

/-! ### Words that are no instruction -/

/-- What a word that no row of the opcode table matches does: a reserved instruction, after the usability check of its
coprocessor (R183); Unimplemented for coprocessor 1 (R178); the multimedia words of coprocessor 2 are outside the
spec when CU2 is 1 (R181). -/
def rejected (r : Reject) (s : State) : Res Unit :=
  match r with
  | .reserved => .raise .reservedInstruction s
  | .truncated => .raise .reservedInstruction s
  | .reservedCop0 => (checkCp0 s).bind fun _ s => .raise .reservedInstruction s
  | .reservedCop1 =>
    (checkCp1 s).bind fun _ s => .raise .floatingPoint (s.setFcr31 (withCause s.fcr31 condE))
  | .cop2 => if s.cu 2 then .refuse .coprocessor2 else .raise (.coprocessorUnusable 2) s

/-! ### Placing a word where the next fetch reads it -/

/-- Store bytes where a cacheless fetch through a physical address reads them: BOOT_ROM and DDR2 hold bytes. -/
def placeBytes (s : State) (pa : BitVec 40) (bytes : List Byte) : State :=
  match s.route pa with
  | .ddr a => { s with mem := writeBytes s.mem a bytes }
  | .io a =>
    match s.region a with
    | .bootRom offset => { s with rom := writeBytes s.rom offset bytes }
    | _ => s
  | _ => s

/-- Store a word where the next fetch reads it, in the caches too when they hold its line. -/
def placeWord (s : State) (bytes : List Byte) : State :=
  match translate s .fetch s.pc with
  | .ok (pa, c) _ =>
    let s1 := placeBytes s pa bytes
    if c = 3 then
      let s2 := match s1.iHit s1.pc pa with
        | some k => s1.setILine k
            { s1.iLine k with data := insertBytes (s1.iLine k).data (pa.toNat % 32) bytes }
        | none => s1
      match s2.sHit pa with
      | some k => s2.setSLine k
          { s2.sLine k with data := insertBytes (s2.sLine k).data (pa.toNat % 32) bytes }
      | none => s2
    else s1
  | _ => s

end Sys2Proof.Machine
end

