-- ==== Sys2Proof/Machine/Clock.lean ====
section
/-! DEFINITION. What one instruction advances besides its own effect: Random, Count and the timer, the performance
counters, the DDR2 initialisation, the time to the next event, the pulse latches; and the stand-by state. -/

namespace Sys2Proof.Machine

/-! ### Random (R32, R36; notes/assumptions/12.md) -/

/-- Random after an instruction: one less, from Wired on to 63. -/
def nextRandom (random wired : BitVec 6) : BitVec 6 := if random ≤ wired then 63 else random - 1

/-- Whether an instruction writes Wired, which sets Random to 63 instead. -/
def writesWired : Instr → Bool
  | .mtc0 _ rd => rd == 6
  | .dmtc0 _ rd => rd == 6
  | _ => false

/-! ### Count and the timer (R38, R39; notes/assumptions/11.md) -/

/-- Whether counting `n` times from `count` on passes `compare`. -/
def passes (count compare : Word) (n : Nat) : Bool := decide ((compare - count - 1).toNat < n)

/-- Count advances once for every second of `cycles` clock cycles; the timer interrupt is requested when it reaches
Compare. -/
def Cp0.countCycles (c : Cp0) (cycles : Nat) : Cp0 :=
  let total := cycles + (if c.countPhase then 1 else 0)
  { c with
    count := c.count + BitVec.ofNat 32 (total / 2)
    countPhase := total % 2 == 1
    cause := { c.cause with timer := c.cause.timer || passes c.count c.compare (total / 2) } }

/-! ### The performance counters (R52 to R55; notes/assumptions/39.md) -/

/-- Whether the counters count in a state: an enabled qualifier holds, and ERL is 0. -/
def State.perfCounting (s : State) : Bool :=
  let q := s.cp0.perfControl
  !s.erl &&
    ((s.exl && q.getLsbD 0) ||
      (!s.exl && ((s.ksu == 0 && q.getLsbD 1) || (s.ksu == 1 && q.getLsbD 2) || (s.ksu == 2 && q.getLsbD 3))))

/-- The exceptions of one step as a count: at most one. -/
def tookException (e : Option Exc) : Word := if e.isSome then 1 else 0

/-- The occurrences of the event counter 0 selects (R54); which exceptions event 1111 means is open, so that it draws a
free value like the events of the pipeline: a DESIGN CHOICE (notes/assumptions/39.md). -/
def State.event0 (s : State) (event : BitVec 4) (cycles : Nat) : Word :=
  match event.toNat with
  | 0 => BitVec.ofNat 32 cycles
  | 13 => if (s.taken.map Exc.isRefill).getD false then 1 else 0
  | 14 => tookException s.taken
  | _ => (s.free .event0 0).setWidth 32

/-- The occurrences of the event counter 1 selects (R55). -/
def State.event1 (s : State) (event : BitVec 4) : Word :=
  match event.toNat with
  | 0 => 1 - tookException s.taken
  | 13 => tookException s.taken
  | _ => (s.free .event1 0).setWidth 32

/-- The counters after a step that began in `before`. -/
def State.countEvents (before s : State) (cycles : Nat) : State :=
  if before.perfCounting then
    let control := before.cp0.perfControl
    { s with cp0 := { s.cp0 with
        perf0 := s.cp0.perf0 + s.event0 (control.extractLsb' 5 4) cycles
        perf1 := s.cp0.perf1 + s.event1 (control.extractLsb' 9 4) } }
  else s

/-! ### The devices -/

/-- One instruction of the DDR2 initialisation (R774). -/
def State.ddrTick (s : State) : State :=
  match s.ddr.initLeft with
  | none => s
  | some 0 => s.ddrInitDone
  | some (n + 1) => { s with ddr := { s.ddr with initLeft := some n } }

/-- CONF_CTL_03.START. -/
def State.ddrStartBit (s : State) : Bool := (s.ddrCtl 3).getLsbD 40

/-- The DDR2 initialisation after an instruction that began in `before`: the store that sets START is not one of the
further instructions that R774 counts.  DESIGN CHOICE: a step that takes an interrupt or another exception counts as one
instruction (notes/assumptions/40.md). -/
def State.ddrCount (before s : State) : State := if !before.ddrStartBit && s.ddrStartBit then s else s.ddrTick

/-- What happens at every boundary outside the core: the pulse latches, and new free values. -/
def State.deviceTick (s : State) : State :=
  let t := s.latchLines
  { t with stamp := t.stamp + 1 }

/-- The next event is one instruction nearer (R79).  DESIGN CHOICE: a step that takes an interrupt in an instruction's
place counts as one instruction (notes/assumptions/14.md). -/
def tickEvents : List TimedEvent → List TimedEvent
  | [] => []
  | e :: rest => { e with after := e.after - 1 } :: rest

/-! ### The boundary after an instruction -/

/-- How many instructions the interrupt condition has held for, after a step that began in `before` (R670). -/
def State.irqHeldAfter (before s : State) : Nat :=
  if before.interruptPending && s.taken != some .interrupt then before.irqHeld + 1 else 0

/-- What an instruction advances, from the state `before` it to the state it reached: Random if it completed, Count,
the counters, the DDR2 initialisation, the time to the next event, the devices. -/
def commit (before s : State) (keepRandom : Bool) : State :=
  let cycles := Config.cycles s.stamp
  let s1 :=
    if s.taken.isSome || keepRandom then s
    else s.setCp0 { s.cp0 with random := nextRandom s.cp0.random s.cp0.wired }
  let s2 := s1.setCp0 (s1.cp0.countCycles cycles)
  let s3 := State.ddrCount before (State.countEvents before s2 cycles)
  State.deviceTick { s3 with irqHeld := State.irqHeldAfter before s, events := tickEvents s3.events }

/-- The outcome of a step with the instruction's own effect completed by `commit`.  An interrupt that was due before the
instruction is taken in its place, unless the instruction raises an exception, which has the higher
priority (R635, R657, R670; notes/assumptions/13.md). -/
def settle (before : State) (keepRandom : Bool) (o : Outcome) :
    Outcome :=
  match o with
  | .next t =>
    if before.interruptDue && t.taken.isNone then
      .next (commit before (takeException .interrupt before) keepRandom)
    else .next (commit before t keepRandom)
  | stop =>
    if before.interruptDue then .next (commit before (takeException .interrupt before) keepRandom) else stop

/-! ### Stand-by (R731; notes/assumptions/48.md) -/

/-- Whether the core clock stands still. -/
def State.standingBy (s : State) : Bool := s.freqScale == 0

/-- A boundary in stand-by: one of IP6 to IP2 sets Freq_scale to 1; otherwise only the devices and the time to the next
event go on.  An event from outside is a step of its own in stand-by too (`step`).  DESIGN CHOICE: so are an NMI, a soft
reset, a speculative fetch and an eviction, and they do not start the clock. -/
def standBy (s : State) : State :=
  let t := { s with events := tickEvents s.events }
  if s.causeIp.extractLsb' 2 5 != 0 then (t.setReg 32 ((s.reg 32 &&& ~~~(7 : Word)) ||| 1)).deviceTick
  else t.deviceTick

end Sys2Proof.Machine
end

