-- ==== Sys2Proof/Machine/Events.lean ====
section
/-! DEFINITION. What the outside world does to the machine (R79, R146, R702, R712, R713, R781, R790 to R792, R806).
Each event is a step of its own, between two instructions (notes/assumptions/14.md); no event is an exception that the
performance counters count (notes/assumptions/39.md). -/

namespace Sys2Proof.Machine

/-! ### Resets -/

/-- A cold reset (R790): the reset state, with ErrorEPC the old pc; the parameters, the boot ROM, the lines from outside
and what the host has said stay. -/
def coldReset (s : State) : State :=
  { State.resetWith s.params with
    cp0 := { Cp0.reset with errorEpc := s.pc }
    rom := s.rom
    pins := s.pins
    busErr := s.busErr
    busLog := s.busLog
    events := s.events
    stamp := s.stamp }

/-- A soft reset (R637, R791): an NMI that also clears the external interrupt requests, which are latched pulses.  Like
an NMI it does not wake a core in stand-by: a DESIGN CHOICE (notes/assumptions/48.md). -/
def softReset (s : State) : State :=
  let t := takeNmi s
  { t with io := { t.io with pulse := 0 } }

/-! ### Reports of the DDR2 and PCI controllers -/

/-- The bits that a bit error flips in doubleword `d`, somewhere among its 64 data and 8 check bits (R781). -/
def State.errorBits (s : State) (d : Nat) (twoBits : Bool) : BitVec 72 :=
  let first := (s.free .flippedBits (2 * d)).toNat % 72
  let second := (first + 1 + (s.free .flippedBits (2 * d + 1)).toNat % 71) % 72
  ((1 : BitVec 72) <<< first) ^^^ (if twoBits then (1 : BitVec 72) <<< second else 0)

/-- `DDR_BIT_ERROR` (R781): an error in the doubleword at an address, which a later read finds.  Before initialisation
and beyond the fitted memory nothing changes: a DESIGN CHOICE (notes/assumptions/40.md). -/
def ddrBitError (s : State) (a : Nat) (twoBits : Bool) : State :=
  if s.ddr.ready && decide (a < s.ddrSize) then
    { s with ddr := { s.ddr with
        flips := cellSet 0 s.ddr.flips (a / 8) (s.flipsAt (a / 8) ^^^ s.errorBits (a / 8) twoBits) } }
  else s

/-- An error on the address channel: PORT_CMD_ERROR_ADDR, TYPE and ID and cause 6 (R776, R778, R780).  A
later one overwrites what the earlier one recorded: a DESIGN CHOICE (notes/assumptions/40.md). -/
def ddrCommandError (s : State) (addr : BitVec 37) (kind id : BitVec 4) : State :=
  let s1 := s.ddrField 24 0x1FFFFFFFFF (addr.setWidth 64)
  let s2 := s1.ddrField 9 0x00000000000F0F00 (kind.setWidth 64 <<< 16 ||| id.setWidth 64 <<< 8)
  s2.ddrField 16 0x0040000000000000 0x0040000000000000

/-- An error on the data channel: PORT_DATA_ERROR_TYPE and ID and cause 7 (R776, R780).  A later one
overwrites what the earlier one, or a 2-bit error, recorded: a DESIGN CHOICE (notes/assumptions/40.md). -/
def ddrDataError (s : State) (kind : BitVec 3) (id : BitVec 4) : State :=
  let s1 := s.ddrField 5 0x0007000000000000 (kind.setWidth 64 <<< 48)
  let s2 := s1.ddrField 9 0x000000000F000000 (id.setWidth 64 <<< 24)
  s2.ddrField 16 0x0080000000000000 0x0080000000000000

/-- The DLL locks, or loses its lock with cause 9 (R774, R777, R780).  DESIGN CHOICE: memory that was ready still serves
accesses while the lock is lost, and DLL_LOCK, which has a meaning only while the DLL is locked, takes a free value when
the lock is lost and holds it until the next lock (notes/assumptions/40.md). -/
def ddrLock (s : State) (locked : Bool) : State :=
  if locked then s.ddrDllLock
  else ((s.ddrField 1 1 0).ddrDelayElements).ddrField 16 0x0200000000000000 0x0200000000000000

/-- The bits of the PCI header that follow the state of the controller: the unfinished requests and the description of
the last error (R707, R708). -/
def headerStatus (n : Nat) : Word :=
  match n with
  | 18 => 0xFFFFFFFF
  | 19 => 0x00FFC000
  | 20 => 0xFFFFFFFF
  | _ => 0

/-- The bits of the PCI header that the controller sets by itself (R705 to R710). -/
def headerReported (n : Nat) : Word :=
  match n with
  | 1 => 0xF9000000
  | 16 => 0xC0000000
  | 18 => 0xFFFFFFFF
  | 19 => 0x00FFF800
  | 20 => 0xFFFFFFFF
  | 21 => 0xFFFFFFFF
  | 22 => 0x00030000
  | _ => 0

/-- The PCI controller reports the bits under a mask: a status takes the new value, a flag that is reported is set. -/
def headerReport (s : State) (word : BitVec 6) (mask value : Word) : State :=
  let flags := value &&& mask &&& headerReported word.toNat
  s.setHeader word.toFin ((s.header word.toFin &&& ~~~(mask &&& headerStatus word.toNat)) ||| flags)

/-! ### All events -/

/-- The effect of one event; a soft reset needs a platform that can raise one, `HAS_SOFT_RESET` (R791). -/
def hostEvent (e : HostEvent) (s : State) : Res Unit :=
  match e with
  | .setPins p => .ok () { s with pins := p }
  | .nmi => .ok () (takeNmi s)
  | .softReset => .ok () (if s.params.hasSoftReset then softReset s else s)
  | .coldReset => .ok () (coldReset s)
  | .dmaWrite addr bytes => dmaWrite s addr bytes
  | .dmaRead addr count => dmaRead s addr count
  | .ddrBitError addr twoBits => .ok () (ddrBitError s addr twoBits)
  | .ddrCommandError addr kind id => .ok () (ddrCommandError s addr kind id)
  | .ddrDataError kind id => .ok () (ddrDataError s kind id)
  | .ddrLock locked => .ok () (ddrLock s locked)
  | .headerReport word mask value => .ok () (headerReport s word mask value)
  | .arbiterStatus status => .ok () (s.setReg 27 (status &&& 0x7FF))
  | .speculativeFetch pa =>
    if s.mode == some .kernel then (physRead s pa 4).bind fun _ s => .ok () s else .ok () s
  | .evictInstruction set way => .ok () (s.invalidateI (lineKey set.toNat way.toNat))
  | .evictData set way => evictData s (lineKey set.toNat way.toNat)
  | .evictSecondary set way => evictSecondary s (lineKey set.toNat way.toNat) true

/-- A step in which the outside world acts: the event leaves the queue and has its effect.  An NMI and a soft reset are
not counted as exceptions by the performance counters: a DESIGN CHOICE (R54; notes/assumptions/39.md). -/
def eventStep (e : HostEvent) (rest : List TimedEvent) (s : State) : Outcome :=
  ((hostEvent e { s with events := rest, taken := none }).bind fun _ s => .ok () s.deviceTick).outcome

end Sys2Proof.Machine
end

