-- ==== Sys2Proof/Machine/Step.lean ====
section
/-! DEFINITION. One step of the machine: an event from outside, or a boundary in stand-by, or one instruction with an
interrupt in its place when one is pending. -/

namespace Sys2Proof.Machine

/-- What a fetched word does, and whether Random is set by it instead of counting down. -/
noncomputable def runWord (w : Word) (s : State) : Outcome × Bool :=
  match decodeFor s.params.gsOpcodes w with
  | .ok i => (exec i s, writesWired i)
  | .error r => ((rejected r s).outcome, false)

/-- The instruction at the program counter: fetch, decode, run. -/
noncomputable def runInstruction (s : State) : Outcome × Bool :=
  match fetch s with
  | .ok w t => runWord w t
  | .raise e t => (.next (takeException e t), false)
  | .fault f => (.fault f, false)
  | .refuse r => (.refused r, false)

/-- An instruction step from a state in which no exception has been taken yet. -/
noncomputable def instructionStep (s : State) : Outcome :=
  settle s (runInstruction s).2 (runInstruction s).1

/-- A step without an event: a boundary in stand-by, or an instruction. -/
noncomputable def coreStep (s : State) : Outcome :=
  if s.standingBy then .next (standBy { s with taken := none })
  else instructionStep { s with taken := none }

/-- One step (notes/assumptions/14.md says what a step is): the next event once its time has come, else the core. -/
noncomputable def step (s : State) : Host.Outcome State Fault Refusal :=
  match s.events with
  | e :: rest => if e.after = 0 then eventStep e.event rest s else coreStep s
  | [] => coreStep s

/-- The state with an instruction's bits stored where the next fetch reads them, and nothing in the way of the fetch:
no event waiting, and the core clock running (notes/assumptions/15.md). -/
def State.withFetchWord (s : State) (nbits w : Nat) : State :=
  let s1 := placeWord { s with events := [] } (bytesOfNat (w % 2 ^ nbits))
  if s1.standingBy then s1.setReg 32 (s1.reg 32 ||| 7) else s1

end Sys2Proof.Machine
end

