-- ==== Sys2Proof/Laws/PerInstr.lean ====
section
/-! SUPPORT. The per-instruction family TableRow: the word of every instruction lies in its row of
spec/opcode_table.json. -/

namespace Sys2Proof.Laws

/-! ### The mask and the match word of every row, as the table has them -/

/-- The table's mask of an instruction's row. -/
def TableRow.mask : Instr → Word
  | .lb _ _ _ => 0xFC000000
  | .lbu _ _ _ => 0xFC000000
  | .lh _ _ _ => 0xFC000000
  | .lhu _ _ _ => 0xFC000000
  | .lw _ _ _ => 0xFC000000
  | .lwu _ _ _ => 0xFC000000
  | .ld _ _ _ => 0xFC000000
  | .lwl _ _ _ => 0xFC000000
  | .lwr _ _ _ => 0xFC000000
  | .swl _ _ _ => 0xFC000000
  | .swr _ _ _ => 0xFC000000
  | .ldl _ _ _ => 0xFC000000
  | .ldr _ _ _ => 0xFC000000
  | .sdl _ _ _ => 0xFC000000
  | .sdr _ _ _ => 0xFC000000
  | .sb _ _ _ => 0xFC000000
  | .sh _ _ _ => 0xFC000000
  | .sw _ _ _ => 0xFC000000
  | .sd _ _ _ => 0xFC000000
  | .ll _ _ _ => 0xFC000000
  | .lld _ _ _ => 0xFC000000
  | .sc _ _ _ => 0xFC000000
  | .scd _ _ _ => 0xFC000000
  | .lwc1 _ _ _ => 0xFC000000
  | .ldc1 _ _ _ => 0xFC000000
  | .swc1 _ _ _ => 0xFC000000
  | .sdc1 _ _ _ => 0xFC000000
  | .addi _ _ _ => 0xFC000000
  | .daddi _ _ _ => 0xFC000000
  | .addiu _ _ _ => 0xFC000000
  | .daddiu _ _ _ => 0xFC000000
  | .slti _ _ _ => 0xFC000000
  | .sltiu _ _ _ => 0xFC000000
  | .andi _ _ _ => 0xFC000000
  | .ori _ _ _ => 0xFC000000
  | .xori _ _ _ => 0xFC000000
  | .lui _ _ => 0xFFE00000
  | .add _ _ _ => 0xFC0007FF
  | .addu _ _ _ => 0xFC0007FF
  | .sub _ _ _ => 0xFC0007FF
  | .subu _ _ _ => 0xFC0007FF
  | .dadd _ _ _ => 0xFC0007FF
  | .daddu _ _ _ => 0xFC0007FF
  | .dsub _ _ _ => 0xFC0007FF
  | .dsubu _ _ _ => 0xFC0007FF
  | .slt _ _ _ => 0xFC0007FF
  | .sltu _ _ _ => 0xFC0007FF
  | .and _ _ _ => 0xFC0007FF
  | .or _ _ _ => 0xFC0007FF
  | .xor _ _ _ => 0xFC0007FF
  | .nor _ _ _ => 0xFC0007FF
  | .movz _ _ _ => 0xFC0007FF
  | .movn _ _ _ => 0xFC0007FF
  | .mult _ _ => 0xFC00FFFF
  | .multu _ _ => 0xFC00FFFF
  | .dmult _ _ => 0xFC00FFFF
  | .dmultu _ _ => 0xFC00FFFF
  | .div _ _ => 0xFC00FFFF
  | .divu _ _ => 0xFC00FFFF
  | .ddiv _ _ => 0xFC00FFFF
  | .ddivu _ _ => 0xFC00FFFF
  | .mfhi _ => 0xFFFF07FF
  | .mthi _ => 0xFC1FFFFF
  | .mflo _ => 0xFFFF07FF
  | .mtlo _ => 0xFC1FFFFF
  | .multg _ _ _ => 0xFC0007FF
  | .multug _ _ _ => 0xFC0007FF
  | .dmultg _ _ _ => 0xFC0007FF
  | .dmultug _ _ _ => 0xFC0007FF
  | .divg _ _ _ => 0xFC0007FF
  | .divug _ _ _ => 0xFC0007FF
  | .ddivg _ _ _ => 0xFC0007FF
  | .ddivug _ _ _ => 0xFC0007FF
  | .modg _ _ _ => 0xFC0007FF
  | .modug _ _ _ => 0xFC0007FF
  | .dmodg _ _ _ => 0xFC0007FF
  | .dmodug _ _ _ => 0xFC0007FF
  | .j _ => 0xFC000000
  | .jal _ => 0xFC000000
  | .jr _ _ => 0xFC1FF83F
  | .jalr _ _ _ => 0xFC1F003F
  | .beq _ _ _ => 0xFC000000
  | .bne _ _ _ => 0xFC000000
  | .blez _ _ => 0xFC1F0000
  | .bgtz _ _ => 0xFC1F0000
  | .bltz _ _ => 0xFC1F0000
  | .bgez _ _ => 0xFC1F0000
  | .bltzal _ _ => 0xFC1F0000
  | .bgezal _ _ => 0xFC1F0000
  | .beql _ _ _ => 0xFC000000
  | .bnel _ _ _ => 0xFC000000
  | .blezl _ _ => 0xFC1F0000
  | .bgtzl _ _ => 0xFC1F0000
  | .bltzl _ _ => 0xFC1F0000
  | .bgezl _ _ => 0xFC1F0000
  | .bltzall _ _ => 0xFC1F0000
  | .bgezall _ _ => 0xFC1F0000
  | .sll _ _ _ => 0xFFE0003F
  | .srl _ _ _ => 0xFFE0003F
  | .sra _ _ _ => 0xFFE0003F
  | .dsll _ _ _ => 0xFFE0003F
  | .dsrl _ _ _ => 0xFFE0003F
  | .dsra _ _ _ => 0xFFE0003F
  | .dsll32 _ _ _ => 0xFFE0003F
  | .dsrl32 _ _ _ => 0xFFE0003F
  | .dsra32 _ _ _ => 0xFFE0003F
  | .sllv _ _ _ => 0xFC0007FF
  | .srlv _ _ _ => 0xFC0007FF
  | .srav _ _ _ => 0xFC0007FF
  | .dsllv _ _ _ => 0xFC0007FF
  | .dsrlv _ _ _ => 0xFC0007FF
  | .dsrav _ _ _ => 0xFC0007FF
  | .syscall _ => 0xFC00003F
  | .break_ _ => 0xFC00003F
  | .sync _ => 0xFFFFF83F
  | .tge _ _ _ => 0xFC00003F
  | .tgeu _ _ _ => 0xFC00003F
  | .tlt _ _ _ => 0xFC00003F
  | .tltu _ _ _ => 0xFC00003F
  | .teq _ _ _ => 0xFC00003F
  | .tne _ _ _ => 0xFC00003F
  | .tgei _ _ => 0xFC1F0000
  | .tgeiu _ _ => 0xFC1F0000
  | .tlti _ _ => 0xFC1F0000
  | .tltiu _ _ => 0xFC1F0000
  | .teqi _ _ => 0xFC1F0000
  | .tnei _ _ => 0xFC1F0000
  | .dmfc0 _ _ => 0xFFE007FF
  | .dmtc0 _ _ => 0xFFE007FF
  | .mfc0 _ _ => 0xFFE007FF
  | .mtc0 _ _ => 0xFFE007FF
  | .tlbp => 0xFFFFFFFF
  | .tlbr => 0xFFFFFFFF
  | .tlbwi => 0xFFFFFFFF
  | .tlbwr => 0xFFFFFFFF
  | .eret => 0xFFFFFFFF
  | .cache _ _ _ => 0xFC000000
  | .cache_index_invalidate_i _ _ => 0xFC1F0000
  | .cache_index_writeback_invalidate_d _ _ => 0xFC1F0000
  | .cache_index_load_tag_d _ _ => 0xFC1F0000
  | .cache_index_store_tag_d _ _ => 0xFC1F0000
  | .cache_hit_invalidate_d _ _ => 0xFC1F0000
  | .cache_hit_writeback_invalidate_d _ _ => 0xFC1F0000
  | .cache_index_load_data_d _ _ => 0xFC1F0000
  | .cache_index_store_data_d _ _ => 0xFC1F0000
  | .cache_index_writeback_invalidate_s _ _ => 0xFC1F0000
  | .cache_index_load_tag_s _ _ => 0xFC1F0000
  | .cache_index_store_tag_s _ _ => 0xFC1F0000
  | .cache_hit_invalidate_s _ _ => 0xFC1F0000
  | .cache_hit_writeback_invalidate_s _ _ => 0xFC1F0000
  | .cache_index_load_data_s _ _ => 0xFC1F0000
  | .cache_index_store_data_s _ _ => 0xFC1F0000
  | .add_s _ _ _ => 0xFFE0003F
  | .add_d _ _ _ => 0xFFE0003F
  | .sub_s _ _ _ => 0xFFE0003F
  | .sub_d _ _ _ => 0xFFE0003F
  | .mul_s _ _ _ => 0xFFE0003F
  | .mul_d _ _ _ => 0xFFE0003F
  | .div_s _ _ _ => 0xFFE0003F
  | .div_d _ _ _ => 0xFFE0003F
  | .sqrt_s _ _ => 0xFFFF003F
  | .sqrt_d _ _ => 0xFFFF003F
  | .abs_s _ _ => 0xFFFF003F
  | .abs_d _ _ => 0xFFFF003F
  | .mov_s _ _ => 0xFFFF003F
  | .mov_d _ _ => 0xFFFF003F
  | .neg_s _ _ => 0xFFFF003F
  | .neg_d _ _ => 0xFFFF003F
  | .round_l_s _ _ => 0xFFFF003F
  | .round_l_d _ _ => 0xFFFF003F
  | .trunc_l_s _ _ => 0xFFFF003F
  | .trunc_l_d _ _ => 0xFFFF003F
  | .ceil_l_s _ _ => 0xFFFF003F
  | .ceil_l_d _ _ => 0xFFFF003F
  | .floor_l_s _ _ => 0xFFFF003F
  | .floor_l_d _ _ => 0xFFFF003F
  | .round_w_s _ _ => 0xFFFF003F
  | .round_w_d _ _ => 0xFFFF003F
  | .trunc_w_s _ _ => 0xFFFF003F
  | .trunc_w_d _ _ => 0xFFFF003F
  | .ceil_w_s _ _ => 0xFFFF003F
  | .ceil_w_d _ _ => 0xFFFF003F
  | .floor_w_s _ _ => 0xFFFF003F
  | .floor_w_d _ _ => 0xFFFF003F
  | .cvt_w_s _ _ => 0xFFFF003F
  | .cvt_w_d _ _ => 0xFFFF003F
  | .cvt_l_s _ _ => 0xFFFF003F
  | .cvt_l_d _ _ => 0xFFFF003F
  | .cvt_s_d _ _ => 0xFFFF003F
  | .cvt_s_w _ _ => 0xFFFF003F
  | .cvt_s_l _ _ => 0xFFFF003F
  | .cvt_d_s _ _ => 0xFFFF003F
  | .cvt_d_w _ _ => 0xFFFF003F
  | .cvt_d_l _ _ => 0xFFFF003F
  | .c_f_s _ _ => 0xFFE007FF
  | .c_f_d _ _ => 0xFFE007FF
  | .c_un_s _ _ => 0xFFE007FF
  | .c_un_d _ _ => 0xFFE007FF
  | .c_eq_s _ _ => 0xFFE007FF
  | .c_eq_d _ _ => 0xFFE007FF
  | .c_ueq_s _ _ => 0xFFE007FF
  | .c_ueq_d _ _ => 0xFFE007FF
  | .c_olt_s _ _ => 0xFFE007FF
  | .c_olt_d _ _ => 0xFFE007FF
  | .c_ult_s _ _ => 0xFFE007FF
  | .c_ult_d _ _ => 0xFFE007FF
  | .c_ole_s _ _ => 0xFFE007FF
  | .c_ole_d _ _ => 0xFFE007FF
  | .c_ule_s _ _ => 0xFFE007FF
  | .c_ule_d _ _ => 0xFFE007FF
  | .c_sf_s _ _ => 0xFFE007FF
  | .c_sf_d _ _ => 0xFFE007FF
  | .c_ngle_s _ _ => 0xFFE007FF
  | .c_ngle_d _ _ => 0xFFE007FF
  | .c_seq_s _ _ => 0xFFE007FF
  | .c_seq_d _ _ => 0xFFE007FF
  | .c_ngl_s _ _ => 0xFFE007FF
  | .c_ngl_d _ _ => 0xFFE007FF
  | .c_lt_s _ _ => 0xFFE007FF
  | .c_lt_d _ _ => 0xFFE007FF
  | .c_nge_s _ _ => 0xFFE007FF
  | .c_nge_d _ _ => 0xFFE007FF
  | .c_le_s _ _ => 0xFFE007FF
  | .c_le_d _ _ => 0xFFE007FF
  | .c_ngt_s _ _ => 0xFFE007FF
  | .c_ngt_d _ _ => 0xFFE007FF
  | .mfc1 _ _ => 0xFFE007FF
  | .mtc1 _ _ => 0xFFE007FF
  | .dmfc1 _ _ => 0xFFE007FF
  | .dmtc1 _ _ => 0xFFE007FF
  | .cfc1 _ _ => 0xFFE007FF
  | .ctc1 _ _ => 0xFFE007FF
  | .bc1f _ => 0xFFFF0000
  | .bc1t _ => 0xFFFF0000
  | .bc1fl _ => 0xFFFF0000
  | .bc1tl _ => 0xFFFF0000
  | .add_ps _ _ _ => 0xFFE0003F
  | .sub_ps _ _ _ => 0xFFE0003F
  | .mul_ps _ _ _ => 0xFFE0003F
  | .abs_ps _ _ => 0xFFFF003F
  | .mov_ps _ _ => 0xFFFF003F
  | .neg_ps _ _ => 0xFFFF003F
  | .c_f_ps _ _ => 0xFFE007FF
  | .c_un_ps _ _ => 0xFFE007FF
  | .c_eq_ps _ _ => 0xFFE007FF
  | .c_ueq_ps _ _ => 0xFFE007FF
  | .c_olt_ps _ _ => 0xFFE007FF
  | .c_ult_ps _ _ => 0xFFE007FF
  | .c_ole_ps _ _ => 0xFFE007FF
  | .c_ule_ps _ _ => 0xFFE007FF
  | .c_sf_ps _ _ => 0xFFE007FF
  | .c_ngle_ps _ _ => 0xFFE007FF
  | .c_seq_ps _ _ => 0xFFE007FF
  | .c_ngl_ps _ _ => 0xFFE007FF
  | .c_lt_ps _ _ => 0xFFE007FF
  | .c_nge_ps _ _ => 0xFFE007FF
  | .c_le_ps _ _ => 0xFFE007FF
  | .c_ngt_ps _ _ => 0xFFE007FF
  | .madd_s _ _ _ => 0xFFE0003F
  | .madd_d _ _ _ => 0xFFE0003F
  | .madd_ps _ _ _ => 0xFFE0003F
  | .msub_s _ _ _ => 0xFFE0003F
  | .msub_d _ _ _ => 0xFFE0003F
  | .msub_ps _ _ _ => 0xFFE0003F
  | .nmadd_s _ _ _ => 0xFFE0003F
  | .nmadd_d _ _ _ => 0xFFE0003F
  | .nmadd_ps _ _ _ => 0xFFE0003F
  | .nmsub_s _ _ _ => 0xFFE0003F
  | .nmsub_d _ _ _ => 0xFFE0003F
  | .nmsub_ps _ _ _ => 0xFFE0003F

/-- The table's match word of an instruction's row. -/
def TableRow.row : Instr → Word
  | .lb _ _ _ => 0x80000000
  | .lbu _ _ _ => 0x90000000
  | .lh _ _ _ => 0x84000000
  | .lhu _ _ _ => 0x94000000
  | .lw _ _ _ => 0x8C000000
  | .lwu _ _ _ => 0x9C000000
  | .ld _ _ _ => 0xDC000000
  | .lwl _ _ _ => 0x88000000
  | .lwr _ _ _ => 0x98000000
  | .swl _ _ _ => 0xA8000000
  | .swr _ _ _ => 0xB8000000
  | .ldl _ _ _ => 0x68000000
  | .ldr _ _ _ => 0x6C000000
  | .sdl _ _ _ => 0xB0000000
  | .sdr _ _ _ => 0xB4000000
  | .sb _ _ _ => 0xA0000000
  | .sh _ _ _ => 0xA4000000
  | .sw _ _ _ => 0xAC000000
  | .sd _ _ _ => 0xFC000000
  | .ll _ _ _ => 0xC0000000
  | .lld _ _ _ => 0xD0000000
  | .sc _ _ _ => 0xE0000000
  | .scd _ _ _ => 0xF0000000
  | .lwc1 _ _ _ => 0xC4000000
  | .ldc1 _ _ _ => 0xD4000000
  | .swc1 _ _ _ => 0xE4000000
  | .sdc1 _ _ _ => 0xF4000000
  | .addi _ _ _ => 0x20000000
  | .daddi _ _ _ => 0x60000000
  | .addiu _ _ _ => 0x24000000
  | .daddiu _ _ _ => 0x64000000
  | .slti _ _ _ => 0x28000000
  | .sltiu _ _ _ => 0x2C000000
  | .andi _ _ _ => 0x30000000
  | .ori _ _ _ => 0x34000000
  | .xori _ _ _ => 0x38000000
  | .lui _ _ => 0x3C000000
  | .add _ _ _ => 0x00000020
  | .addu _ _ _ => 0x00000021
  | .sub _ _ _ => 0x00000022
  | .subu _ _ _ => 0x00000023
  | .dadd _ _ _ => 0x0000002C
  | .daddu _ _ _ => 0x0000002D
  | .dsub _ _ _ => 0x0000002E
  | .dsubu _ _ _ => 0x0000002F
  | .slt _ _ _ => 0x0000002A
  | .sltu _ _ _ => 0x0000002B
  | .and _ _ _ => 0x00000024
  | .or _ _ _ => 0x00000025
  | .xor _ _ _ => 0x00000026
  | .nor _ _ _ => 0x00000027
  | .movz _ _ _ => 0x0000000A
  | .movn _ _ _ => 0x0000000B
  | .mult _ _ => 0x00000018
  | .multu _ _ => 0x00000019
  | .dmult _ _ => 0x0000001C
  | .dmultu _ _ => 0x0000001D
  | .div _ _ => 0x0000001A
  | .divu _ _ => 0x0000001B
  | .ddiv _ _ => 0x0000001E
  | .ddivu _ _ => 0x0000001F
  | .mfhi _ => 0x00000010
  | .mthi _ => 0x00000011
  | .mflo _ => 0x00000012
  | .mtlo _ => 0x00000013
  | .multg _ _ _ => 0x70000010
  | .multug _ _ _ => 0x70000012
  | .dmultg _ _ _ => 0x70000011
  | .dmultug _ _ _ => 0x70000013
  | .divg _ _ _ => 0x70000014
  | .divug _ _ _ => 0x70000016
  | .ddivg _ _ _ => 0x70000015
  | .ddivug _ _ _ => 0x70000017
  | .modg _ _ _ => 0x7000001C
  | .modug _ _ _ => 0x7000001E
  | .dmodg _ _ _ => 0x7000001D
  | .dmodug _ _ _ => 0x7000001F
  | .j _ => 0x08000000
  | .jal _ => 0x0C000000
  | .jr _ _ => 0x00000008
  | .jalr _ _ _ => 0x00000009
  | .beq _ _ _ => 0x10000000
  | .bne _ _ _ => 0x14000000
  | .blez _ _ => 0x18000000
  | .bgtz _ _ => 0x1C000000
  | .bltz _ _ => 0x04000000
  | .bgez _ _ => 0x04010000
  | .bltzal _ _ => 0x04100000
  | .bgezal _ _ => 0x04110000
  | .beql _ _ _ => 0x50000000
  | .bnel _ _ _ => 0x54000000
  | .blezl _ _ => 0x58000000
  | .bgtzl _ _ => 0x5C000000
  | .bltzl _ _ => 0x04020000
  | .bgezl _ _ => 0x04030000
  | .bltzall _ _ => 0x04120000
  | .bgezall _ _ => 0x04130000
  | .sll _ _ _ => 0x00000000
  | .srl _ _ _ => 0x00000002
  | .sra _ _ _ => 0x00000003
  | .dsll _ _ _ => 0x00000038
  | .dsrl _ _ _ => 0x0000003A
  | .dsra _ _ _ => 0x0000003B
  | .dsll32 _ _ _ => 0x0000003C
  | .dsrl32 _ _ _ => 0x0000003E
  | .dsra32 _ _ _ => 0x0000003F
  | .sllv _ _ _ => 0x00000004
  | .srlv _ _ _ => 0x00000006
  | .srav _ _ _ => 0x00000007
  | .dsllv _ _ _ => 0x00000014
  | .dsrlv _ _ _ => 0x00000016
  | .dsrav _ _ _ => 0x00000017
  | .syscall _ => 0x0000000C
  | .break_ _ => 0x0000000D
  | .sync _ => 0x0000000F
  | .tge _ _ _ => 0x00000030
  | .tgeu _ _ _ => 0x00000031
  | .tlt _ _ _ => 0x00000032
  | .tltu _ _ _ => 0x00000033
  | .teq _ _ _ => 0x00000034
  | .tne _ _ _ => 0x00000036
  | .tgei _ _ => 0x04080000
  | .tgeiu _ _ => 0x04090000
  | .tlti _ _ => 0x040A0000
  | .tltiu _ _ => 0x040B0000
  | .teqi _ _ => 0x040C0000
  | .tnei _ _ => 0x040E0000
  | .dmfc0 _ _ => 0x40200000
  | .dmtc0 _ _ => 0x40A00000
  | .mfc0 _ _ => 0x40000000
  | .mtc0 _ _ => 0x40800000
  | .tlbp => 0x42000008
  | .tlbr => 0x42000001
  | .tlbwi => 0x42000002
  | .tlbwr => 0x42000006
  | .eret => 0x42000018
  | .cache _ _ _ => 0xBC000000
  | .cache_index_invalidate_i _ _ => 0xBC000000
  | .cache_index_writeback_invalidate_d _ _ => 0xBC010000
  | .cache_index_load_tag_d _ _ => 0xBC050000
  | .cache_index_store_tag_d _ _ => 0xBC090000
  | .cache_hit_invalidate_d _ _ => 0xBC110000
  | .cache_hit_writeback_invalidate_d _ _ => 0xBC150000
  | .cache_index_load_data_d _ _ => 0xBC190000
  | .cache_index_store_data_d _ _ => 0xBC1D0000
  | .cache_index_writeback_invalidate_s _ _ => 0xBC030000
  | .cache_index_load_tag_s _ _ => 0xBC070000
  | .cache_index_store_tag_s _ _ => 0xBC0B0000
  | .cache_hit_invalidate_s _ _ => 0xBC130000
  | .cache_hit_writeback_invalidate_s _ _ => 0xBC170000
  | .cache_index_load_data_s _ _ => 0xBC1B0000
  | .cache_index_store_data_s _ _ => 0xBC1F0000
  | .add_s _ _ _ => 0x46000000
  | .add_d _ _ _ => 0x46200000
  | .sub_s _ _ _ => 0x46000001
  | .sub_d _ _ _ => 0x46200001
  | .mul_s _ _ _ => 0x46000002
  | .mul_d _ _ _ => 0x46200002
  | .div_s _ _ _ => 0x46000003
  | .div_d _ _ _ => 0x46200003
  | .sqrt_s _ _ => 0x46000004
  | .sqrt_d _ _ => 0x46200004
  | .abs_s _ _ => 0x46000005
  | .abs_d _ _ => 0x46200005
  | .mov_s _ _ => 0x46000006
  | .mov_d _ _ => 0x46200006
  | .neg_s _ _ => 0x46000007
  | .neg_d _ _ => 0x46200007
  | .round_l_s _ _ => 0x46000008
  | .round_l_d _ _ => 0x46200008
  | .trunc_l_s _ _ => 0x46000009
  | .trunc_l_d _ _ => 0x46200009
  | .ceil_l_s _ _ => 0x4600000A
  | .ceil_l_d _ _ => 0x4620000A
  | .floor_l_s _ _ => 0x4600000B
  | .floor_l_d _ _ => 0x4620000B
  | .round_w_s _ _ => 0x4600000C
  | .round_w_d _ _ => 0x4620000C
  | .trunc_w_s _ _ => 0x4600000D
  | .trunc_w_d _ _ => 0x4620000D
  | .ceil_w_s _ _ => 0x4600000E
  | .ceil_w_d _ _ => 0x4620000E
  | .floor_w_s _ _ => 0x4600000F
  | .floor_w_d _ _ => 0x4620000F
  | .cvt_w_s _ _ => 0x46000024
  | .cvt_w_d _ _ => 0x46200024
  | .cvt_l_s _ _ => 0x46000025
  | .cvt_l_d _ _ => 0x46200025
  | .cvt_s_d _ _ => 0x46200020
  | .cvt_s_w _ _ => 0x46800020
  | .cvt_s_l _ _ => 0x46A00020
  | .cvt_d_s _ _ => 0x46000021
  | .cvt_d_w _ _ => 0x46800021
  | .cvt_d_l _ _ => 0x46A00021
  | .c_f_s _ _ => 0x46000030
  | .c_f_d _ _ => 0x46200030
  | .c_un_s _ _ => 0x46000031
  | .c_un_d _ _ => 0x46200031
  | .c_eq_s _ _ => 0x46000032
  | .c_eq_d _ _ => 0x46200032
  | .c_ueq_s _ _ => 0x46000033
  | .c_ueq_d _ _ => 0x46200033
  | .c_olt_s _ _ => 0x46000034
  | .c_olt_d _ _ => 0x46200034
  | .c_ult_s _ _ => 0x46000035
  | .c_ult_d _ _ => 0x46200035
  | .c_ole_s _ _ => 0x46000036
  | .c_ole_d _ _ => 0x46200036
  | .c_ule_s _ _ => 0x46000037
  | .c_ule_d _ _ => 0x46200037
  | .c_sf_s _ _ => 0x46000038
  | .c_sf_d _ _ => 0x46200038
  | .c_ngle_s _ _ => 0x46000039
  | .c_ngle_d _ _ => 0x46200039
  | .c_seq_s _ _ => 0x4600003A
  | .c_seq_d _ _ => 0x4620003A
  | .c_ngl_s _ _ => 0x4600003B
  | .c_ngl_d _ _ => 0x4620003B
  | .c_lt_s _ _ => 0x4600003C
  | .c_lt_d _ _ => 0x4620003C
  | .c_nge_s _ _ => 0x4600003D
  | .c_nge_d _ _ => 0x4620003D
  | .c_le_s _ _ => 0x4600003E
  | .c_le_d _ _ => 0x4620003E
  | .c_ngt_s _ _ => 0x4600003F
  | .c_ngt_d _ _ => 0x4620003F
  | .mfc1 _ _ => 0x44000000
  | .mtc1 _ _ => 0x44800000
  | .dmfc1 _ _ => 0x44200000
  | .dmtc1 _ _ => 0x44A00000
  | .cfc1 _ _ => 0x44400000
  | .ctc1 _ _ => 0x44C00000
  | .bc1f _ => 0x45000000
  | .bc1t _ => 0x45010000
  | .bc1fl _ => 0x45020000
  | .bc1tl _ => 0x45030000
  | .add_ps _ _ _ => 0x46C00000
  | .sub_ps _ _ _ => 0x46C00001
  | .mul_ps _ _ _ => 0x46C00002
  | .abs_ps _ _ => 0x46C00005
  | .mov_ps _ _ => 0x46C00006
  | .neg_ps _ _ => 0x46C00007
  | .c_f_ps _ _ => 0x46C00030
  | .c_un_ps _ _ => 0x46C00031
  | .c_eq_ps _ _ => 0x46C00032
  | .c_ueq_ps _ _ => 0x46C00033
  | .c_olt_ps _ _ => 0x46C00034
  | .c_ult_ps _ _ => 0x46C00035
  | .c_ole_ps _ _ => 0x46C00036
  | .c_ule_ps _ _ => 0x46C00037
  | .c_sf_ps _ _ => 0x46C00038
  | .c_ngle_ps _ _ => 0x46C00039
  | .c_seq_ps _ _ => 0x46C0003A
  | .c_ngl_ps _ _ => 0x46C0003B
  | .c_lt_ps _ _ => 0x46C0003C
  | .c_nge_ps _ _ => 0x46C0003D
  | .c_le_ps _ _ => 0x46C0003E
  | .c_ngt_ps _ _ => 0x46C0003F
  | .madd_s _ _ _ => 0x72000018
  | .madd_d _ _ _ => 0x72200018
  | .madd_ps _ _ _ => 0x71600018
  | .msub_s _ _ _ => 0x72000019
  | .msub_d _ _ _ => 0x72200019
  | .msub_ps _ _ _ => 0x71600019
  | .nmadd_s _ _ _ => 0x7200001A
  | .nmadd_d _ _ _ => 0x7220001A
  | .nmadd_ps _ _ _ => 0x7160001A
  | .nmsub_s _ _ _ => 0x7200001B
  | .nmsub_d _ _ _ => 0x7220001B
  | .nmsub_ps _ _ _ => 0x7160001B

/-- The word of the instruction matches its row of the table. -/
def TableRow.Statement (i : Instr) : Prop := encode i &&& TableRow.mask i = TableRow.row i

/-! ### The formats under a mask -/

/-- Two words of the I format under `and`. -/
theorem iType_and (op o : BitVec 6) (rs r rt t : Reg) (imm m : BitVec 16) :
    iType op rs rt imm &&& iType o r t m = iType (op &&& o) (rs &&& r) (rt &&& t) (imm &&& m) := by
  have h : ((op ++ rs ++ rt ++ imm) &&& (o ++ r ++ t ++ m) : BitVec (6 + 5 + 5 + 16)) =
      (op &&& o) ++ (rs &&& r) ++ (rt &&& t) ++ (imm &&& m) := by
    rw [BitVec.and_append, BitVec.and_append, BitVec.and_append]
  exact h

/-- Two words of the J format under `and`. -/
theorem jType_and (op o : BitVec 6) (target t : BitVec 26) :
    jType op target &&& jType o t = jType (op &&& o) (target &&& t) := by
  have h : ((op ++ target) &&& (o ++ t) : BitVec (6 + 26)) =
      (op &&& o) ++ (target &&& t) := by
    rw [BitVec.and_append]
  exact h

/-- Two words of the R format under `and`. -/
theorem rType_and (op o : BitVec 6) (rs r rt t rd d : Reg) (sa a : BitVec 5) (funct g : BitVec 6) :
    rType op rs rt rd sa funct &&& rType o r t d a g =
      rType (op &&& o) (rs &&& r) (rt &&& t) (rd &&& d) (sa &&& a) (funct &&& g) := by
  have h : ((op ++ rs ++ rt ++ rd ++ sa ++ funct) &&& (o ++ r ++ t ++ d ++ a ++ g) : BitVec (6 + 5 + 5 + 5 + 5 + 6)) =
      (op &&& o) ++ (rs &&& r) ++ (rt &&& t) ++ (rd &&& d) ++ (sa &&& a) ++ (funct &&& g) := by
    rw [BitVec.and_append, BitVec.and_append, BitVec.and_append, BitVec.and_append, BitVec.and_append]
  exact h

/-- Two words with a 20-bit code under `and`. -/
theorem codeType_and (op o : BitVec 6) (code c : BitVec 20) (funct g : BitVec 6) :
    codeType op code funct &&& codeType o c g = codeType (op &&& o) (code &&& c) (funct &&& g) := by
  have h : ((op ++ code ++ funct) &&& (o ++ c ++ g) : BitVec (6 + 20 + 6)) =
      (op &&& o) ++ (code &&& c) ++ (funct &&& g) := by
    rw [BitVec.and_append, BitVec.and_append]
  exact h

/-- Two words of register traps under `and`. -/
theorem trapType_and (op o : BitVec 6) (rs r rt t : Reg) (code c : BitVec 10) (funct g : BitVec 6) :
    trapType op rs rt code funct &&& trapType o r t c g =
      trapType (op &&& o) (rs &&& r) (rt &&& t) (code &&& c) (funct &&& g) := by
  have h : ((op ++ rs ++ rt ++ code ++ funct) &&& (o ++ r ++ t ++ c ++ g) : BitVec (6 + 5 + 5 + 10 + 6)) =
      (op &&& o) ++ (rs &&& r) ++ (rt &&& t) ++ (code &&& c) ++ (funct &&& g) := by
    rw [BitVec.and_append, BitVec.and_append, BitVec.and_append, BitVec.and_append]
  exact h

/-! ### One lemma per instruction -/

theorem TableRow.lb (base : BitVec 5) (rt : BitVec 5) (offset : BitVec 16) : TableRow.Statement (.lb base rt offset) := by
  show iType 32 base rt offset &&& iType 63 0 0 0 = 0x80000000
  rw [iType_and]; simp only [BitVec.ofNat_eq_ofNat, BitVec.and_zero]; rfl

theorem TableRow.lbu (base : BitVec 5) (rt : BitVec 5) (offset : BitVec 16) : TableRow.Statement (.lbu base rt offset) := by
  show iType 36 base rt offset &&& iType 63 0 0 0 = 0x90000000
  rw [iType_and]; simp only [BitVec.ofNat_eq_ofNat, BitVec.and_zero]; rfl

theorem TableRow.lh (base : BitVec 5) (rt : BitVec 5) (offset : BitVec 16) : TableRow.Statement (.lh base rt offset) := by
  show iType 33 base rt offset &&& iType 63 0 0 0 = 0x84000000
  rw [iType_and]; simp only [BitVec.ofNat_eq_ofNat, BitVec.and_zero]; rfl

theorem TableRow.lhu (base : BitVec 5) (rt : BitVec 5) (offset : BitVec 16) : TableRow.Statement (.lhu base rt offset) := by
  show iType 37 base rt offset &&& iType 63 0 0 0 = 0x94000000
  rw [iType_and]; simp only [BitVec.ofNat_eq_ofNat, BitVec.and_zero]; rfl

theorem TableRow.lw (base : BitVec 5) (rt : BitVec 5) (offset : BitVec 16) : TableRow.Statement (.lw base rt offset) := by
  show iType 35 base rt offset &&& iType 63 0 0 0 = 0x8C000000
  rw [iType_and]; simp only [BitVec.ofNat_eq_ofNat, BitVec.and_zero]; rfl

theorem TableRow.lwu (base : BitVec 5) (rt : BitVec 5) (offset : BitVec 16) : TableRow.Statement (.lwu base rt offset) := by
  show iType 39 base rt offset &&& iType 63 0 0 0 = 0x9C000000
  rw [iType_and]; simp only [BitVec.ofNat_eq_ofNat, BitVec.and_zero]; rfl

theorem TableRow.ld (base : BitVec 5) (rt : BitVec 5) (offset : BitVec 16) : TableRow.Statement (.ld base rt offset) := by
  show iType 55 base rt offset &&& iType 63 0 0 0 = 0xDC000000
  rw [iType_and]; simp only [BitVec.ofNat_eq_ofNat, BitVec.and_zero]; rfl

theorem TableRow.lwl (base : BitVec 5) (rt : BitVec 5) (offset : BitVec 16) : TableRow.Statement (.lwl base rt offset) := by
  show iType 34 base rt offset &&& iType 63 0 0 0 = 0x88000000
  rw [iType_and]; simp only [BitVec.ofNat_eq_ofNat, BitVec.and_zero]; rfl

theorem TableRow.lwr (base : BitVec 5) (rt : BitVec 5) (offset : BitVec 16) : TableRow.Statement (.lwr base rt offset) := by
  show iType 38 base rt offset &&& iType 63 0 0 0 = 0x98000000
  rw [iType_and]; simp only [BitVec.ofNat_eq_ofNat, BitVec.and_zero]; rfl

theorem TableRow.swl (base : BitVec 5) (rt : BitVec 5) (offset : BitVec 16) : TableRow.Statement (.swl base rt offset) := by
  show iType 42 base rt offset &&& iType 63 0 0 0 = 0xA8000000
  rw [iType_and]; simp only [BitVec.ofNat_eq_ofNat, BitVec.and_zero]; rfl

theorem TableRow.swr (base : BitVec 5) (rt : BitVec 5) (offset : BitVec 16) : TableRow.Statement (.swr base rt offset) := by
  show iType 46 base rt offset &&& iType 63 0 0 0 = 0xB8000000
  rw [iType_and]; simp only [BitVec.ofNat_eq_ofNat, BitVec.and_zero]; rfl

theorem TableRow.ldl (base : BitVec 5) (rt : BitVec 5) (offset : BitVec 16) : TableRow.Statement (.ldl base rt offset) := by
  show iType 26 base rt offset &&& iType 63 0 0 0 = 0x68000000
  rw [iType_and]; simp only [BitVec.ofNat_eq_ofNat, BitVec.and_zero]; rfl

theorem TableRow.ldr (base : BitVec 5) (rt : BitVec 5) (offset : BitVec 16) : TableRow.Statement (.ldr base rt offset) := by
  show iType 27 base rt offset &&& iType 63 0 0 0 = 0x6C000000
  rw [iType_and]; simp only [BitVec.ofNat_eq_ofNat, BitVec.and_zero]; rfl

theorem TableRow.sdl (base : BitVec 5) (rt : BitVec 5) (offset : BitVec 16) : TableRow.Statement (.sdl base rt offset) := by
  show iType 44 base rt offset &&& iType 63 0 0 0 = 0xB0000000
  rw [iType_and]; simp only [BitVec.ofNat_eq_ofNat, BitVec.and_zero]; rfl

theorem TableRow.sdr (base : BitVec 5) (rt : BitVec 5) (offset : BitVec 16) : TableRow.Statement (.sdr base rt offset) := by
  show iType 45 base rt offset &&& iType 63 0 0 0 = 0xB4000000
  rw [iType_and]; simp only [BitVec.ofNat_eq_ofNat, BitVec.and_zero]; rfl

theorem TableRow.sb (base : BitVec 5) (rt : BitVec 5) (offset : BitVec 16) : TableRow.Statement (.sb base rt offset) := by
  show iType 40 base rt offset &&& iType 63 0 0 0 = 0xA0000000
  rw [iType_and]; simp only [BitVec.ofNat_eq_ofNat, BitVec.and_zero]; rfl

theorem TableRow.sh (base : BitVec 5) (rt : BitVec 5) (offset : BitVec 16) : TableRow.Statement (.sh base rt offset) := by
  show iType 41 base rt offset &&& iType 63 0 0 0 = 0xA4000000
  rw [iType_and]; simp only [BitVec.ofNat_eq_ofNat, BitVec.and_zero]; rfl

theorem TableRow.sw (base : BitVec 5) (rt : BitVec 5) (offset : BitVec 16) : TableRow.Statement (.sw base rt offset) := by
  show iType 43 base rt offset &&& iType 63 0 0 0 = 0xAC000000
  rw [iType_and]; simp only [BitVec.ofNat_eq_ofNat, BitVec.and_zero]; rfl

theorem TableRow.sd (base : BitVec 5) (rt : BitVec 5) (offset : BitVec 16) : TableRow.Statement (.sd base rt offset) := by
  show iType 63 base rt offset &&& iType 63 0 0 0 = 0xFC000000
  rw [iType_and]; simp only [BitVec.ofNat_eq_ofNat, BitVec.and_zero]; rfl

theorem TableRow.ll (base : BitVec 5) (rt : BitVec 5) (offset : BitVec 16) : TableRow.Statement (.ll base rt offset) := by
  show iType 48 base rt offset &&& iType 63 0 0 0 = 0xC0000000
  rw [iType_and]; simp only [BitVec.ofNat_eq_ofNat, BitVec.and_zero]; rfl

theorem TableRow.lld (base : BitVec 5) (rt : BitVec 5) (offset : BitVec 16) : TableRow.Statement (.lld base rt offset) := by
  show iType 52 base rt offset &&& iType 63 0 0 0 = 0xD0000000
  rw [iType_and]; simp only [BitVec.ofNat_eq_ofNat, BitVec.and_zero]; rfl

theorem TableRow.sc (base : BitVec 5) (rt : BitVec 5) (offset : BitVec 16) : TableRow.Statement (.sc base rt offset) := by
  show iType 56 base rt offset &&& iType 63 0 0 0 = 0xE0000000
  rw [iType_and]; simp only [BitVec.ofNat_eq_ofNat, BitVec.and_zero]; rfl

theorem TableRow.scd (base : BitVec 5) (rt : BitVec 5) (offset : BitVec 16) : TableRow.Statement (.scd base rt offset) := by
  show iType 60 base rt offset &&& iType 63 0 0 0 = 0xF0000000
  rw [iType_and]; simp only [BitVec.ofNat_eq_ofNat, BitVec.and_zero]; rfl

theorem TableRow.lwc1 (base : BitVec 5) (ft : BitVec 5) (offset : BitVec 16) : TableRow.Statement (.lwc1 base ft offset) := by
  show iType 49 base ft offset &&& iType 63 0 0 0 = 0xC4000000
  rw [iType_and]; simp only [BitVec.ofNat_eq_ofNat, BitVec.and_zero]; rfl

theorem TableRow.ldc1 (base : BitVec 5) (ft : BitVec 5) (offset : BitVec 16) : TableRow.Statement (.ldc1 base ft offset) := by
  show iType 53 base ft offset &&& iType 63 0 0 0 = 0xD4000000
  rw [iType_and]; simp only [BitVec.ofNat_eq_ofNat, BitVec.and_zero]; rfl

theorem TableRow.swc1 (base : BitVec 5) (ft : BitVec 5) (offset : BitVec 16) : TableRow.Statement (.swc1 base ft offset) := by
  show iType 57 base ft offset &&& iType 63 0 0 0 = 0xE4000000
  rw [iType_and]; simp only [BitVec.ofNat_eq_ofNat, BitVec.and_zero]; rfl

theorem TableRow.sdc1 (base : BitVec 5) (ft : BitVec 5) (offset : BitVec 16) : TableRow.Statement (.sdc1 base ft offset) := by
  show iType 61 base ft offset &&& iType 63 0 0 0 = 0xF4000000
  rw [iType_and]; simp only [BitVec.ofNat_eq_ofNat, BitVec.and_zero]; rfl

theorem TableRow.addi (rs : BitVec 5) (rt : BitVec 5) (imm : BitVec 16) : TableRow.Statement (.addi rs rt imm) := by
  show iType 8 rs rt imm &&& iType 63 0 0 0 = 0x20000000
  rw [iType_and]; simp only [BitVec.ofNat_eq_ofNat, BitVec.and_zero]; rfl

theorem TableRow.daddi (rs : BitVec 5) (rt : BitVec 5) (imm : BitVec 16) : TableRow.Statement (.daddi rs rt imm) := by
  show iType 24 rs rt imm &&& iType 63 0 0 0 = 0x60000000
  rw [iType_and]; simp only [BitVec.ofNat_eq_ofNat, BitVec.and_zero]; rfl

theorem TableRow.addiu (rs : BitVec 5) (rt : BitVec 5) (imm : BitVec 16) : TableRow.Statement (.addiu rs rt imm) := by
  show iType 9 rs rt imm &&& iType 63 0 0 0 = 0x24000000
  rw [iType_and]; simp only [BitVec.ofNat_eq_ofNat, BitVec.and_zero]; rfl

theorem TableRow.daddiu (rs : BitVec 5) (rt : BitVec 5) (imm : BitVec 16) : TableRow.Statement (.daddiu rs rt imm) := by
  show iType 25 rs rt imm &&& iType 63 0 0 0 = 0x64000000
  rw [iType_and]; simp only [BitVec.ofNat_eq_ofNat, BitVec.and_zero]; rfl

theorem TableRow.slti (rs : BitVec 5) (rt : BitVec 5) (imm : BitVec 16) : TableRow.Statement (.slti rs rt imm) := by
  show iType 10 rs rt imm &&& iType 63 0 0 0 = 0x28000000
  rw [iType_and]; simp only [BitVec.ofNat_eq_ofNat, BitVec.and_zero]; rfl

theorem TableRow.sltiu (rs : BitVec 5) (rt : BitVec 5) (imm : BitVec 16) : TableRow.Statement (.sltiu rs rt imm) := by
  show iType 11 rs rt imm &&& iType 63 0 0 0 = 0x2C000000
  rw [iType_and]; simp only [BitVec.ofNat_eq_ofNat, BitVec.and_zero]; rfl

theorem TableRow.andi (rs : BitVec 5) (rt : BitVec 5) (imm : BitVec 16) : TableRow.Statement (.andi rs rt imm) := by
  show iType 12 rs rt imm &&& iType 63 0 0 0 = 0x30000000
  rw [iType_and]; simp only [BitVec.ofNat_eq_ofNat, BitVec.and_zero]; rfl

theorem TableRow.ori (rs : BitVec 5) (rt : BitVec 5) (imm : BitVec 16) : TableRow.Statement (.ori rs rt imm) := by
  show iType 13 rs rt imm &&& iType 63 0 0 0 = 0x34000000
  rw [iType_and]; simp only [BitVec.ofNat_eq_ofNat, BitVec.and_zero]; rfl

theorem TableRow.xori (rs : BitVec 5) (rt : BitVec 5) (imm : BitVec 16) : TableRow.Statement (.xori rs rt imm) := by
  show iType 14 rs rt imm &&& iType 63 0 0 0 = 0x38000000
  rw [iType_and]; simp only [BitVec.ofNat_eq_ofNat, BitVec.and_zero]; rfl

theorem TableRow.lui (rt : BitVec 5) (imm : BitVec 16) : TableRow.Statement (.lui rt imm) := by
  show iType 15 0 rt imm &&& iType 63 31 0 0 = 0x3C000000
  rw [iType_and]; simp only [BitVec.ofNat_eq_ofNat, BitVec.and_zero]; rfl

theorem TableRow.add (rs : BitVec 5) (rt : BitVec 5) (rd : BitVec 5) : TableRow.Statement (.add rs rt rd) := by
  show rType 0 rs rt rd 0 32 &&& rType 63 0 0 0 31 63 = 0x00000020
  rw [rType_and]; simp only [BitVec.ofNat_eq_ofNat, BitVec.and_zero]; rfl

theorem TableRow.addu (rs : BitVec 5) (rt : BitVec 5) (rd : BitVec 5) : TableRow.Statement (.addu rs rt rd) := by
  show rType 0 rs rt rd 0 33 &&& rType 63 0 0 0 31 63 = 0x00000021
  rw [rType_and]; simp only [BitVec.ofNat_eq_ofNat, BitVec.and_zero]; rfl

theorem TableRow.sub (rs : BitVec 5) (rt : BitVec 5) (rd : BitVec 5) : TableRow.Statement (.sub rs rt rd) := by
  show rType 0 rs rt rd 0 34 &&& rType 63 0 0 0 31 63 = 0x00000022
  rw [rType_and]; simp only [BitVec.ofNat_eq_ofNat, BitVec.and_zero]; rfl

theorem TableRow.subu (rs : BitVec 5) (rt : BitVec 5) (rd : BitVec 5) : TableRow.Statement (.subu rs rt rd) := by
  show rType 0 rs rt rd 0 35 &&& rType 63 0 0 0 31 63 = 0x00000023
  rw [rType_and]; simp only [BitVec.ofNat_eq_ofNat, BitVec.and_zero]; rfl

theorem TableRow.dadd (rs : BitVec 5) (rt : BitVec 5) (rd : BitVec 5) : TableRow.Statement (.dadd rs rt rd) := by
  show rType 0 rs rt rd 0 44 &&& rType 63 0 0 0 31 63 = 0x0000002C
  rw [rType_and]; simp only [BitVec.ofNat_eq_ofNat, BitVec.and_zero]; rfl

theorem TableRow.daddu (rs : BitVec 5) (rt : BitVec 5) (rd : BitVec 5) : TableRow.Statement (.daddu rs rt rd) := by
  show rType 0 rs rt rd 0 45 &&& rType 63 0 0 0 31 63 = 0x0000002D
  rw [rType_and]; simp only [BitVec.ofNat_eq_ofNat, BitVec.and_zero]; rfl

theorem TableRow.dsub (rs : BitVec 5) (rt : BitVec 5) (rd : BitVec 5) : TableRow.Statement (.dsub rs rt rd) := by
  show rType 0 rs rt rd 0 46 &&& rType 63 0 0 0 31 63 = 0x0000002E
  rw [rType_and]; simp only [BitVec.ofNat_eq_ofNat, BitVec.and_zero]; rfl

theorem TableRow.dsubu (rs : BitVec 5) (rt : BitVec 5) (rd : BitVec 5) : TableRow.Statement (.dsubu rs rt rd) := by
  show rType 0 rs rt rd 0 47 &&& rType 63 0 0 0 31 63 = 0x0000002F
  rw [rType_and]; simp only [BitVec.ofNat_eq_ofNat, BitVec.and_zero]; rfl

theorem TableRow.slt (rs : BitVec 5) (rt : BitVec 5) (rd : BitVec 5) : TableRow.Statement (.slt rs rt rd) := by
  show rType 0 rs rt rd 0 42 &&& rType 63 0 0 0 31 63 = 0x0000002A
  rw [rType_and]; simp only [BitVec.ofNat_eq_ofNat, BitVec.and_zero]; rfl

theorem TableRow.sltu (rs : BitVec 5) (rt : BitVec 5) (rd : BitVec 5) : TableRow.Statement (.sltu rs rt rd) := by
  show rType 0 rs rt rd 0 43 &&& rType 63 0 0 0 31 63 = 0x0000002B
  rw [rType_and]; simp only [BitVec.ofNat_eq_ofNat, BitVec.and_zero]; rfl

theorem TableRow.and (rs : BitVec 5) (rt : BitVec 5) (rd : BitVec 5) : TableRow.Statement (.and rs rt rd) := by
  show rType 0 rs rt rd 0 36 &&& rType 63 0 0 0 31 63 = 0x00000024
  rw [rType_and]; simp only [BitVec.ofNat_eq_ofNat, BitVec.and_zero]; rfl

theorem TableRow.or (rs : BitVec 5) (rt : BitVec 5) (rd : BitVec 5) : TableRow.Statement (.or rs rt rd) := by
  show rType 0 rs rt rd 0 37 &&& rType 63 0 0 0 31 63 = 0x00000025
  rw [rType_and]; simp only [BitVec.ofNat_eq_ofNat, BitVec.and_zero]; rfl

theorem TableRow.xor (rs : BitVec 5) (rt : BitVec 5) (rd : BitVec 5) : TableRow.Statement (.xor rs rt rd) := by
  show rType 0 rs rt rd 0 38 &&& rType 63 0 0 0 31 63 = 0x00000026
  rw [rType_and]; simp only [BitVec.ofNat_eq_ofNat, BitVec.and_zero]; rfl

theorem TableRow.nor (rs : BitVec 5) (rt : BitVec 5) (rd : BitVec 5) : TableRow.Statement (.nor rs rt rd) := by
  show rType 0 rs rt rd 0 39 &&& rType 63 0 0 0 31 63 = 0x00000027
  rw [rType_and]; simp only [BitVec.ofNat_eq_ofNat, BitVec.and_zero]; rfl

theorem TableRow.movz (rs : BitVec 5) (rt : BitVec 5) (rd : BitVec 5) : TableRow.Statement (.movz rs rt rd) := by
  show rType 0 rs rt rd 0 10 &&& rType 63 0 0 0 31 63 = 0x0000000A
  rw [rType_and]; simp only [BitVec.ofNat_eq_ofNat, BitVec.and_zero]; rfl

theorem TableRow.movn (rs : BitVec 5) (rt : BitVec 5) (rd : BitVec 5) : TableRow.Statement (.movn rs rt rd) := by
  show rType 0 rs rt rd 0 11 &&& rType 63 0 0 0 31 63 = 0x0000000B
  rw [rType_and]; simp only [BitVec.ofNat_eq_ofNat, BitVec.and_zero]; rfl

theorem TableRow.mult (rs : BitVec 5) (rt : BitVec 5) : TableRow.Statement (.mult rs rt) := by
  show rType 0 rs rt 0 0 24 &&& rType 63 0 0 31 31 63 = 0x00000018
  rw [rType_and]; simp only [BitVec.ofNat_eq_ofNat, BitVec.and_zero]; rfl

theorem TableRow.multu (rs : BitVec 5) (rt : BitVec 5) : TableRow.Statement (.multu rs rt) := by
  show rType 0 rs rt 0 0 25 &&& rType 63 0 0 31 31 63 = 0x00000019
  rw [rType_and]; simp only [BitVec.ofNat_eq_ofNat, BitVec.and_zero]; rfl

theorem TableRow.dmult (rs : BitVec 5) (rt : BitVec 5) : TableRow.Statement (.dmult rs rt) := by
  show rType 0 rs rt 0 0 28 &&& rType 63 0 0 31 31 63 = 0x0000001C
  rw [rType_and]; simp only [BitVec.ofNat_eq_ofNat, BitVec.and_zero]; rfl

theorem TableRow.dmultu (rs : BitVec 5) (rt : BitVec 5) : TableRow.Statement (.dmultu rs rt) := by
  show rType 0 rs rt 0 0 29 &&& rType 63 0 0 31 31 63 = 0x0000001D
  rw [rType_and]; simp only [BitVec.ofNat_eq_ofNat, BitVec.and_zero]; rfl

theorem TableRow.div (rs : BitVec 5) (rt : BitVec 5) : TableRow.Statement (.div rs rt) := by
  show rType 0 rs rt 0 0 26 &&& rType 63 0 0 31 31 63 = 0x0000001A
  rw [rType_and]; simp only [BitVec.ofNat_eq_ofNat, BitVec.and_zero]; rfl

theorem TableRow.divu (rs : BitVec 5) (rt : BitVec 5) : TableRow.Statement (.divu rs rt) := by
  show rType 0 rs rt 0 0 27 &&& rType 63 0 0 31 31 63 = 0x0000001B
  rw [rType_and]; simp only [BitVec.ofNat_eq_ofNat, BitVec.and_zero]; rfl

theorem TableRow.ddiv (rs : BitVec 5) (rt : BitVec 5) : TableRow.Statement (.ddiv rs rt) := by
  show rType 0 rs rt 0 0 30 &&& rType 63 0 0 31 31 63 = 0x0000001E
  rw [rType_and]; simp only [BitVec.ofNat_eq_ofNat, BitVec.and_zero]; rfl

theorem TableRow.ddivu (rs : BitVec 5) (rt : BitVec 5) : TableRow.Statement (.ddivu rs rt) := by
  show rType 0 rs rt 0 0 31 &&& rType 63 0 0 31 31 63 = 0x0000001F
  rw [rType_and]; simp only [BitVec.ofNat_eq_ofNat, BitVec.and_zero]; rfl

theorem TableRow.mfhi (rd : BitVec 5) : TableRow.Statement (.mfhi rd) := by
  show rType 0 0 0 rd 0 16 &&& rType 63 31 31 0 31 63 = 0x00000010
  rw [rType_and]; simp only [BitVec.ofNat_eq_ofNat, BitVec.and_zero]; rfl

theorem TableRow.mthi (rs : BitVec 5) : TableRow.Statement (.mthi rs) := by
  show rType 0 rs 0 0 0 17 &&& rType 63 0 31 31 31 63 = 0x00000011
  rw [rType_and]; simp only [BitVec.ofNat_eq_ofNat, BitVec.and_zero]; rfl

theorem TableRow.mflo (rd : BitVec 5) : TableRow.Statement (.mflo rd) := by
  show rType 0 0 0 rd 0 18 &&& rType 63 31 31 0 31 63 = 0x00000012
  rw [rType_and]; simp only [BitVec.ofNat_eq_ofNat, BitVec.and_zero]; rfl

theorem TableRow.mtlo (rs : BitVec 5) : TableRow.Statement (.mtlo rs) := by
  show rType 0 rs 0 0 0 19 &&& rType 63 0 31 31 31 63 = 0x00000013
  rw [rType_and]; simp only [BitVec.ofNat_eq_ofNat, BitVec.and_zero]; rfl

theorem TableRow.multg (rs : BitVec 5) (rt : BitVec 5) (rd : BitVec 5) : TableRow.Statement (.multg rs rt rd) := by
  show rType 28 rs rt rd 0 16 &&& rType 63 0 0 0 31 63 = 0x70000010
  rw [rType_and]; simp only [BitVec.ofNat_eq_ofNat, BitVec.and_zero]; rfl

theorem TableRow.multug (rs : BitVec 5) (rt : BitVec 5) (rd : BitVec 5) : TableRow.Statement (.multug rs rt rd) := by
  show rType 28 rs rt rd 0 18 &&& rType 63 0 0 0 31 63 = 0x70000012
  rw [rType_and]; simp only [BitVec.ofNat_eq_ofNat, BitVec.and_zero]; rfl

theorem TableRow.dmultg (rs : BitVec 5) (rt : BitVec 5) (rd : BitVec 5) : TableRow.Statement (.dmultg rs rt rd) := by
  show rType 28 rs rt rd 0 17 &&& rType 63 0 0 0 31 63 = 0x70000011
  rw [rType_and]; simp only [BitVec.ofNat_eq_ofNat, BitVec.and_zero]; rfl

theorem TableRow.dmultug (rs : BitVec 5) (rt : BitVec 5) (rd : BitVec 5) : TableRow.Statement (.dmultug rs rt rd) := by
  show rType 28 rs rt rd 0 19 &&& rType 63 0 0 0 31 63 = 0x70000013
  rw [rType_and]; simp only [BitVec.ofNat_eq_ofNat, BitVec.and_zero]; rfl

theorem TableRow.divg (rs : BitVec 5) (rt : BitVec 5) (rd : BitVec 5) : TableRow.Statement (.divg rs rt rd) := by
  show rType 28 rs rt rd 0 20 &&& rType 63 0 0 0 31 63 = 0x70000014
  rw [rType_and]; simp only [BitVec.ofNat_eq_ofNat, BitVec.and_zero]; rfl

theorem TableRow.divug (rs : BitVec 5) (rt : BitVec 5) (rd : BitVec 5) : TableRow.Statement (.divug rs rt rd) := by
  show rType 28 rs rt rd 0 22 &&& rType 63 0 0 0 31 63 = 0x70000016
  rw [rType_and]; simp only [BitVec.ofNat_eq_ofNat, BitVec.and_zero]; rfl

theorem TableRow.ddivg (rs : BitVec 5) (rt : BitVec 5) (rd : BitVec 5) : TableRow.Statement (.ddivg rs rt rd) := by
  show rType 28 rs rt rd 0 21 &&& rType 63 0 0 0 31 63 = 0x70000015
  rw [rType_and]; simp only [BitVec.ofNat_eq_ofNat, BitVec.and_zero]; rfl

theorem TableRow.ddivug (rs : BitVec 5) (rt : BitVec 5) (rd : BitVec 5) : TableRow.Statement (.ddivug rs rt rd) := by
  show rType 28 rs rt rd 0 23 &&& rType 63 0 0 0 31 63 = 0x70000017
  rw [rType_and]; simp only [BitVec.ofNat_eq_ofNat, BitVec.and_zero]; rfl

theorem TableRow.modg (rs : BitVec 5) (rt : BitVec 5) (rd : BitVec 5) : TableRow.Statement (.modg rs rt rd) := by
  show rType 28 rs rt rd 0 28 &&& rType 63 0 0 0 31 63 = 0x7000001C
  rw [rType_and]; simp only [BitVec.ofNat_eq_ofNat, BitVec.and_zero]; rfl

theorem TableRow.modug (rs : BitVec 5) (rt : BitVec 5) (rd : BitVec 5) : TableRow.Statement (.modug rs rt rd) := by
  show rType 28 rs rt rd 0 30 &&& rType 63 0 0 0 31 63 = 0x7000001E
  rw [rType_and]; simp only [BitVec.ofNat_eq_ofNat, BitVec.and_zero]; rfl

theorem TableRow.dmodg (rs : BitVec 5) (rt : BitVec 5) (rd : BitVec 5) : TableRow.Statement (.dmodg rs rt rd) := by
  show rType 28 rs rt rd 0 29 &&& rType 63 0 0 0 31 63 = 0x7000001D
  rw [rType_and]; simp only [BitVec.ofNat_eq_ofNat, BitVec.and_zero]; rfl

theorem TableRow.dmodug (rs : BitVec 5) (rt : BitVec 5) (rd : BitVec 5) : TableRow.Statement (.dmodug rs rt rd) := by
  show rType 28 rs rt rd 0 31 &&& rType 63 0 0 0 31 63 = 0x7000001F
  rw [rType_and]; simp only [BitVec.ofNat_eq_ofNat, BitVec.and_zero]; rfl

theorem TableRow.j (target : BitVec 26) : TableRow.Statement (.j target) := by
  show jType 2 target &&& jType 63 0 = 0x08000000
  rw [jType_and]; simp only [BitVec.ofNat_eq_ofNat, BitVec.and_zero]; rfl

theorem TableRow.jal (target : BitVec 26) : TableRow.Statement (.jal target) := by
  show jType 3 target &&& jType 63 0 = 0x0C000000
  rw [jType_and]; simp only [BitVec.ofNat_eq_ofNat, BitVec.and_zero]; rfl

theorem TableRow.jr (rs : BitVec 5) (hint : BitVec 5) : TableRow.Statement (.jr rs hint) := by
  show rType 0 rs 0 0 hint 8 &&& rType 63 0 31 31 0 63 = 0x00000008
  rw [rType_and]; simp only [BitVec.ofNat_eq_ofNat, BitVec.and_zero]; rfl

theorem TableRow.jalr (rs : BitVec 5) (rd : BitVec 5) (hint : BitVec 5) : TableRow.Statement (.jalr rs rd hint) := by
  show rType 0 rs 0 rd hint 9 &&& rType 63 0 31 0 0 63 = 0x00000009
  rw [rType_and]; simp only [BitVec.ofNat_eq_ofNat, BitVec.and_zero]; rfl

theorem TableRow.beq (rs : BitVec 5) (rt : BitVec 5) (offset : BitVec 16) : TableRow.Statement (.beq rs rt offset) := by
  show iType 4 rs rt offset &&& iType 63 0 0 0 = 0x10000000
  rw [iType_and]; simp only [BitVec.ofNat_eq_ofNat, BitVec.and_zero]; rfl

theorem TableRow.bne (rs : BitVec 5) (rt : BitVec 5) (offset : BitVec 16) : TableRow.Statement (.bne rs rt offset) := by
  show iType 5 rs rt offset &&& iType 63 0 0 0 = 0x14000000
  rw [iType_and]; simp only [BitVec.ofNat_eq_ofNat, BitVec.and_zero]; rfl

theorem TableRow.blez (rs : BitVec 5) (offset : BitVec 16) : TableRow.Statement (.blez rs offset) := by
  show iType 6 rs 0 offset &&& iType 63 0 31 0 = 0x18000000
  rw [iType_and]; simp only [BitVec.ofNat_eq_ofNat, BitVec.and_zero]; rfl

theorem TableRow.bgtz (rs : BitVec 5) (offset : BitVec 16) : TableRow.Statement (.bgtz rs offset) := by
  show iType 7 rs 0 offset &&& iType 63 0 31 0 = 0x1C000000
  rw [iType_and]; simp only [BitVec.ofNat_eq_ofNat, BitVec.and_zero]; rfl

theorem TableRow.bltz (rs : BitVec 5) (offset : BitVec 16) : TableRow.Statement (.bltz rs offset) := by
  show iType 1 rs 0 offset &&& iType 63 0 31 0 = 0x04000000
  rw [iType_and]; simp only [BitVec.ofNat_eq_ofNat, BitVec.and_zero]; rfl

theorem TableRow.bgez (rs : BitVec 5) (offset : BitVec 16) : TableRow.Statement (.bgez rs offset) := by
  show iType 1 rs 1 offset &&& iType 63 0 31 0 = 0x04010000
  rw [iType_and]; simp only [BitVec.ofNat_eq_ofNat, BitVec.and_zero]; rfl

theorem TableRow.bltzal (rs : BitVec 5) (offset : BitVec 16) : TableRow.Statement (.bltzal rs offset) := by
  show iType 1 rs 16 offset &&& iType 63 0 31 0 = 0x04100000
  rw [iType_and]; simp only [BitVec.ofNat_eq_ofNat, BitVec.and_zero]; rfl

theorem TableRow.bgezal (rs : BitVec 5) (offset : BitVec 16) : TableRow.Statement (.bgezal rs offset) := by
  show iType 1 rs 17 offset &&& iType 63 0 31 0 = 0x04110000
  rw [iType_and]; simp only [BitVec.ofNat_eq_ofNat, BitVec.and_zero]; rfl

theorem TableRow.beql (rs : BitVec 5) (rt : BitVec 5) (offset : BitVec 16) : TableRow.Statement (.beql rs rt offset) := by
  show iType 20 rs rt offset &&& iType 63 0 0 0 = 0x50000000
  rw [iType_and]; simp only [BitVec.ofNat_eq_ofNat, BitVec.and_zero]; rfl

theorem TableRow.bnel (rs : BitVec 5) (rt : BitVec 5) (offset : BitVec 16) : TableRow.Statement (.bnel rs rt offset) := by
  show iType 21 rs rt offset &&& iType 63 0 0 0 = 0x54000000
  rw [iType_and]; simp only [BitVec.ofNat_eq_ofNat, BitVec.and_zero]; rfl

theorem TableRow.blezl (rs : BitVec 5) (offset : BitVec 16) : TableRow.Statement (.blezl rs offset) := by
  show iType 22 rs 0 offset &&& iType 63 0 31 0 = 0x58000000
  rw [iType_and]; simp only [BitVec.ofNat_eq_ofNat, BitVec.and_zero]; rfl

theorem TableRow.bgtzl (rs : BitVec 5) (offset : BitVec 16) : TableRow.Statement (.bgtzl rs offset) := by
  show iType 23 rs 0 offset &&& iType 63 0 31 0 = 0x5C000000
  rw [iType_and]; simp only [BitVec.ofNat_eq_ofNat, BitVec.and_zero]; rfl

theorem TableRow.bltzl (rs : BitVec 5) (offset : BitVec 16) : TableRow.Statement (.bltzl rs offset) := by
  show iType 1 rs 2 offset &&& iType 63 0 31 0 = 0x04020000
  rw [iType_and]; simp only [BitVec.ofNat_eq_ofNat, BitVec.and_zero]; rfl

theorem TableRow.bgezl (rs : BitVec 5) (offset : BitVec 16) : TableRow.Statement (.bgezl rs offset) := by
  show iType 1 rs 3 offset &&& iType 63 0 31 0 = 0x04030000
  rw [iType_and]; simp only [BitVec.ofNat_eq_ofNat, BitVec.and_zero]; rfl

theorem TableRow.bltzall (rs : BitVec 5) (offset : BitVec 16) : TableRow.Statement (.bltzall rs offset) := by
  show iType 1 rs 18 offset &&& iType 63 0 31 0 = 0x04120000
  rw [iType_and]; simp only [BitVec.ofNat_eq_ofNat, BitVec.and_zero]; rfl

theorem TableRow.bgezall (rs : BitVec 5) (offset : BitVec 16) : TableRow.Statement (.bgezall rs offset) := by
  show iType 1 rs 19 offset &&& iType 63 0 31 0 = 0x04130000
  rw [iType_and]; simp only [BitVec.ofNat_eq_ofNat, BitVec.and_zero]; rfl

theorem TableRow.sll (rt : BitVec 5) (rd : BitVec 5) (sa : BitVec 5) : TableRow.Statement (.sll rt rd sa) := by
  show rType 0 0 rt rd sa 0 &&& rType 63 31 0 0 0 63 = 0x00000000
  rw [rType_and]; simp only [BitVec.ofNat_eq_ofNat, BitVec.and_zero]; rfl

theorem TableRow.srl (rt : BitVec 5) (rd : BitVec 5) (sa : BitVec 5) : TableRow.Statement (.srl rt rd sa) := by
  show rType 0 0 rt rd sa 2 &&& rType 63 31 0 0 0 63 = 0x00000002
  rw [rType_and]; simp only [BitVec.ofNat_eq_ofNat, BitVec.and_zero]; rfl

theorem TableRow.sra (rt : BitVec 5) (rd : BitVec 5) (sa : BitVec 5) : TableRow.Statement (.sra rt rd sa) := by
  show rType 0 0 rt rd sa 3 &&& rType 63 31 0 0 0 63 = 0x00000003
  rw [rType_and]; simp only [BitVec.ofNat_eq_ofNat, BitVec.and_zero]; rfl

theorem TableRow.dsll (rt : BitVec 5) (rd : BitVec 5) (sa : BitVec 5) : TableRow.Statement (.dsll rt rd sa) := by
  show rType 0 0 rt rd sa 56 &&& rType 63 31 0 0 0 63 = 0x00000038
  rw [rType_and]; simp only [BitVec.ofNat_eq_ofNat, BitVec.and_zero]; rfl

theorem TableRow.dsrl (rt : BitVec 5) (rd : BitVec 5) (sa : BitVec 5) : TableRow.Statement (.dsrl rt rd sa) := by
  show rType 0 0 rt rd sa 58 &&& rType 63 31 0 0 0 63 = 0x0000003A
  rw [rType_and]; simp only [BitVec.ofNat_eq_ofNat, BitVec.and_zero]; rfl

theorem TableRow.dsra (rt : BitVec 5) (rd : BitVec 5) (sa : BitVec 5) : TableRow.Statement (.dsra rt rd sa) := by
  show rType 0 0 rt rd sa 59 &&& rType 63 31 0 0 0 63 = 0x0000003B
  rw [rType_and]; simp only [BitVec.ofNat_eq_ofNat, BitVec.and_zero]; rfl

theorem TableRow.dsll32 (rt : BitVec 5) (rd : BitVec 5) (sa : BitVec 5) : TableRow.Statement (.dsll32 rt rd sa) := by
  show rType 0 0 rt rd sa 60 &&& rType 63 31 0 0 0 63 = 0x0000003C
  rw [rType_and]; simp only [BitVec.ofNat_eq_ofNat, BitVec.and_zero]; rfl

theorem TableRow.dsrl32 (rt : BitVec 5) (rd : BitVec 5) (sa : BitVec 5) : TableRow.Statement (.dsrl32 rt rd sa) := by
  show rType 0 0 rt rd sa 62 &&& rType 63 31 0 0 0 63 = 0x0000003E
  rw [rType_and]; simp only [BitVec.ofNat_eq_ofNat, BitVec.and_zero]; rfl

theorem TableRow.dsra32 (rt : BitVec 5) (rd : BitVec 5) (sa : BitVec 5) : TableRow.Statement (.dsra32 rt rd sa) := by
  show rType 0 0 rt rd sa 63 &&& rType 63 31 0 0 0 63 = 0x0000003F
  rw [rType_and]; simp only [BitVec.ofNat_eq_ofNat, BitVec.and_zero]; rfl

theorem TableRow.sllv (rs : BitVec 5) (rt : BitVec 5) (rd : BitVec 5) : TableRow.Statement (.sllv rs rt rd) := by
  show rType 0 rs rt rd 0 4 &&& rType 63 0 0 0 31 63 = 0x00000004
  rw [rType_and]; simp only [BitVec.ofNat_eq_ofNat, BitVec.and_zero]; rfl

theorem TableRow.srlv (rs : BitVec 5) (rt : BitVec 5) (rd : BitVec 5) : TableRow.Statement (.srlv rs rt rd) := by
  show rType 0 rs rt rd 0 6 &&& rType 63 0 0 0 31 63 = 0x00000006
  rw [rType_and]; simp only [BitVec.ofNat_eq_ofNat, BitVec.and_zero]; rfl

theorem TableRow.srav (rs : BitVec 5) (rt : BitVec 5) (rd : BitVec 5) : TableRow.Statement (.srav rs rt rd) := by
  show rType 0 rs rt rd 0 7 &&& rType 63 0 0 0 31 63 = 0x00000007
  rw [rType_and]; simp only [BitVec.ofNat_eq_ofNat, BitVec.and_zero]; rfl

theorem TableRow.dsllv (rs : BitVec 5) (rt : BitVec 5) (rd : BitVec 5) : TableRow.Statement (.dsllv rs rt rd) := by
  show rType 0 rs rt rd 0 20 &&& rType 63 0 0 0 31 63 = 0x00000014
  rw [rType_and]; simp only [BitVec.ofNat_eq_ofNat, BitVec.and_zero]; rfl

theorem TableRow.dsrlv (rs : BitVec 5) (rt : BitVec 5) (rd : BitVec 5) : TableRow.Statement (.dsrlv rs rt rd) := by
  show rType 0 rs rt rd 0 22 &&& rType 63 0 0 0 31 63 = 0x00000016
  rw [rType_and]; simp only [BitVec.ofNat_eq_ofNat, BitVec.and_zero]; rfl

theorem TableRow.dsrav (rs : BitVec 5) (rt : BitVec 5) (rd : BitVec 5) : TableRow.Statement (.dsrav rs rt rd) := by
  show rType 0 rs rt rd 0 23 &&& rType 63 0 0 0 31 63 = 0x00000017
  rw [rType_and]; simp only [BitVec.ofNat_eq_ofNat, BitVec.and_zero]; rfl

theorem TableRow.syscall (code : BitVec 20) : TableRow.Statement (.syscall code) := by
  show codeType 0 code 12 &&& codeType 63 0 63 = 0x0000000C
  rw [codeType_and]; simp only [BitVec.ofNat_eq_ofNat, BitVec.and_zero]; rfl

theorem TableRow.break_ (code : BitVec 20) : TableRow.Statement (.break_ code) := by
  show codeType 0 code 13 &&& codeType 63 0 63 = 0x0000000D
  rw [codeType_and]; simp only [BitVec.ofNat_eq_ofNat, BitVec.and_zero]; rfl

theorem TableRow.sync (stype : BitVec 5) : TableRow.Statement (.sync stype) := by
  show rType 0 0 0 0 stype 15 &&& rType 63 31 31 31 0 63 = 0x0000000F
  rw [rType_and]; simp only [BitVec.ofNat_eq_ofNat, BitVec.and_zero]; rfl

theorem TableRow.tge (rs : BitVec 5) (rt : BitVec 5) (code : BitVec 10) : TableRow.Statement (.tge rs rt code) := by
  show trapType 0 rs rt code 48 &&& trapType 63 0 0 0 63 = 0x00000030
  rw [trapType_and]; simp only [BitVec.ofNat_eq_ofNat, BitVec.and_zero]; rfl

theorem TableRow.tgeu (rs : BitVec 5) (rt : BitVec 5) (code : BitVec 10) : TableRow.Statement (.tgeu rs rt code) := by
  show trapType 0 rs rt code 49 &&& trapType 63 0 0 0 63 = 0x00000031
  rw [trapType_and]; simp only [BitVec.ofNat_eq_ofNat, BitVec.and_zero]; rfl

theorem TableRow.tlt (rs : BitVec 5) (rt : BitVec 5) (code : BitVec 10) : TableRow.Statement (.tlt rs rt code) := by
  show trapType 0 rs rt code 50 &&& trapType 63 0 0 0 63 = 0x00000032
  rw [trapType_and]; simp only [BitVec.ofNat_eq_ofNat, BitVec.and_zero]; rfl

theorem TableRow.tltu (rs : BitVec 5) (rt : BitVec 5) (code : BitVec 10) : TableRow.Statement (.tltu rs rt code) := by
  show trapType 0 rs rt code 51 &&& trapType 63 0 0 0 63 = 0x00000033
  rw [trapType_and]; simp only [BitVec.ofNat_eq_ofNat, BitVec.and_zero]; rfl

theorem TableRow.teq (rs : BitVec 5) (rt : BitVec 5) (code : BitVec 10) : TableRow.Statement (.teq rs rt code) := by
  show trapType 0 rs rt code 52 &&& trapType 63 0 0 0 63 = 0x00000034
  rw [trapType_and]; simp only [BitVec.ofNat_eq_ofNat, BitVec.and_zero]; rfl

theorem TableRow.tne (rs : BitVec 5) (rt : BitVec 5) (code : BitVec 10) : TableRow.Statement (.tne rs rt code) := by
  show trapType 0 rs rt code 54 &&& trapType 63 0 0 0 63 = 0x00000036
  rw [trapType_and]; simp only [BitVec.ofNat_eq_ofNat, BitVec.and_zero]; rfl

theorem TableRow.tgei (rs : BitVec 5) (imm : BitVec 16) : TableRow.Statement (.tgei rs imm) := by
  show iType 1 rs 8 imm &&& iType 63 0 31 0 = 0x04080000
  rw [iType_and]; simp only [BitVec.ofNat_eq_ofNat, BitVec.and_zero]; rfl

theorem TableRow.tgeiu (rs : BitVec 5) (imm : BitVec 16) : TableRow.Statement (.tgeiu rs imm) := by
  show iType 1 rs 9 imm &&& iType 63 0 31 0 = 0x04090000
  rw [iType_and]; simp only [BitVec.ofNat_eq_ofNat, BitVec.and_zero]; rfl

theorem TableRow.tlti (rs : BitVec 5) (imm : BitVec 16) : TableRow.Statement (.tlti rs imm) := by
  show iType 1 rs 10 imm &&& iType 63 0 31 0 = 0x040A0000
  rw [iType_and]; simp only [BitVec.ofNat_eq_ofNat, BitVec.and_zero]; rfl

theorem TableRow.tltiu (rs : BitVec 5) (imm : BitVec 16) : TableRow.Statement (.tltiu rs imm) := by
  show iType 1 rs 11 imm &&& iType 63 0 31 0 = 0x040B0000
  rw [iType_and]; simp only [BitVec.ofNat_eq_ofNat, BitVec.and_zero]; rfl

theorem TableRow.teqi (rs : BitVec 5) (imm : BitVec 16) : TableRow.Statement (.teqi rs imm) := by
  show iType 1 rs 12 imm &&& iType 63 0 31 0 = 0x040C0000
  rw [iType_and]; simp only [BitVec.ofNat_eq_ofNat, BitVec.and_zero]; rfl

theorem TableRow.tnei (rs : BitVec 5) (imm : BitVec 16) : TableRow.Statement (.tnei rs imm) := by
  show iType 1 rs 14 imm &&& iType 63 0 31 0 = 0x040E0000
  rw [iType_and]; simp only [BitVec.ofNat_eq_ofNat, BitVec.and_zero]; rfl

theorem TableRow.dmfc0 (rt : BitVec 5) (rd : BitVec 5) : TableRow.Statement (.dmfc0 rt rd) := by
  show rType 16 1 rt rd 0 0 &&& rType 63 31 0 0 31 63 = 0x40200000
  rw [rType_and]; simp only [BitVec.ofNat_eq_ofNat, BitVec.and_zero]; rfl

theorem TableRow.dmtc0 (rt : BitVec 5) (rd : BitVec 5) : TableRow.Statement (.dmtc0 rt rd) := by
  show rType 16 5 rt rd 0 0 &&& rType 63 31 0 0 31 63 = 0x40A00000
  rw [rType_and]; simp only [BitVec.ofNat_eq_ofNat, BitVec.and_zero]; rfl

theorem TableRow.mfc0 (rt : BitVec 5) (rd : BitVec 5) : TableRow.Statement (.mfc0 rt rd) := by
  show rType 16 0 rt rd 0 0 &&& rType 63 31 0 0 31 63 = 0x40000000
  rw [rType_and]; simp only [BitVec.ofNat_eq_ofNat, BitVec.and_zero]; rfl

theorem TableRow.mtc0 (rt : BitVec 5) (rd : BitVec 5) : TableRow.Statement (.mtc0 rt rd) := by
  show rType 16 4 rt rd 0 0 &&& rType 63 31 0 0 31 63 = 0x40800000
  rw [rType_and]; simp only [BitVec.ofNat_eq_ofNat, BitVec.and_zero]; rfl

theorem TableRow.tlbp : TableRow.Statement .tlbp := rfl

theorem TableRow.tlbr : TableRow.Statement .tlbr := rfl

theorem TableRow.tlbwi : TableRow.Statement .tlbwi := rfl

theorem TableRow.tlbwr : TableRow.Statement .tlbwr := rfl

theorem TableRow.eret : TableRow.Statement .eret := rfl

theorem TableRow.cache (base : BitVec 5) (op : BitVec 5) (offset : BitVec 16) : TableRow.Statement (.cache base op offset) := by
  show iType 47 base op offset &&& iType 63 0 0 0 = 0xBC000000
  rw [iType_and]; simp only [BitVec.ofNat_eq_ofNat, BitVec.and_zero]; rfl

theorem TableRow.cache_index_invalidate_i (base : BitVec 5) (offset : BitVec 16) : TableRow.Statement (.cache_index_invalidate_i base offset) := by
  show iType 47 base 0 offset &&& iType 63 0 31 0 = 0xBC000000
  rw [iType_and]; simp only [BitVec.ofNat_eq_ofNat, BitVec.and_zero]; rfl

theorem TableRow.cache_index_writeback_invalidate_d (base : BitVec 5) (offset : BitVec 16) : TableRow.Statement (.cache_index_writeback_invalidate_d base offset) := by
  show iType 47 base 1 offset &&& iType 63 0 31 0 = 0xBC010000
  rw [iType_and]; simp only [BitVec.ofNat_eq_ofNat, BitVec.and_zero]; rfl

theorem TableRow.cache_index_load_tag_d (base : BitVec 5) (offset : BitVec 16) : TableRow.Statement (.cache_index_load_tag_d base offset) := by
  show iType 47 base 5 offset &&& iType 63 0 31 0 = 0xBC050000
  rw [iType_and]; simp only [BitVec.ofNat_eq_ofNat, BitVec.and_zero]; rfl

theorem TableRow.cache_index_store_tag_d (base : BitVec 5) (offset : BitVec 16) : TableRow.Statement (.cache_index_store_tag_d base offset) := by
  show iType 47 base 9 offset &&& iType 63 0 31 0 = 0xBC090000
  rw [iType_and]; simp only [BitVec.ofNat_eq_ofNat, BitVec.and_zero]; rfl

theorem TableRow.cache_hit_invalidate_d (base : BitVec 5) (offset : BitVec 16) : TableRow.Statement (.cache_hit_invalidate_d base offset) := by
  show iType 47 base 17 offset &&& iType 63 0 31 0 = 0xBC110000
  rw [iType_and]; simp only [BitVec.ofNat_eq_ofNat, BitVec.and_zero]; rfl

theorem TableRow.cache_hit_writeback_invalidate_d (base : BitVec 5) (offset : BitVec 16) : TableRow.Statement (.cache_hit_writeback_invalidate_d base offset) := by
  show iType 47 base 21 offset &&& iType 63 0 31 0 = 0xBC150000
  rw [iType_and]; simp only [BitVec.ofNat_eq_ofNat, BitVec.and_zero]; rfl

theorem TableRow.cache_index_load_data_d (base : BitVec 5) (offset : BitVec 16) : TableRow.Statement (.cache_index_load_data_d base offset) := by
  show iType 47 base 25 offset &&& iType 63 0 31 0 = 0xBC190000
  rw [iType_and]; simp only [BitVec.ofNat_eq_ofNat, BitVec.and_zero]; rfl

theorem TableRow.cache_index_store_data_d (base : BitVec 5) (offset : BitVec 16) : TableRow.Statement (.cache_index_store_data_d base offset) := by
  show iType 47 base 29 offset &&& iType 63 0 31 0 = 0xBC1D0000
  rw [iType_and]; simp only [BitVec.ofNat_eq_ofNat, BitVec.and_zero]; rfl

theorem TableRow.cache_index_writeback_invalidate_s (base : BitVec 5) (offset : BitVec 16) : TableRow.Statement (.cache_index_writeback_invalidate_s base offset) := by
  show iType 47 base 3 offset &&& iType 63 0 31 0 = 0xBC030000
  rw [iType_and]; simp only [BitVec.ofNat_eq_ofNat, BitVec.and_zero]; rfl

theorem TableRow.cache_index_load_tag_s (base : BitVec 5) (offset : BitVec 16) : TableRow.Statement (.cache_index_load_tag_s base offset) := by
  show iType 47 base 7 offset &&& iType 63 0 31 0 = 0xBC070000
  rw [iType_and]; simp only [BitVec.ofNat_eq_ofNat, BitVec.and_zero]; rfl

theorem TableRow.cache_index_store_tag_s (base : BitVec 5) (offset : BitVec 16) : TableRow.Statement (.cache_index_store_tag_s base offset) := by
  show iType 47 base 11 offset &&& iType 63 0 31 0 = 0xBC0B0000
  rw [iType_and]; simp only [BitVec.ofNat_eq_ofNat, BitVec.and_zero]; rfl

theorem TableRow.cache_hit_invalidate_s (base : BitVec 5) (offset : BitVec 16) : TableRow.Statement (.cache_hit_invalidate_s base offset) := by
  show iType 47 base 19 offset &&& iType 63 0 31 0 = 0xBC130000
  rw [iType_and]; simp only [BitVec.ofNat_eq_ofNat, BitVec.and_zero]; rfl

theorem TableRow.cache_hit_writeback_invalidate_s (base : BitVec 5) (offset : BitVec 16) : TableRow.Statement (.cache_hit_writeback_invalidate_s base offset) := by
  show iType 47 base 23 offset &&& iType 63 0 31 0 = 0xBC170000
  rw [iType_and]; simp only [BitVec.ofNat_eq_ofNat, BitVec.and_zero]; rfl

theorem TableRow.cache_index_load_data_s (base : BitVec 5) (offset : BitVec 16) : TableRow.Statement (.cache_index_load_data_s base offset) := by
  show iType 47 base 27 offset &&& iType 63 0 31 0 = 0xBC1B0000
  rw [iType_and]; simp only [BitVec.ofNat_eq_ofNat, BitVec.and_zero]; rfl

theorem TableRow.cache_index_store_data_s (base : BitVec 5) (offset : BitVec 16) : TableRow.Statement (.cache_index_store_data_s base offset) := by
  show iType 47 base 31 offset &&& iType 63 0 31 0 = 0xBC1F0000
  rw [iType_and]; simp only [BitVec.ofNat_eq_ofNat, BitVec.and_zero]; rfl

theorem TableRow.add_s (ft : BitVec 5) (fs : BitVec 5) (fd : BitVec 5) : TableRow.Statement (.add_s ft fs fd) := by
  show rType 17 16 ft fs fd 0 &&& rType 63 31 0 0 0 63 = 0x46000000
  rw [rType_and]; simp only [BitVec.ofNat_eq_ofNat, BitVec.and_zero]; rfl

theorem TableRow.add_d (ft : BitVec 5) (fs : BitVec 5) (fd : BitVec 5) : TableRow.Statement (.add_d ft fs fd) := by
  show rType 17 17 ft fs fd 0 &&& rType 63 31 0 0 0 63 = 0x46200000
  rw [rType_and]; simp only [BitVec.ofNat_eq_ofNat, BitVec.and_zero]; rfl

theorem TableRow.sub_s (ft : BitVec 5) (fs : BitVec 5) (fd : BitVec 5) : TableRow.Statement (.sub_s ft fs fd) := by
  show rType 17 16 ft fs fd 1 &&& rType 63 31 0 0 0 63 = 0x46000001
  rw [rType_and]; simp only [BitVec.ofNat_eq_ofNat, BitVec.and_zero]; rfl

theorem TableRow.sub_d (ft : BitVec 5) (fs : BitVec 5) (fd : BitVec 5) : TableRow.Statement (.sub_d ft fs fd) := by
  show rType 17 17 ft fs fd 1 &&& rType 63 31 0 0 0 63 = 0x46200001
  rw [rType_and]; simp only [BitVec.ofNat_eq_ofNat, BitVec.and_zero]; rfl

theorem TableRow.mul_s (ft : BitVec 5) (fs : BitVec 5) (fd : BitVec 5) : TableRow.Statement (.mul_s ft fs fd) := by
  show rType 17 16 ft fs fd 2 &&& rType 63 31 0 0 0 63 = 0x46000002
  rw [rType_and]; simp only [BitVec.ofNat_eq_ofNat, BitVec.and_zero]; rfl

theorem TableRow.mul_d (ft : BitVec 5) (fs : BitVec 5) (fd : BitVec 5) : TableRow.Statement (.mul_d ft fs fd) := by
  show rType 17 17 ft fs fd 2 &&& rType 63 31 0 0 0 63 = 0x46200002
  rw [rType_and]; simp only [BitVec.ofNat_eq_ofNat, BitVec.and_zero]; rfl

theorem TableRow.div_s (ft : BitVec 5) (fs : BitVec 5) (fd : BitVec 5) : TableRow.Statement (.div_s ft fs fd) := by
  show rType 17 16 ft fs fd 3 &&& rType 63 31 0 0 0 63 = 0x46000003
  rw [rType_and]; simp only [BitVec.ofNat_eq_ofNat, BitVec.and_zero]; rfl

theorem TableRow.div_d (ft : BitVec 5) (fs : BitVec 5) (fd : BitVec 5) : TableRow.Statement (.div_d ft fs fd) := by
  show rType 17 17 ft fs fd 3 &&& rType 63 31 0 0 0 63 = 0x46200003
  rw [rType_and]; simp only [BitVec.ofNat_eq_ofNat, BitVec.and_zero]; rfl

theorem TableRow.sqrt_s (fs : BitVec 5) (fd : BitVec 5) : TableRow.Statement (.sqrt_s fs fd) := by
  show rType 17 16 0 fs fd 4 &&& rType 63 31 31 0 0 63 = 0x46000004
  rw [rType_and]; simp only [BitVec.ofNat_eq_ofNat, BitVec.and_zero]; rfl

theorem TableRow.sqrt_d (fs : BitVec 5) (fd : BitVec 5) : TableRow.Statement (.sqrt_d fs fd) := by
  show rType 17 17 0 fs fd 4 &&& rType 63 31 31 0 0 63 = 0x46200004
  rw [rType_and]; simp only [BitVec.ofNat_eq_ofNat, BitVec.and_zero]; rfl

theorem TableRow.abs_s (fs : BitVec 5) (fd : BitVec 5) : TableRow.Statement (.abs_s fs fd) := by
  show rType 17 16 0 fs fd 5 &&& rType 63 31 31 0 0 63 = 0x46000005
  rw [rType_and]; simp only [BitVec.ofNat_eq_ofNat, BitVec.and_zero]; rfl

theorem TableRow.abs_d (fs : BitVec 5) (fd : BitVec 5) : TableRow.Statement (.abs_d fs fd) := by
  show rType 17 17 0 fs fd 5 &&& rType 63 31 31 0 0 63 = 0x46200005
  rw [rType_and]; simp only [BitVec.ofNat_eq_ofNat, BitVec.and_zero]; rfl

theorem TableRow.mov_s (fs : BitVec 5) (fd : BitVec 5) : TableRow.Statement (.mov_s fs fd) := by
  show rType 17 16 0 fs fd 6 &&& rType 63 31 31 0 0 63 = 0x46000006
  rw [rType_and]; simp only [BitVec.ofNat_eq_ofNat, BitVec.and_zero]; rfl

theorem TableRow.mov_d (fs : BitVec 5) (fd : BitVec 5) : TableRow.Statement (.mov_d fs fd) := by
  show rType 17 17 0 fs fd 6 &&& rType 63 31 31 0 0 63 = 0x46200006
  rw [rType_and]; simp only [BitVec.ofNat_eq_ofNat, BitVec.and_zero]; rfl

theorem TableRow.neg_s (fs : BitVec 5) (fd : BitVec 5) : TableRow.Statement (.neg_s fs fd) := by
  show rType 17 16 0 fs fd 7 &&& rType 63 31 31 0 0 63 = 0x46000007
  rw [rType_and]; simp only [BitVec.ofNat_eq_ofNat, BitVec.and_zero]; rfl

theorem TableRow.neg_d (fs : BitVec 5) (fd : BitVec 5) : TableRow.Statement (.neg_d fs fd) := by
  show rType 17 17 0 fs fd 7 &&& rType 63 31 31 0 0 63 = 0x46200007
  rw [rType_and]; simp only [BitVec.ofNat_eq_ofNat, BitVec.and_zero]; rfl

theorem TableRow.round_l_s (fs : BitVec 5) (fd : BitVec 5) : TableRow.Statement (.round_l_s fs fd) := by
  show rType 17 16 0 fs fd 8 &&& rType 63 31 31 0 0 63 = 0x46000008
  rw [rType_and]; simp only [BitVec.ofNat_eq_ofNat, BitVec.and_zero]; rfl

theorem TableRow.round_l_d (fs : BitVec 5) (fd : BitVec 5) : TableRow.Statement (.round_l_d fs fd) := by
  show rType 17 17 0 fs fd 8 &&& rType 63 31 31 0 0 63 = 0x46200008
  rw [rType_and]; simp only [BitVec.ofNat_eq_ofNat, BitVec.and_zero]; rfl

theorem TableRow.trunc_l_s (fs : BitVec 5) (fd : BitVec 5) : TableRow.Statement (.trunc_l_s fs fd) := by
  show rType 17 16 0 fs fd 9 &&& rType 63 31 31 0 0 63 = 0x46000009
  rw [rType_and]; simp only [BitVec.ofNat_eq_ofNat, BitVec.and_zero]; rfl

theorem TableRow.trunc_l_d (fs : BitVec 5) (fd : BitVec 5) : TableRow.Statement (.trunc_l_d fs fd) := by
  show rType 17 17 0 fs fd 9 &&& rType 63 31 31 0 0 63 = 0x46200009
  rw [rType_and]; simp only [BitVec.ofNat_eq_ofNat, BitVec.and_zero]; rfl

theorem TableRow.ceil_l_s (fs : BitVec 5) (fd : BitVec 5) : TableRow.Statement (.ceil_l_s fs fd) := by
  show rType 17 16 0 fs fd 10 &&& rType 63 31 31 0 0 63 = 0x4600000A
  rw [rType_and]; simp only [BitVec.ofNat_eq_ofNat, BitVec.and_zero]; rfl

theorem TableRow.ceil_l_d (fs : BitVec 5) (fd : BitVec 5) : TableRow.Statement (.ceil_l_d fs fd) := by
  show rType 17 17 0 fs fd 10 &&& rType 63 31 31 0 0 63 = 0x4620000A
  rw [rType_and]; simp only [BitVec.ofNat_eq_ofNat, BitVec.and_zero]; rfl

theorem TableRow.floor_l_s (fs : BitVec 5) (fd : BitVec 5) : TableRow.Statement (.floor_l_s fs fd) := by
  show rType 17 16 0 fs fd 11 &&& rType 63 31 31 0 0 63 = 0x4600000B
  rw [rType_and]; simp only [BitVec.ofNat_eq_ofNat, BitVec.and_zero]; rfl

theorem TableRow.floor_l_d (fs : BitVec 5) (fd : BitVec 5) : TableRow.Statement (.floor_l_d fs fd) := by
  show rType 17 17 0 fs fd 11 &&& rType 63 31 31 0 0 63 = 0x4620000B
  rw [rType_and]; simp only [BitVec.ofNat_eq_ofNat, BitVec.and_zero]; rfl

theorem TableRow.round_w_s (fs : BitVec 5) (fd : BitVec 5) : TableRow.Statement (.round_w_s fs fd) := by
  show rType 17 16 0 fs fd 12 &&& rType 63 31 31 0 0 63 = 0x4600000C
  rw [rType_and]; simp only [BitVec.ofNat_eq_ofNat, BitVec.and_zero]; rfl

theorem TableRow.round_w_d (fs : BitVec 5) (fd : BitVec 5) : TableRow.Statement (.round_w_d fs fd) := by
  show rType 17 17 0 fs fd 12 &&& rType 63 31 31 0 0 63 = 0x4620000C
  rw [rType_and]; simp only [BitVec.ofNat_eq_ofNat, BitVec.and_zero]; rfl

theorem TableRow.trunc_w_s (fs : BitVec 5) (fd : BitVec 5) : TableRow.Statement (.trunc_w_s fs fd) := by
  show rType 17 16 0 fs fd 13 &&& rType 63 31 31 0 0 63 = 0x4600000D
  rw [rType_and]; simp only [BitVec.ofNat_eq_ofNat, BitVec.and_zero]; rfl

theorem TableRow.trunc_w_d (fs : BitVec 5) (fd : BitVec 5) : TableRow.Statement (.trunc_w_d fs fd) := by
  show rType 17 17 0 fs fd 13 &&& rType 63 31 31 0 0 63 = 0x4620000D
  rw [rType_and]; simp only [BitVec.ofNat_eq_ofNat, BitVec.and_zero]; rfl

theorem TableRow.ceil_w_s (fs : BitVec 5) (fd : BitVec 5) : TableRow.Statement (.ceil_w_s fs fd) := by
  show rType 17 16 0 fs fd 14 &&& rType 63 31 31 0 0 63 = 0x4600000E
  rw [rType_and]; simp only [BitVec.ofNat_eq_ofNat, BitVec.and_zero]; rfl

theorem TableRow.ceil_w_d (fs : BitVec 5) (fd : BitVec 5) : TableRow.Statement (.ceil_w_d fs fd) := by
  show rType 17 17 0 fs fd 14 &&& rType 63 31 31 0 0 63 = 0x4620000E
  rw [rType_and]; simp only [BitVec.ofNat_eq_ofNat, BitVec.and_zero]; rfl

theorem TableRow.floor_w_s (fs : BitVec 5) (fd : BitVec 5) : TableRow.Statement (.floor_w_s fs fd) := by
  show rType 17 16 0 fs fd 15 &&& rType 63 31 31 0 0 63 = 0x4600000F
  rw [rType_and]; simp only [BitVec.ofNat_eq_ofNat, BitVec.and_zero]; rfl

theorem TableRow.floor_w_d (fs : BitVec 5) (fd : BitVec 5) : TableRow.Statement (.floor_w_d fs fd) := by
  show rType 17 17 0 fs fd 15 &&& rType 63 31 31 0 0 63 = 0x4620000F
  rw [rType_and]; simp only [BitVec.ofNat_eq_ofNat, BitVec.and_zero]; rfl

theorem TableRow.cvt_w_s (fs : BitVec 5) (fd : BitVec 5) : TableRow.Statement (.cvt_w_s fs fd) := by
  show rType 17 16 0 fs fd 36 &&& rType 63 31 31 0 0 63 = 0x46000024
  rw [rType_and]; simp only [BitVec.ofNat_eq_ofNat, BitVec.and_zero]; rfl

theorem TableRow.cvt_w_d (fs : BitVec 5) (fd : BitVec 5) : TableRow.Statement (.cvt_w_d fs fd) := by
  show rType 17 17 0 fs fd 36 &&& rType 63 31 31 0 0 63 = 0x46200024
  rw [rType_and]; simp only [BitVec.ofNat_eq_ofNat, BitVec.and_zero]; rfl

theorem TableRow.cvt_l_s (fs : BitVec 5) (fd : BitVec 5) : TableRow.Statement (.cvt_l_s fs fd) := by
  show rType 17 16 0 fs fd 37 &&& rType 63 31 31 0 0 63 = 0x46000025
  rw [rType_and]; simp only [BitVec.ofNat_eq_ofNat, BitVec.and_zero]; rfl

theorem TableRow.cvt_l_d (fs : BitVec 5) (fd : BitVec 5) : TableRow.Statement (.cvt_l_d fs fd) := by
  show rType 17 17 0 fs fd 37 &&& rType 63 31 31 0 0 63 = 0x46200025
  rw [rType_and]; simp only [BitVec.ofNat_eq_ofNat, BitVec.and_zero]; rfl

theorem TableRow.cvt_s_d (fs : BitVec 5) (fd : BitVec 5) : TableRow.Statement (.cvt_s_d fs fd) := by
  show rType 17 17 0 fs fd 32 &&& rType 63 31 31 0 0 63 = 0x46200020
  rw [rType_and]; simp only [BitVec.ofNat_eq_ofNat, BitVec.and_zero]; rfl

theorem TableRow.cvt_s_w (fs : BitVec 5) (fd : BitVec 5) : TableRow.Statement (.cvt_s_w fs fd) := by
  show rType 17 20 0 fs fd 32 &&& rType 63 31 31 0 0 63 = 0x46800020
  rw [rType_and]; simp only [BitVec.ofNat_eq_ofNat, BitVec.and_zero]; rfl

theorem TableRow.cvt_s_l (fs : BitVec 5) (fd : BitVec 5) : TableRow.Statement (.cvt_s_l fs fd) := by
  show rType 17 21 0 fs fd 32 &&& rType 63 31 31 0 0 63 = 0x46A00020
  rw [rType_and]; simp only [BitVec.ofNat_eq_ofNat, BitVec.and_zero]; rfl

theorem TableRow.cvt_d_s (fs : BitVec 5) (fd : BitVec 5) : TableRow.Statement (.cvt_d_s fs fd) := by
  show rType 17 16 0 fs fd 33 &&& rType 63 31 31 0 0 63 = 0x46000021
  rw [rType_and]; simp only [BitVec.ofNat_eq_ofNat, BitVec.and_zero]; rfl

theorem TableRow.cvt_d_w (fs : BitVec 5) (fd : BitVec 5) : TableRow.Statement (.cvt_d_w fs fd) := by
  show rType 17 20 0 fs fd 33 &&& rType 63 31 31 0 0 63 = 0x46800021
  rw [rType_and]; simp only [BitVec.ofNat_eq_ofNat, BitVec.and_zero]; rfl

theorem TableRow.cvt_d_l (fs : BitVec 5) (fd : BitVec 5) : TableRow.Statement (.cvt_d_l fs fd) := by
  show rType 17 21 0 fs fd 33 &&& rType 63 31 31 0 0 63 = 0x46A00021
  rw [rType_and]; simp only [BitVec.ofNat_eq_ofNat, BitVec.and_zero]; rfl

theorem TableRow.c_f_s (ft : BitVec 5) (fs : BitVec 5) : TableRow.Statement (.c_f_s ft fs) := by
  show rType 17 16 ft fs 0 48 &&& rType 63 31 0 0 31 63 = 0x46000030
  rw [rType_and]; simp only [BitVec.ofNat_eq_ofNat, BitVec.and_zero]; rfl

theorem TableRow.c_f_d (ft : BitVec 5) (fs : BitVec 5) : TableRow.Statement (.c_f_d ft fs) := by
  show rType 17 17 ft fs 0 48 &&& rType 63 31 0 0 31 63 = 0x46200030
  rw [rType_and]; simp only [BitVec.ofNat_eq_ofNat, BitVec.and_zero]; rfl

theorem TableRow.c_un_s (ft : BitVec 5) (fs : BitVec 5) : TableRow.Statement (.c_un_s ft fs) := by
  show rType 17 16 ft fs 0 49 &&& rType 63 31 0 0 31 63 = 0x46000031
  rw [rType_and]; simp only [BitVec.ofNat_eq_ofNat, BitVec.and_zero]; rfl

theorem TableRow.c_un_d (ft : BitVec 5) (fs : BitVec 5) : TableRow.Statement (.c_un_d ft fs) := by
  show rType 17 17 ft fs 0 49 &&& rType 63 31 0 0 31 63 = 0x46200031
  rw [rType_and]; simp only [BitVec.ofNat_eq_ofNat, BitVec.and_zero]; rfl

theorem TableRow.c_eq_s (ft : BitVec 5) (fs : BitVec 5) : TableRow.Statement (.c_eq_s ft fs) := by
  show rType 17 16 ft fs 0 50 &&& rType 63 31 0 0 31 63 = 0x46000032
  rw [rType_and]; simp only [BitVec.ofNat_eq_ofNat, BitVec.and_zero]; rfl

theorem TableRow.c_eq_d (ft : BitVec 5) (fs : BitVec 5) : TableRow.Statement (.c_eq_d ft fs) := by
  show rType 17 17 ft fs 0 50 &&& rType 63 31 0 0 31 63 = 0x46200032
  rw [rType_and]; simp only [BitVec.ofNat_eq_ofNat, BitVec.and_zero]; rfl

theorem TableRow.c_ueq_s (ft : BitVec 5) (fs : BitVec 5) : TableRow.Statement (.c_ueq_s ft fs) := by
  show rType 17 16 ft fs 0 51 &&& rType 63 31 0 0 31 63 = 0x46000033
  rw [rType_and]; simp only [BitVec.ofNat_eq_ofNat, BitVec.and_zero]; rfl

theorem TableRow.c_ueq_d (ft : BitVec 5) (fs : BitVec 5) : TableRow.Statement (.c_ueq_d ft fs) := by
  show rType 17 17 ft fs 0 51 &&& rType 63 31 0 0 31 63 = 0x46200033
  rw [rType_and]; simp only [BitVec.ofNat_eq_ofNat, BitVec.and_zero]; rfl

theorem TableRow.c_olt_s (ft : BitVec 5) (fs : BitVec 5) : TableRow.Statement (.c_olt_s ft fs) := by
  show rType 17 16 ft fs 0 52 &&& rType 63 31 0 0 31 63 = 0x46000034
  rw [rType_and]; simp only [BitVec.ofNat_eq_ofNat, BitVec.and_zero]; rfl

theorem TableRow.c_olt_d (ft : BitVec 5) (fs : BitVec 5) : TableRow.Statement (.c_olt_d ft fs) := by
  show rType 17 17 ft fs 0 52 &&& rType 63 31 0 0 31 63 = 0x46200034
  rw [rType_and]; simp only [BitVec.ofNat_eq_ofNat, BitVec.and_zero]; rfl

theorem TableRow.c_ult_s (ft : BitVec 5) (fs : BitVec 5) : TableRow.Statement (.c_ult_s ft fs) := by
  show rType 17 16 ft fs 0 53 &&& rType 63 31 0 0 31 63 = 0x46000035
  rw [rType_and]; simp only [BitVec.ofNat_eq_ofNat, BitVec.and_zero]; rfl

theorem TableRow.c_ult_d (ft : BitVec 5) (fs : BitVec 5) : TableRow.Statement (.c_ult_d ft fs) := by
  show rType 17 17 ft fs 0 53 &&& rType 63 31 0 0 31 63 = 0x46200035
  rw [rType_and]; simp only [BitVec.ofNat_eq_ofNat, BitVec.and_zero]; rfl

theorem TableRow.c_ole_s (ft : BitVec 5) (fs : BitVec 5) : TableRow.Statement (.c_ole_s ft fs) := by
  show rType 17 16 ft fs 0 54 &&& rType 63 31 0 0 31 63 = 0x46000036
  rw [rType_and]; simp only [BitVec.ofNat_eq_ofNat, BitVec.and_zero]; rfl

theorem TableRow.c_ole_d (ft : BitVec 5) (fs : BitVec 5) : TableRow.Statement (.c_ole_d ft fs) := by
  show rType 17 17 ft fs 0 54 &&& rType 63 31 0 0 31 63 = 0x46200036
  rw [rType_and]; simp only [BitVec.ofNat_eq_ofNat, BitVec.and_zero]; rfl

theorem TableRow.c_ule_s (ft : BitVec 5) (fs : BitVec 5) : TableRow.Statement (.c_ule_s ft fs) := by
  show rType 17 16 ft fs 0 55 &&& rType 63 31 0 0 31 63 = 0x46000037
  rw [rType_and]; simp only [BitVec.ofNat_eq_ofNat, BitVec.and_zero]; rfl

theorem TableRow.c_ule_d (ft : BitVec 5) (fs : BitVec 5) : TableRow.Statement (.c_ule_d ft fs) := by
  show rType 17 17 ft fs 0 55 &&& rType 63 31 0 0 31 63 = 0x46200037
  rw [rType_and]; simp only [BitVec.ofNat_eq_ofNat, BitVec.and_zero]; rfl

theorem TableRow.c_sf_s (ft : BitVec 5) (fs : BitVec 5) : TableRow.Statement (.c_sf_s ft fs) := by
  show rType 17 16 ft fs 0 56 &&& rType 63 31 0 0 31 63 = 0x46000038
  rw [rType_and]; simp only [BitVec.ofNat_eq_ofNat, BitVec.and_zero]; rfl

theorem TableRow.c_sf_d (ft : BitVec 5) (fs : BitVec 5) : TableRow.Statement (.c_sf_d ft fs) := by
  show rType 17 17 ft fs 0 56 &&& rType 63 31 0 0 31 63 = 0x46200038
  rw [rType_and]; simp only [BitVec.ofNat_eq_ofNat, BitVec.and_zero]; rfl

theorem TableRow.c_ngle_s (ft : BitVec 5) (fs : BitVec 5) : TableRow.Statement (.c_ngle_s ft fs) := by
  show rType 17 16 ft fs 0 57 &&& rType 63 31 0 0 31 63 = 0x46000039
  rw [rType_and]; simp only [BitVec.ofNat_eq_ofNat, BitVec.and_zero]; rfl

theorem TableRow.c_ngle_d (ft : BitVec 5) (fs : BitVec 5) : TableRow.Statement (.c_ngle_d ft fs) := by
  show rType 17 17 ft fs 0 57 &&& rType 63 31 0 0 31 63 = 0x46200039
  rw [rType_and]; simp only [BitVec.ofNat_eq_ofNat, BitVec.and_zero]; rfl

theorem TableRow.c_seq_s (ft : BitVec 5) (fs : BitVec 5) : TableRow.Statement (.c_seq_s ft fs) := by
  show rType 17 16 ft fs 0 58 &&& rType 63 31 0 0 31 63 = 0x4600003A
  rw [rType_and]; simp only [BitVec.ofNat_eq_ofNat, BitVec.and_zero]; rfl

theorem TableRow.c_seq_d (ft : BitVec 5) (fs : BitVec 5) : TableRow.Statement (.c_seq_d ft fs) := by
  show rType 17 17 ft fs 0 58 &&& rType 63 31 0 0 31 63 = 0x4620003A
  rw [rType_and]; simp only [BitVec.ofNat_eq_ofNat, BitVec.and_zero]; rfl

theorem TableRow.c_ngl_s (ft : BitVec 5) (fs : BitVec 5) : TableRow.Statement (.c_ngl_s ft fs) := by
  show rType 17 16 ft fs 0 59 &&& rType 63 31 0 0 31 63 = 0x4600003B
  rw [rType_and]; simp only [BitVec.ofNat_eq_ofNat, BitVec.and_zero]; rfl

theorem TableRow.c_ngl_d (ft : BitVec 5) (fs : BitVec 5) : TableRow.Statement (.c_ngl_d ft fs) := by
  show rType 17 17 ft fs 0 59 &&& rType 63 31 0 0 31 63 = 0x4620003B
  rw [rType_and]; simp only [BitVec.ofNat_eq_ofNat, BitVec.and_zero]; rfl

theorem TableRow.c_lt_s (ft : BitVec 5) (fs : BitVec 5) : TableRow.Statement (.c_lt_s ft fs) := by
  show rType 17 16 ft fs 0 60 &&& rType 63 31 0 0 31 63 = 0x4600003C
  rw [rType_and]; simp only [BitVec.ofNat_eq_ofNat, BitVec.and_zero]; rfl

theorem TableRow.c_lt_d (ft : BitVec 5) (fs : BitVec 5) : TableRow.Statement (.c_lt_d ft fs) := by
  show rType 17 17 ft fs 0 60 &&& rType 63 31 0 0 31 63 = 0x4620003C
  rw [rType_and]; simp only [BitVec.ofNat_eq_ofNat, BitVec.and_zero]; rfl

theorem TableRow.c_nge_s (ft : BitVec 5) (fs : BitVec 5) : TableRow.Statement (.c_nge_s ft fs) := by
  show rType 17 16 ft fs 0 61 &&& rType 63 31 0 0 31 63 = 0x4600003D
  rw [rType_and]; simp only [BitVec.ofNat_eq_ofNat, BitVec.and_zero]; rfl

theorem TableRow.c_nge_d (ft : BitVec 5) (fs : BitVec 5) : TableRow.Statement (.c_nge_d ft fs) := by
  show rType 17 17 ft fs 0 61 &&& rType 63 31 0 0 31 63 = 0x4620003D
  rw [rType_and]; simp only [BitVec.ofNat_eq_ofNat, BitVec.and_zero]; rfl

theorem TableRow.c_le_s (ft : BitVec 5) (fs : BitVec 5) : TableRow.Statement (.c_le_s ft fs) := by
  show rType 17 16 ft fs 0 62 &&& rType 63 31 0 0 31 63 = 0x4600003E
  rw [rType_and]; simp only [BitVec.ofNat_eq_ofNat, BitVec.and_zero]; rfl

theorem TableRow.c_le_d (ft : BitVec 5) (fs : BitVec 5) : TableRow.Statement (.c_le_d ft fs) := by
  show rType 17 17 ft fs 0 62 &&& rType 63 31 0 0 31 63 = 0x4620003E
  rw [rType_and]; simp only [BitVec.ofNat_eq_ofNat, BitVec.and_zero]; rfl

theorem TableRow.c_ngt_s (ft : BitVec 5) (fs : BitVec 5) : TableRow.Statement (.c_ngt_s ft fs) := by
  show rType 17 16 ft fs 0 63 &&& rType 63 31 0 0 31 63 = 0x4600003F
  rw [rType_and]; simp only [BitVec.ofNat_eq_ofNat, BitVec.and_zero]; rfl

theorem TableRow.c_ngt_d (ft : BitVec 5) (fs : BitVec 5) : TableRow.Statement (.c_ngt_d ft fs) := by
  show rType 17 17 ft fs 0 63 &&& rType 63 31 0 0 31 63 = 0x4620003F
  rw [rType_and]; simp only [BitVec.ofNat_eq_ofNat, BitVec.and_zero]; rfl

theorem TableRow.mfc1 (rt : BitVec 5) (fs : BitVec 5) : TableRow.Statement (.mfc1 rt fs) := by
  show rType 17 0 rt fs 0 0 &&& rType 63 31 0 0 31 63 = 0x44000000
  rw [rType_and]; simp only [BitVec.ofNat_eq_ofNat, BitVec.and_zero]; rfl

theorem TableRow.mtc1 (rt : BitVec 5) (fs : BitVec 5) : TableRow.Statement (.mtc1 rt fs) := by
  show rType 17 4 rt fs 0 0 &&& rType 63 31 0 0 31 63 = 0x44800000
  rw [rType_and]; simp only [BitVec.ofNat_eq_ofNat, BitVec.and_zero]; rfl

theorem TableRow.dmfc1 (rt : BitVec 5) (fs : BitVec 5) : TableRow.Statement (.dmfc1 rt fs) := by
  show rType 17 1 rt fs 0 0 &&& rType 63 31 0 0 31 63 = 0x44200000
  rw [rType_and]; simp only [BitVec.ofNat_eq_ofNat, BitVec.and_zero]; rfl

theorem TableRow.dmtc1 (rt : BitVec 5) (fs : BitVec 5) : TableRow.Statement (.dmtc1 rt fs) := by
  show rType 17 5 rt fs 0 0 &&& rType 63 31 0 0 31 63 = 0x44A00000
  rw [rType_and]; simp only [BitVec.ofNat_eq_ofNat, BitVec.and_zero]; rfl

theorem TableRow.cfc1 (rt : BitVec 5) (fs : BitVec 5) : TableRow.Statement (.cfc1 rt fs) := by
  show rType 17 2 rt fs 0 0 &&& rType 63 31 0 0 31 63 = 0x44400000
  rw [rType_and]; simp only [BitVec.ofNat_eq_ofNat, BitVec.and_zero]; rfl

theorem TableRow.ctc1 (rt : BitVec 5) (fs : BitVec 5) : TableRow.Statement (.ctc1 rt fs) := by
  show rType 17 6 rt fs 0 0 &&& rType 63 31 0 0 31 63 = 0x44C00000
  rw [rType_and]; simp only [BitVec.ofNat_eq_ofNat, BitVec.and_zero]; rfl

theorem TableRow.bc1f (offset : BitVec 16) : TableRow.Statement (.bc1f offset) := by
  show iType 17 8 0 offset &&& iType 63 31 31 0 = 0x45000000
  rw [iType_and]; simp only [BitVec.ofNat_eq_ofNat, BitVec.and_zero]; rfl

theorem TableRow.bc1t (offset : BitVec 16) : TableRow.Statement (.bc1t offset) := by
  show iType 17 8 1 offset &&& iType 63 31 31 0 = 0x45010000
  rw [iType_and]; simp only [BitVec.ofNat_eq_ofNat, BitVec.and_zero]; rfl

theorem TableRow.bc1fl (offset : BitVec 16) : TableRow.Statement (.bc1fl offset) := by
  show iType 17 8 2 offset &&& iType 63 31 31 0 = 0x45020000
  rw [iType_and]; simp only [BitVec.ofNat_eq_ofNat, BitVec.and_zero]; rfl

theorem TableRow.bc1tl (offset : BitVec 16) : TableRow.Statement (.bc1tl offset) := by
  show iType 17 8 3 offset &&& iType 63 31 31 0 = 0x45030000
  rw [iType_and]; simp only [BitVec.ofNat_eq_ofNat, BitVec.and_zero]; rfl

theorem TableRow.add_ps (ft : BitVec 5) (fs : BitVec 5) (fd : BitVec 5) : TableRow.Statement (.add_ps ft fs fd) := by
  show rType 17 22 ft fs fd 0 &&& rType 63 31 0 0 0 63 = 0x46C00000
  rw [rType_and]; simp only [BitVec.ofNat_eq_ofNat, BitVec.and_zero]; rfl

theorem TableRow.sub_ps (ft : BitVec 5) (fs : BitVec 5) (fd : BitVec 5) : TableRow.Statement (.sub_ps ft fs fd) := by
  show rType 17 22 ft fs fd 1 &&& rType 63 31 0 0 0 63 = 0x46C00001
  rw [rType_and]; simp only [BitVec.ofNat_eq_ofNat, BitVec.and_zero]; rfl

theorem TableRow.mul_ps (ft : BitVec 5) (fs : BitVec 5) (fd : BitVec 5) : TableRow.Statement (.mul_ps ft fs fd) := by
  show rType 17 22 ft fs fd 2 &&& rType 63 31 0 0 0 63 = 0x46C00002
  rw [rType_and]; simp only [BitVec.ofNat_eq_ofNat, BitVec.and_zero]; rfl

theorem TableRow.abs_ps (fs : BitVec 5) (fd : BitVec 5) : TableRow.Statement (.abs_ps fs fd) := by
  show rType 17 22 0 fs fd 5 &&& rType 63 31 31 0 0 63 = 0x46C00005
  rw [rType_and]; simp only [BitVec.ofNat_eq_ofNat, BitVec.and_zero]; rfl

theorem TableRow.mov_ps (fs : BitVec 5) (fd : BitVec 5) : TableRow.Statement (.mov_ps fs fd) := by
  show rType 17 22 0 fs fd 6 &&& rType 63 31 31 0 0 63 = 0x46C00006
  rw [rType_and]; simp only [BitVec.ofNat_eq_ofNat, BitVec.and_zero]; rfl

theorem TableRow.neg_ps (fs : BitVec 5) (fd : BitVec 5) : TableRow.Statement (.neg_ps fs fd) := by
  show rType 17 22 0 fs fd 7 &&& rType 63 31 31 0 0 63 = 0x46C00007
  rw [rType_and]; simp only [BitVec.ofNat_eq_ofNat, BitVec.and_zero]; rfl

theorem TableRow.c_f_ps (ft : BitVec 5) (fs : BitVec 5) : TableRow.Statement (.c_f_ps ft fs) := by
  show rType 17 22 ft fs 0 48 &&& rType 63 31 0 0 31 63 = 0x46C00030
  rw [rType_and]; simp only [BitVec.ofNat_eq_ofNat, BitVec.and_zero]; rfl

theorem TableRow.c_un_ps (ft : BitVec 5) (fs : BitVec 5) : TableRow.Statement (.c_un_ps ft fs) := by
  show rType 17 22 ft fs 0 49 &&& rType 63 31 0 0 31 63 = 0x46C00031
  rw [rType_and]; simp only [BitVec.ofNat_eq_ofNat, BitVec.and_zero]; rfl

theorem TableRow.c_eq_ps (ft : BitVec 5) (fs : BitVec 5) : TableRow.Statement (.c_eq_ps ft fs) := by
  show rType 17 22 ft fs 0 50 &&& rType 63 31 0 0 31 63 = 0x46C00032
  rw [rType_and]; simp only [BitVec.ofNat_eq_ofNat, BitVec.and_zero]; rfl

theorem TableRow.c_ueq_ps (ft : BitVec 5) (fs : BitVec 5) : TableRow.Statement (.c_ueq_ps ft fs) := by
  show rType 17 22 ft fs 0 51 &&& rType 63 31 0 0 31 63 = 0x46C00033
  rw [rType_and]; simp only [BitVec.ofNat_eq_ofNat, BitVec.and_zero]; rfl

theorem TableRow.c_olt_ps (ft : BitVec 5) (fs : BitVec 5) : TableRow.Statement (.c_olt_ps ft fs) := by
  show rType 17 22 ft fs 0 52 &&& rType 63 31 0 0 31 63 = 0x46C00034
  rw [rType_and]; simp only [BitVec.ofNat_eq_ofNat, BitVec.and_zero]; rfl

theorem TableRow.c_ult_ps (ft : BitVec 5) (fs : BitVec 5) : TableRow.Statement (.c_ult_ps ft fs) := by
  show rType 17 22 ft fs 0 53 &&& rType 63 31 0 0 31 63 = 0x46C00035
  rw [rType_and]; simp only [BitVec.ofNat_eq_ofNat, BitVec.and_zero]; rfl

theorem TableRow.c_ole_ps (ft : BitVec 5) (fs : BitVec 5) : TableRow.Statement (.c_ole_ps ft fs) := by
  show rType 17 22 ft fs 0 54 &&& rType 63 31 0 0 31 63 = 0x46C00036
  rw [rType_and]; simp only [BitVec.ofNat_eq_ofNat, BitVec.and_zero]; rfl

theorem TableRow.c_ule_ps (ft : BitVec 5) (fs : BitVec 5) : TableRow.Statement (.c_ule_ps ft fs) := by
  show rType 17 22 ft fs 0 55 &&& rType 63 31 0 0 31 63 = 0x46C00037
  rw [rType_and]; simp only [BitVec.ofNat_eq_ofNat, BitVec.and_zero]; rfl

theorem TableRow.c_sf_ps (ft : BitVec 5) (fs : BitVec 5) : TableRow.Statement (.c_sf_ps ft fs) := by
  show rType 17 22 ft fs 0 56 &&& rType 63 31 0 0 31 63 = 0x46C00038
  rw [rType_and]; simp only [BitVec.ofNat_eq_ofNat, BitVec.and_zero]; rfl

theorem TableRow.c_ngle_ps (ft : BitVec 5) (fs : BitVec 5) : TableRow.Statement (.c_ngle_ps ft fs) := by
  show rType 17 22 ft fs 0 57 &&& rType 63 31 0 0 31 63 = 0x46C00039
  rw [rType_and]; simp only [BitVec.ofNat_eq_ofNat, BitVec.and_zero]; rfl

theorem TableRow.c_seq_ps (ft : BitVec 5) (fs : BitVec 5) : TableRow.Statement (.c_seq_ps ft fs) := by
  show rType 17 22 ft fs 0 58 &&& rType 63 31 0 0 31 63 = 0x46C0003A
  rw [rType_and]; simp only [BitVec.ofNat_eq_ofNat, BitVec.and_zero]; rfl

theorem TableRow.c_ngl_ps (ft : BitVec 5) (fs : BitVec 5) : TableRow.Statement (.c_ngl_ps ft fs) := by
  show rType 17 22 ft fs 0 59 &&& rType 63 31 0 0 31 63 = 0x46C0003B
  rw [rType_and]; simp only [BitVec.ofNat_eq_ofNat, BitVec.and_zero]; rfl

theorem TableRow.c_lt_ps (ft : BitVec 5) (fs : BitVec 5) : TableRow.Statement (.c_lt_ps ft fs) := by
  show rType 17 22 ft fs 0 60 &&& rType 63 31 0 0 31 63 = 0x46C0003C
  rw [rType_and]; simp only [BitVec.ofNat_eq_ofNat, BitVec.and_zero]; rfl

theorem TableRow.c_nge_ps (ft : BitVec 5) (fs : BitVec 5) : TableRow.Statement (.c_nge_ps ft fs) := by
  show rType 17 22 ft fs 0 61 &&& rType 63 31 0 0 31 63 = 0x46C0003D
  rw [rType_and]; simp only [BitVec.ofNat_eq_ofNat, BitVec.and_zero]; rfl

theorem TableRow.c_le_ps (ft : BitVec 5) (fs : BitVec 5) : TableRow.Statement (.c_le_ps ft fs) := by
  show rType 17 22 ft fs 0 62 &&& rType 63 31 0 0 31 63 = 0x46C0003E
  rw [rType_and]; simp only [BitVec.ofNat_eq_ofNat, BitVec.and_zero]; rfl

theorem TableRow.c_ngt_ps (ft : BitVec 5) (fs : BitVec 5) : TableRow.Statement (.c_ngt_ps ft fs) := by
  show rType 17 22 ft fs 0 63 &&& rType 63 31 0 0 31 63 = 0x46C0003F
  rw [rType_and]; simp only [BitVec.ofNat_eq_ofNat, BitVec.and_zero]; rfl

theorem TableRow.madd_s (ft : BitVec 5) (fs : BitVec 5) (fd : BitVec 5) : TableRow.Statement (.madd_s ft fs fd) := by
  show rType 28 16 ft fs fd 24 &&& rType 63 31 0 0 0 63 = 0x72000018
  rw [rType_and]; simp only [BitVec.ofNat_eq_ofNat, BitVec.and_zero]; rfl

theorem TableRow.madd_d (ft : BitVec 5) (fs : BitVec 5) (fd : BitVec 5) : TableRow.Statement (.madd_d ft fs fd) := by
  show rType 28 17 ft fs fd 24 &&& rType 63 31 0 0 0 63 = 0x72200018
  rw [rType_and]; simp only [BitVec.ofNat_eq_ofNat, BitVec.and_zero]; rfl

theorem TableRow.madd_ps (ft : BitVec 5) (fs : BitVec 5) (fd : BitVec 5) : TableRow.Statement (.madd_ps ft fs fd) := by
  show rType 28 11 ft fs fd 24 &&& rType 63 31 0 0 0 63 = 0x71600018
  rw [rType_and]; simp only [BitVec.ofNat_eq_ofNat, BitVec.and_zero]; rfl

theorem TableRow.msub_s (ft : BitVec 5) (fs : BitVec 5) (fd : BitVec 5) : TableRow.Statement (.msub_s ft fs fd) := by
  show rType 28 16 ft fs fd 25 &&& rType 63 31 0 0 0 63 = 0x72000019
  rw [rType_and]; simp only [BitVec.ofNat_eq_ofNat, BitVec.and_zero]; rfl

theorem TableRow.msub_d (ft : BitVec 5) (fs : BitVec 5) (fd : BitVec 5) : TableRow.Statement (.msub_d ft fs fd) := by
  show rType 28 17 ft fs fd 25 &&& rType 63 31 0 0 0 63 = 0x72200019
  rw [rType_and]; simp only [BitVec.ofNat_eq_ofNat, BitVec.and_zero]; rfl

theorem TableRow.msub_ps (ft : BitVec 5) (fs : BitVec 5) (fd : BitVec 5) : TableRow.Statement (.msub_ps ft fs fd) := by
  show rType 28 11 ft fs fd 25 &&& rType 63 31 0 0 0 63 = 0x71600019
  rw [rType_and]; simp only [BitVec.ofNat_eq_ofNat, BitVec.and_zero]; rfl

theorem TableRow.nmadd_s (ft : BitVec 5) (fs : BitVec 5) (fd : BitVec 5) : TableRow.Statement (.nmadd_s ft fs fd) := by
  show rType 28 16 ft fs fd 26 &&& rType 63 31 0 0 0 63 = 0x7200001A
  rw [rType_and]; simp only [BitVec.ofNat_eq_ofNat, BitVec.and_zero]; rfl

theorem TableRow.nmadd_d (ft : BitVec 5) (fs : BitVec 5) (fd : BitVec 5) : TableRow.Statement (.nmadd_d ft fs fd) := by
  show rType 28 17 ft fs fd 26 &&& rType 63 31 0 0 0 63 = 0x7220001A
  rw [rType_and]; simp only [BitVec.ofNat_eq_ofNat, BitVec.and_zero]; rfl

theorem TableRow.nmadd_ps (ft : BitVec 5) (fs : BitVec 5) (fd : BitVec 5) : TableRow.Statement (.nmadd_ps ft fs fd) := by
  show rType 28 11 ft fs fd 26 &&& rType 63 31 0 0 0 63 = 0x7160001A
  rw [rType_and]; simp only [BitVec.ofNat_eq_ofNat, BitVec.and_zero]; rfl

theorem TableRow.nmsub_s (ft : BitVec 5) (fs : BitVec 5) (fd : BitVec 5) : TableRow.Statement (.nmsub_s ft fs fd) := by
  show rType 28 16 ft fs fd 27 &&& rType 63 31 0 0 0 63 = 0x7200001B
  rw [rType_and]; simp only [BitVec.ofNat_eq_ofNat, BitVec.and_zero]; rfl

theorem TableRow.nmsub_d (ft : BitVec 5) (fs : BitVec 5) (fd : BitVec 5) : TableRow.Statement (.nmsub_d ft fs fd) := by
  show rType 28 17 ft fs fd 27 &&& rType 63 31 0 0 0 63 = 0x7220001B
  rw [rType_and]; simp only [BitVec.ofNat_eq_ofNat, BitVec.and_zero]; rfl

theorem TableRow.nmsub_ps (ft : BitVec 5) (fs : BitVec 5) (fd : BitVec 5) : TableRow.Statement (.nmsub_ps ft fs fd) := by
  show rType 28 11 ft fs fd 27 &&& rType 63 31 0 0 0 63 = 0x7160001B
  rw [rType_and]; simp only [BitVec.ofNat_eq_ofNat, BitVec.and_zero]; rfl

end Sys2Proof.Laws
end

