-- ==== Sys2Proof/Safety.lean ====
section
/-! DEFINITION. What counts as a safe step and a safe run, the properties of a state that every step keeps, and the
terms in which the statements say what an instruction does and what it leaves alone. -/

namespace Sys2Proof.Machine

/-! ### Safe steps and runs -/

/-- The next step of the machine neither faults nor is refused. -/
def Safe (s : State) : Prop := ∃ t, step s = .next t

/-- `t` is reached from `s` in `n` steps. -/
inductive Reaches : Nat → State → State → Prop where
  | refl (s : State) : Reaches 0 s s
  | next {n : Nat} {s t u : State} : step s = .next t → Reaches n t u → Reaches (n + 1) s u

/-- Every state that a run of fewer than `n` steps reaches steps safely. -/
def SafeFor (n : Nat) (s : State) : Prop := ∀ m t, m < n → Reaches m s t → Safe t

/-! ### Invariants -/

/-- Memory, BOOT_ROM, the three caches and the bit errors of the DDR2 memory are in canonical form: addresses rising,
nothing listed that an unlisted address reads as. -/
def State.canonical (s : State) : Prop :=
  Memory.wf s.mem = true ∧ Memory.wf s.rom = true ∧ cellWf ILine.empty s.icache = true ∧
    cellWf DLine.empty s.dcache = true ∧ cellWf SLine.empty s.scache = true ∧ cellWf 0 s.ddr.flips = true

/-- The storage behind r0 holds zero (R21). -/
def State.zeroRegister (s : State) : Prop := s.gpr[0] = 0

/-- The bits of the CP0 registers that R33 to R52 reserve as zero are zero. -/
def State.cp0Reserved (s : State) : Prop :=
  s.cp0.entryLo0 &&& ~~~entryLoMask = 0 ∧ s.cp0.entryLo1 &&& ~~~entryLoMask = 0 ∧
    s.cp0.context.extractLsb' 0 4 = 0 ∧ s.cp0.pageMask &&& ~~~pageMaskMask = 0 ∧
    s.cp0.entryHi &&& ~~~entryHiMask = 0 ∧ s.cp0.status &&& ~~~statusMask = 0 ∧
    s.cp0.watch &&& ~~~watchMask = 0 ∧ s.cp0.xcontext.extractLsb' 0 4 = 0 ∧
    s.cp0.diagnostic &&& ~~~diagnosticMask = 0 ∧ s.cp0.perfControl &&& ~~~perfControlMask = 0

/-- The bits of FCR31 that R29 reserves are zero. -/
def State.fcr31Reserved (s : State) : Prop := s.fcr31 &&& ~~~fcr31Mask = 0

/-- Random lies between Wired and 63 (R32). -/
def State.randomInRange (s : State) : Prop := s.cp0.wired ≤ s.cp0.random

/-! ### What stays -/

/-- Every byte of memory and of BOOT_ROM reads as before, and every cache line is as before. -/
def SameMemory (s t : State) : Prop :=
  (∀ a, readByte t.mem a = readByte s.mem a) ∧ (∀ a, readByte t.rom a = readByte s.rom a) ∧
    (∀ k, t.iLine k = s.iLine k) ∧ (∀ k, t.dLine k = s.dLine k) ∧ (∀ k, t.sLine k = s.sLine k)

/-- Nothing but the general registers and the program counter has changed. -/
def OnlyRegisters (s t : State) : Prop :=
  t = { s with gpr := t.gpr, pc := t.pc, delay := t.delay } ∧ SameMemory s t

/-- Nothing but the program counter has changed. -/
def OnlyPc (s t : State) : Prop := t = { s with pc := t.pc, delay := t.delay } ∧ SameMemory s t

/-- Nothing but the floating-point registers, FCR31 and the program counter has changed. -/
def OnlyFpu (s t : State) : Prop :=
  t = { s with fpr := t.fpr, fcr31 := t.fcr31, pc := t.pc, delay := t.delay } ∧ SameMemory s t

/-- Nothing but CP0 and the program counter has changed. -/
def OnlyCp0 (s t : State) : Prop :=
  t = { s with cp0 := t.cp0, pc := t.pc, delay := t.delay } ∧ SameMemory s t

/-- The time of the next event, if there is one, has not come (R79). -/
def NoEventDue (s : State) : Prop := ∀ e ∈ s.events.head?, e.after ≠ 0

/-- Control goes on behind the instruction: to the pending target if the instruction stood in a delay slot, otherwise
to the next word (R24, R330). -/
def GoesOn (s t : State) : Prop := t.pc = s.delay.getD (s.pc + 4) ∧ t.delay = none

/-! ### General registers -/

/-- Register `rd` holds `v` and every other register its old value; r0 reads zero whatever is written to it (R21). -/
def RegisterSet (s t : State) (rd : Reg) (v : Dword) : Prop :=
  ∀ r, t.readGpr r = if r = rd ∧ rd ≠ 0 then v else s.readGpr r

/-- The word `w` is the instruction `i`, which completes in every state: it sets `rd` and changes nothing else. -/
def Computes (w : Word) (i : Instr) (rd : Reg) (v : State → Dword) : Prop :=
  decode w = .ok i ∧
    ∀ s, ∃ t, exec i s = .next t ∧ RegisterSet s t rd (v s) ∧ OnlyRegisters s t ∧ GoesOn s t

/-- As `Computes`, for an exact integer result of `bits` bits: outside its range the instruction takes the integer
overflow exception and no register changes. -/
def ComputesOrOverflows (w : Word) (i : Instr) (rd : Reg) (bits : Nat) (v : State → Int) : Prop :=
  decode w = .ok i ∧
    ∀ s,
      (-(2 ^ (bits - 1)) ≤ v s ∧ v s < 2 ^ (bits - 1) →
        ∃ t, exec i s = .next t ∧ RegisterSet s t rd (BitVec.ofInt 64 (v s)) ∧ OnlyRegisters s t ∧ GoesOn s t) ∧
      (¬ (-(2 ^ (bits - 1)) ≤ v s ∧ v s < 2 ^ (bits - 1)) → exec i s = .next (takeException .overflow s))

/-- The low word of a general register as a signed integer. -/
def State.wordInt (s : State) (r : Reg) : Int := (low32 (s.readGpr r)).toInt

/-- The low word of a general register as an unsigned integer. -/
def State.wordNat (s : State) (r : Reg) : Int := (low32 (s.readGpr r)).toNat

/-- A general register as a signed integer. -/
def State.regInt (s : State) (r : Reg) : Int := (s.readGpr r).toInt

/-- A general register as an unsigned integer. -/
def State.regNat (s : State) (r : Reg) : Int := (s.readGpr r).toNat

/-- The low 32 bits of an integer, sign-extended to a register: what R10 calls sext32. -/
def wordOf (i : Int) : Dword := BitVec.ofInt 64 (i.bmod (2 ^ 32))

/-- The low 64 bits of an integer. -/
def doubleOf (i : Int) : Dword := BitVec.ofInt 64 i

/-- `q` and `r` are the quotient truncated toward zero and the remainder, which has the sign of the dividend (R291). -/
def Truncates (a b q r : Int) : Prop :=
  a = q * b + r ∧ r.natAbs < b.natAbs ∧ (r = 0 ∨ (r < 0 ↔ a < 0))

/-- The instruction completes in every state, sets HI and LO, and changes nothing else. -/
def SetsHiLo (w : Word) (i : Instr) (result : State → Dword → Dword → Prop) : Prop :=
  decode w = .ok i ∧
    ∀ s, ∃ t, exec i s = .next t ∧ result s t.hi t.lo ∧
      t = { s with hi := t.hi, lo := t.lo, pc := t.pc, delay := t.delay } ∧ SameMemory s t ∧ GoesOn s t

/-! ### Control transfers (R330 to R335) -/

/-- Outside a delay slot the instruction puts the next word into the delay slot of `target` and writes the link
register (r0: none); in a delay slot it is refused (R332). -/
def Transfers (w : Word) (i : Instr) (link : Reg) (target : State → Dword) : Prop :=
  decode w = .ok i ∧
    ∀ s,
      (s.delay = none →
        ∃ t, exec i s = .next t ∧ t.pc = s.pc + 4 ∧ t.delay = some (target s) ∧
          RegisterSet s t link (s.pc + 8) ∧ OnlyRegisters s t) ∧
      (s.delay ≠ none → exec i s = .refused .delaySlotBranch)

/-- A likely branch: as `Transfers` if taken, otherwise the delay slot is skipped (R331). -/
def TransfersLikely (w : Word) (i : Instr) (link : Reg) (taken : State → Prop) (target : State → Dword) : Prop :=
  decode w = .ok i ∧
    ∀ s,
      (s.delay = none →
        ∃ t, exec i s = .next t ∧
          (taken s → t.pc = s.pc + 4 ∧ t.delay = some (target s)) ∧
          (¬ taken s → t.pc = s.pc + 8 ∧ t.delay = none) ∧
          RegisterSet s t link (s.pc + 8) ∧ OnlyRegisters s t) ∧
      (s.delay ≠ none → exec i s = .refused .delaySlotBranch)

/-- The target of a branch: four times the offset from the delay slot (R335). -/
def branchDestination (offset : BitVec 16) (s : State) : Dword := s.pc + 4 + BitVec.ofInt 64 (4 * offset.toInt)

/-- The target of J and JAL: the word in the 256 MB region of the delay slot (R335). -/
def jumpDestination (target : BitVec 26) (s : State) : Dword :=
  ((s.pc + 4) &&& ~~~(0x0FFFFFFF : Dword)) ||| BitVec.ofNat 64 (4 * target.toNat)

/-! ### Exceptions (R620, R630) -/

/-- `t` is `s` after the entry procedure of R630 for an exception with this code: EPC, Cause.BD, Cause.ExcCode,
Status.EXL and the vector; Cause.CE, BadVAddr, Context, XContext and EntryHi are left to other statements, and
everything else is kept. -/
def Enters (s t : State) (code : BitVec 5) (refill : Bool) : Prop :=
  (s.exl = false →
      t.cp0.epc = (if s.delay = none then s.pc else s.pc - 4) ∧ t.cp0.cause.bd = s.delay.isSome) ∧
    (s.exl = true → t.cp0.epc = s.cp0.epc ∧ t.cp0.cause.bd = s.cp0.cause.bd) ∧
    t.cp0.cause.excCode = code ∧
    t.cp0.status = s.cp0.status ||| 2 ∧
    t.pc = (if s.bev then 0xFFFFFFFFBFC00200 else 0xFFFFFFFF80000000) +
      (if refill = true ∧ s.exl = false then 0 else 0x180) ∧
    t.delay = none ∧
    t = { s with
      pc := t.pc, delay := t.delay, taken := t.taken
      cp0 := { s.cp0 with
        epc := t.cp0.epc, status := t.cp0.status, badVAddr := t.cp0.badVAddr, context := t.cp0.context
        xcontext := t.cp0.xcontext, entryHi := t.cp0.entryHi
        cause := { s.cp0.cause with
          bd := t.cp0.cause.bd, ce := t.cp0.cause.ce, excCode := t.cp0.cause.excCode } } } ∧
    SameMemory s t

/-- An exception that carries no address leaves the address registers alone (R630). -/
def SameAddressRegisters (s t : State) : Prop :=
  t.cp0.badVAddr = s.cp0.badVAddr ∧ t.cp0.context = s.cp0.context ∧ t.cp0.xcontext = s.cp0.xcontext ∧
    t.cp0.entryHi = s.cp0.entryHi

/-- A conditional trap: the exception if the condition holds, otherwise nothing happens (R403). -/
def TrapsIf (w : Word) (i : Instr) (condition : State → Prop) : Prop :=
  decode w = .ok i ∧
    ∀ s,
      (condition s → exec i s = .next (takeException .trap s)) ∧
      (¬ condition s → ∃ t, exec i s = .next t ∧ OnlyPc s t ∧ GoesOn s t)

/-! ### Data accesses -/

/-- The `n` bytes of memory from `a` on as a number, the lowest address least significant (R101). -/
def memNat (m : List Host.Cell) (a : Nat) : Nat → Nat
  | 0 => 0
  | n + 1 => (readByte m a).toNat + 256 * memNat m (a + 1) n

/-- The `n` bytes of a cache line from byte `o` on as a number. -/
def lineNat (d : LineData) (o n : Nat) : Nat := d.toNat / 2 ^ (8 * o) % 2 ^ (8 * n)

/-- The physical address `pa` is served by initialised DDR2 memory at address `x`, which has no bit error. -/
def DramAt (s : State) (pa : BitVec 40) (x : Nat) : Prop :=
  s.route pa = .ddr x ∧ s.inDdrPort x = false ∧ s.ddrStopped = false ∧ s.ddr.ready = true ∧ x < s.ddrSize ∧
    s.ddr.flips = []

/-- The `n` bytes at `pa` read as the number `v`: from DDR2 memory for an uncached attribute, from the data cache when
it holds the line.  Nothing waits in the gather buffer and no error is replied. -/
def ReadsAs (s : State) (va : Dword) (pa : BitVec 40) (c : BitVec 3) (n v : Nat) : Prop :=
  (c ≠ 3 ∧ s.gather = none ∧ s.busErrorAt pa false = false ∧ ∃ x, DramAt s pa x ∧ v = memNat s.mem x n) ∨
    (c = 3 ∧ ∃ k, s.dHit va pa = some k ∧ v = lineNat (s.dLine k).data (pa.toNat % 32) n)

/-- Byte `i` of a value. -/
def byteOf (v : Dword) (i : Nat) : Byte := v.extractLsb' (8 * i) 8

/-- The low `n` bytes of `v` have been stored to memory from `x` on and every other byte of memory reads as before. -/
def Stored (s t : State) (x n : Nat) (v : Dword) : Prop :=
  (∀ i, i < n → readByte t.mem (x + i) = byteOf v i) ∧
    (∀ a, a < x ∨ x + n ≤ a → readByte t.mem a = readByte s.mem a)

/-- The low `n` bytes of `v` have been stored in data cache line `k` from byte `o` on: the line is dirty, its other
bytes and every other line are as before. -/
def StoredInLine (s t : State) (k o n : Nat) (v : Dword) : Prop :=
  (∀ i, i < n → (t.dLine k).data.extractLsb' (8 * (o + i)) 8 = byteOf v i) ∧
    (∀ j, j < 32 → j < o ∨ o + n ≤ j →
      (t.dLine k).data.extractLsb' (8 * j) 8 = (s.dLine k).data.extractLsb' (8 * j) 8) ∧
    (t.dLine k).cs = 3 ∧ (t.dLine k).w = true ∧ (t.dLine k).tag = (s.dLine k).tag ∧
    (∀ j, j ≠ k → t.dLine j = s.dLine j)

/-- What a store of the low `n` bytes of `v` at `pa` does to memory, by its attribute (R140 to R143): uncached, the
bytes go to DDR2; cached and present, to the line; uncached accelerated with an empty gather buffer, into the buffer.
Each case names its conditions. -/
def StoreEffect (s t : State) (va : Dword) (pa : BitVec 40) (c : BitVec 3) (n : Nat) (v : Dword) : Prop :=
  (c ≠ 3 ∧ c ≠ 7 ∧ ∃ x, DramAt s pa x ∧ Stored s t x n v ∧ t.dcache = s.dcache ∧ t.gather = s.gather) ∨
    (c = 3 ∧ ∃ k, s.dHit va pa = some k ∧ StoredInLine s t k (pa.toNat % 32) n v ∧ t.mem = s.mem ∧
      t.gather = s.gather) ∨
    (c = 7 ∧ s.gather = none ∧ t.gather = some { first := pa, size := n, bytes := toBytes v n } ∧ t.mem = s.mem ∧
      t.dcache = s.dcache)

/-- The conditions under which `StoreEffect` describes a store. -/
def Storable (s : State) (va : Dword) (pa : BitVec 40) (c : BitVec 3) : Prop :=
  (c ≠ 3 ∧ c ≠ 7 ∧ s.gather = none ∧ ∃ x, DramAt s pa x) ∨ (c = 3 ∧ ∃ k, s.dHit va pa = some k) ∨ (c = 7 ∧ s.gather = none)

/-! ### The gather buffer (R143) -/

/-- In a state in canonical form the gather buffer holds bytes, at most a line of them, for addresses in initialised DDR2
memory from `x` on. -/
def GatherAt (s : State) (g : Gather) (x : Nat) : Prop :=
  s.canonical ∧ s.gather = some g ∧ g.bytes ≠ [] ∧ g.bytes.length ≤ 32 ∧
    ∀ i, i < g.bytes.length → DramAt s (g.first + BitVec.ofNat 40 i) (x + i)

/-- `u` is `s` with the bytes of the gather buffer stored in memory from `x` on and the buffer empty; every other byte of
memory reads as before. -/
def WrittenOut (s u : State) (g : Gather) (x : Nat) : Prop :=
  (∀ i (h : i < g.bytes.length), readByte u.mem (x + i) = g.bytes[i]) ∧
    (∀ a, a < x ∨ x + g.bytes.length ≤ a → readByte u.mem a = readByte s.mem a) ∧
    u = { s with mem := u.mem, gather := none }

/-- What an uncached accelerated store of the low `n` bytes of `v` at `pa` does while the gather buffer holds bytes
(R143).  If it has their size and continues them in the same line, its bytes join them: a full line is stored as one
block, otherwise they wait.  If not, they are written out and the store finds the buffer empty. -/
def GathersOn (i : Instr) (s : State) (pa : BitVec 40) (n : Nat) (v : Dword) : Prop :=
  ∀ g : Gather, s.gather = some g → g.bytes ≠ [] →
    let joined := g.bytes ++ toBytes v n
    let continues : Prop := g.size = n ∧ pa = g.first + BitVec.ofNat 40 g.bytes.length ∧
      pa.toNat / 32 = g.first.toNat / 32
    (continues → joined.length < 32 →
      ∃ t, exec i s = .next t ∧
        t = { s with gather := some { g with bytes := joined }, pc := t.pc, delay := t.delay } ∧ GoesOn s t) ∧
    (continues → joined.length = 32 → ∀ x, DramAt s g.first x →
      ∃ t, exec i s = .next t ∧ (∀ j (h : j < joined.length), readByte t.mem (x + j) = joined[j]) ∧
        (∀ a, a < x ∨ x + 32 ≤ a → readByte t.mem a = readByte s.mem a) ∧
        t = { s with mem := t.mem, gather := none, pc := t.pc, delay := t.delay } ∧ GoesOn s t) ∧
    (¬ continues → ∀ x, GatherAt s g x → ∃ u, WrittenOut s u g x ∧ exec i s = exec i u)

/-! ### Cached accesses that miss (R142, R146) -/

/-- An access misses in the data cache, the secondary cache holds its line with the data `d`, and the secondary cache
also holds every line that the miss may replace while it is dirty. -/
def RefillFromSecondary (s : State) (va : Dword) (pa : BitVec 40) (d : LineData) : Prop :=
  s.dHit va pa = none ∧
    (∀ k ∈ waysOf (primarySet va), (s.dLine k).cs = 3 → s.sHit ((s.dLine k).address k) ≠ none) ∧
    ∃ q, s.sHit pa = some q ∧ d = (s.sLine q).data

/-- No line of the secondary cache that a miss of an address may replace has to be written back, nor does a data cache
line of the same address. -/
def SecondaryReplaceable (s : State) (pa : BitVec 40) : Prop :=
  s.scacheDisabled = false → ∀ q ∈ waysOf (secondarySet pa), (s.sLine q).state ≠ 3 ∧
    ((s.sLine q).state ≠ 0 → ∀ j ∈ primaryKeys ((s.sLine q).address q),
      (s.dLine j).matches ((s.sLine q).address q) = true → (s.dLine j).cs ≠ 3)

/-- An access misses in both caches, its line lies in initialised DDR2 memory with the data `d`, and no line that the
miss may replace has to be written back. -/
def RefillFromMemory (s : State) (va : Dword) (pa : BitVec 40) (d : LineData) : Prop :=
  s.dHit va pa = none ∧ s.sHit pa = none ∧ s.busErrorAt pa false = false ∧
    (∀ k ∈ waysOf (primarySet va), (s.dLine k).cs ≠ 3) ∧
    SecondaryReplaceable s pa ∧
    ∃ x, DramAt s (lineAddress pa) x ∧ d.toNat = memNat s.mem x 32

/-- A miss reads the data `d`. -/
def Refills (s : State) (va : Dword) (pa : BitVec 40) (d : LineData) : Prop :=
  RefillFromSecondary s va pa d ∨ RefillFromMemory s va pa d

/-- Way `q` of the secondary cache, and no other one, has been filled with the line of an address, not written. -/
def SecondaryFilled (s t : State) (pa : BitVec 40) (d : LineData) (q : Nat) : Prop :=
  (t.sLine q).tag = pa.extractLsb' 17 23 ∧ ((t.sLine q).state = 1 ∨ (t.sLine q).state = 2) ∧ (t.sLine q).data = d ∧
    ∀ m, m ≠ q → t.sLine m = s.sLine m

/-- An instruction cache line after secondary cache line `q` has left the caches. -/
def State.instructionLineWithout (s : State) (q j : Nat) : ILine :=
  let a := (s.sLine q).address q
  if (s.sLine q).state ≠ 0 ∧ j ∈ primaryKeys a ∧ (s.iLine j).matches a = true then { s.iLine j with valid := false }
  else s.iLine j

/-- A data cache line after secondary cache line `q` has left the caches. -/
def State.dataLineWithout (s : State) (q j : Nat) : DLine :=
  let a := (s.sLine q).address q
  if (s.sLine q).state ≠ 0 ∧ j ∈ primaryKeys a ∧ (s.dLine j).matches a = true then
    { s.dLine j with cs := 0, w := false }
  else s.dLine j

/-- What a miss that reads `d` has done to the caches besides filling line `k` of the data cache.  If the secondary cache
held the line: the line replaced, if dirty, has gone to its secondary cache line, and nothing else has changed.  If
it did not: the line is in one way of its secondary cache set, and the line that was there has left all three caches;
with the secondary cache disabled nothing else has changed. -/
def Refilled (s t : State) (va : Dword) (pa : BitVec 40) (d : LineData) (k : Nat) : Prop :=
  k ∈ waysOf (primarySet va) ∧ (t.dLine k).tag = pa.extractLsb' 12 28 ∧
    (s.sHit pa ≠ none →
      (∀ j, t.iLine j = s.iLine j) ∧ (∀ j, j ≠ k → t.dLine j = s.dLine j) ∧
      ∀ m, t.sLine m =
        if (s.dLine k).cs = 3 ∧ s.sHit ((s.dLine k).address k) = some m then
          { s.sLine m with state := 3, data := (s.dLine k).data }
        else s.sLine m) ∧
    (s.sHit pa = none → s.scacheDisabled = true →
      (∀ j, t.iLine j = s.iLine j) ∧ (∀ j, j ≠ k → t.dLine j = s.dLine j) ∧ ∀ m, t.sLine m = s.sLine m) ∧
    (s.sHit pa = none → s.scacheDisabled = false →
      ∃ q ∈ waysOf (secondarySet pa), SecondaryFilled s t pa d q ∧
        (∀ j, t.iLine j = s.instructionLineWithout q j) ∧ ∀ j, j ≠ k → t.dLine j = s.dataLineWithout q j)

/-- A fetch misses, the line lies in the secondary cache with the data `d`, or it lies in initialised DDR2 memory with
the data `d` and no line that the miss may replace has to be written back. -/
def FetchRefills (s : State) (va : Dword) (pa : BitVec 40) (d : LineData) : Prop :=
  s.iHit va pa = none ∧
    ((∃ q, s.sHit pa = some q ∧ d = (s.sLine q).data) ∨
      (s.sHit pa = none ∧ s.busErrorAt pa true = false ∧ SecondaryReplaceable s pa ∧
        ∃ x, DramAt s (lineAddress pa) x ∧ d.toNat = memNat s.mem x 32))

/-- A fetch that missed has filled line `k` of the instruction cache with the data `d`.  If the secondary cache held the
line, or is disabled, nothing else has changed.  Otherwise the line is in one way of its secondary cache set, and the
line that was there has left all three caches. -/
def FetchRefilled (s t : State) (va : Dword) (pa : BitVec 40) (d : LineData) (k : Nat) : Prop :=
  k ∈ waysOf (primarySet va) ∧ t.iLine k = { tag := pa.extractLsb' 12 28, valid := true, data := d } ∧
    (s.sHit pa ≠ none ∨ s.scacheDisabled = true →
      (∀ j, j ≠ k → t.iLine j = s.iLine j) ∧ (∀ j, t.dLine j = s.dLine j) ∧ ∀ m, t.sLine m = s.sLine m) ∧
    (s.sHit pa = none → s.scacheDisabled = false →
      ∃ q ∈ waysOf (secondarySet pa), SecondaryFilled s t pa d q ∧
        (∀ j, j ≠ k → t.iLine j = s.instructionLineWithout q j) ∧ ∀ j, t.dLine j = s.dataLineWithout q j)

/-- A cached access that misses, in a state in canonical form, reads the data `d`, and the `n` bytes of it at `pa` are the
number `v`. -/
def ReadsOnMiss (s : State) (va : Dword) (pa : BitVec 40) (c : BitVec 3) (n : Nat) (d : LineData) (v : Nat) : Prop :=
  c = 3 ∧ s.canonical ∧ Refills s va pa d ∧ v = lineNat d (pa.toNat % 32) n

/-- A load that missed has filled a clean line with the data `d`. -/
def FilledByLoad (s t : State) (va : Dword) (pa : BitVec 40) (d : LineData) : Prop :=
  ∃ k, Refilled s t va pa d k ∧ ((t.dLine k).cs = 1 ∨ (t.dLine k).cs = 2) ∧ (t.dLine k).w = false ∧
    (t.dLine k).data = d

/-- A store that missed has filled a line with the data `d` and put the low `n` bytes of `v` into it, which makes it
dirty. -/
def FilledByStore (s t : State) (va : Dword) (pa : BitVec 40) (d : LineData) (n : Nat) (v : Dword) : Prop :=
  ∃ k, Refilled s t va pa d k ∧ (t.dLine k).cs = 3 ∧ (t.dLine k).w = true ∧
    (∀ i, i < n → (t.dLine k).data.extractLsb' (8 * (pa.toNat % 32 + i)) 8 = byteOf v i) ∧
    ∀ j, j < 32 → j < pa.toNat % 32 ∨ pa.toNat % 32 + n ≤ j →
      (t.dLine k).data.extractLsb' (8 * j) 8 = d.extractLsb' (8 * j) 8

/-- Nothing but the three caches and the program counter has changed. -/
def OnlyFill (s t : State) : Prop :=
  t = { s with icache := t.icache, dcache := t.dcache, scache := t.scache, pc := t.pc, delay := t.delay }

/-- Nothing but memory, the data cache, the gather buffer and the program counter has changed. -/
def OnlyStore (s t : State) : Prop :=
  t = { s with mem := t.mem, dcache := t.dcache, gather := t.gather, pc := t.pc, delay := t.delay }

/-! ### The instructions that access data (R130, R203, R211) -/

/-- How an instruction accesses data: its address operands, the alignment it needs, whether it stores, whether it needs
coprocessor 1, and whether it is a prefetch, which accesses nothing (R203). -/
structure DataAccess where
  base : Reg
  offset : BitVec 16
  alignment : Nat
  store : Bool
  cp1 : Bool
  prefetch : Bool
deriving DecidableEq, Repr

/-- A load into a general register. -/
def loadAccess (base rt : Reg) (offset : BitVec 16) (alignment : Nat) : Option DataAccess :=
  some { base := base, offset := offset, alignment := alignment, store := false, cp1 := false, prefetch := rt == 0 }
/-- A store of a general register. -/
def storeAccess (base : Reg) (offset : BitVec 16) (alignment : Nat) : Option DataAccess :=
  some { base := base, offset := offset, alignment := alignment, store := true, cp1 := false, prefetch := false }
/-- A load or a store of a floating-point register. -/
def fpAccess (base : Reg) (offset : BitVec 16) (alignment : Nat) (store : Bool) : Option DataAccess :=
  some { base := base, offset := offset, alignment := alignment, store := store, cp1 := true, prefetch := false }

/-- The data access of a load or a store; the partial accesses need no alignment. -/
def dataAccessOf : Instr → Option DataAccess
  | .lb base rt offset => loadAccess base rt offset 1
  | .lbu base rt offset => loadAccess base rt offset 1
  | .lh base rt offset => loadAccess base rt offset 2
  | .lhu base rt offset => loadAccess base rt offset 2
  | .lw base rt offset => loadAccess base rt offset 4
  | .lwu base rt offset => loadAccess base rt offset 4
  | .ld base rt offset => loadAccess base rt offset 8
  | .lwl base rt offset => loadAccess base rt offset 1
  | .lwr base rt offset => loadAccess base rt offset 1
  | .ldl base rt offset => loadAccess base rt offset 1
  | .ldr base rt offset => loadAccess base rt offset 1
  | .ll base rt offset => loadAccess base rt offset 4
  | .lld base rt offset => loadAccess base rt offset 8
  | .sb base _ offset => storeAccess base offset 1
  | .sh base _ offset => storeAccess base offset 2
  | .sw base _ offset => storeAccess base offset 4
  | .sd base _ offset => storeAccess base offset 8
  | .swl base _ offset => storeAccess base offset 1
  | .swr base _ offset => storeAccess base offset 1
  | .sdl base _ offset => storeAccess base offset 1
  | .sdr base _ offset => storeAccess base offset 1
  | .sc base _ offset => storeAccess base offset 4
  | .scd base _ offset => storeAccess base offset 8
  | .lwc1 base _ offset => fpAccess base offset 4 false
  | .ldc1 base _ offset => fpAccess base offset 8 false
  | .swc1 base _ offset => fpAccess base offset 4 true
  | .sdc1 base _ offset => fpAccess base offset 8 true
  | _ => none

/-- The effective address: base plus sign-extended offset, modulo 2^64 (R173(d)). -/
def addressOf (s : State) (base : Reg) (offset : BitVec 16) : Dword :=
  BitVec.ofInt 64 (s.regInt base + offset.toInt)

/-- The address of a load or a store translates to `pa` with attribute `c`, and the Watch register does not watch it. -/
def Translates (s : State) (store : Bool) (va : Dword) (pa : BitVec 40) (c : BitVec 3) : Prop :=
  translate s (if store then .store else .load) va = .ok (pa, c) s ∧ s.watched store va = false

/-- The instruction completes: it sets a general register and changes nothing else. -/
def SetsRegister (i : Instr) (s : State) (rt : Reg) (v : Dword) : Prop :=
  ∃ t, exec i s = .next t ∧ RegisterSet s t rt v ∧ OnlyRegisters s t ∧ GoesOn s t

/-- The instruction completes: it stores the low `n` bytes of `v` at `pa` and changes nothing else. -/
def StoresTo (i : Instr) (s : State) (va : Dword) (pa : BitVec 40) (c : BitVec 3) (n : Nat) (v : Dword) : Prop :=
  ∃ t, exec i s = .next t ∧ StoreEffect s t va pa c n v ∧ OnlyStore s t ∧ GoesOn s t

/-- A load that misses and reads the data `d` completes: a clean line is filled with `d`, a general register is set, and
nothing else changes. -/
def LoadsOnMiss (i : Instr) (s : State) (va : Dword) (pa : BitVec 40) (d : LineData) (rt : Reg) (v : Dword) : Prop :=
  ∃ t, exec i s = .next t ∧ RegisterSet s t rt v ∧ FilledByLoad s t va pa d ∧ OnlyFill { s with gpr := t.gpr } t ∧
    GoesOn s t

/-- A store that misses and reads the data `d` completes: a line is filled with `d`, the low `n` bytes of `v` go into
it, and nothing else changes. -/
def StoresOnMiss (i : Instr) (s : State) (va : Dword) (pa : BitVec 40) (d : LineData) (n : Nat) (v : Dword) : Prop :=
  ∃ t, exec i s = .next t ∧ FilledByStore s t va pa d n v ∧ OnlyFill s t ∧ GoesOn s t

/-- The signed value of the low `bits` bits of a number, as a register value. -/
def signedOf (bits v : Nat) : Dword := BitVec.ofInt 64 ((v : Int).bmod (2 ^ bits))

/-! ### The TLB (R120) -/

/-- JTLB entry `i` matches an address: its region, its virtual page number outside the mask, and the ASID unless it is
global (R120). -/
def TlbMatches (s : State) (i : Fin 64) (va : Dword) : Prop :=
  s.tlb[i].r.toNat = va.toNat / 2 ^ 62 ∧
    (∀ b : Nat, b < 27 → s.tlb[i].vpn2.getLsbD b = va.getLsbD (13 + b) ∨ s.tlb[i].mask.getLsbD b = true) ∧
    (s.tlb[i].g = true ∨ s.tlb[i].asid.toNat = s.cp0.entryHi.toNat % 256)

/-- JTLB entry `i` and no other one matches an address. -/
def OnlyTlbMatch (s : State) (i : Fin 64) (va : Dword) : Prop := ∀ j, TlbMatches s j va ↔ j = i

/-- The seven legal page masks: `2 * j` ones for a page of `2 ^ (12 + 2 * j)` bytes (R35). -/
def PageMaskOf (mask : BitVec 12) (j : Nat) : Prop := j ≤ 6 ∧ mask.toNat + 1 = 4 ^ j

/-! ### Floating-point registers (R482) -/

/-- Register `fd` holds the single `v`.  The other registers are kept; with FR = 0 so is the other single of the
pair. -/
def SingleSet (s t : State) (fd : Reg) (v : Word) : Prop :=
  t.readS fd = v ∧
    (∀ n, (if s.fr then n ≠ fd else n ≠ evenOf fd) → t.getFpr n = s.getFpr n) ∧
    (s.fr = false → t.readS (fd ^^^ 1) = s.readS (fd ^^^ 1))

/-- Register `fd` holds the doubleword `v` and the other registers are kept; for an odd register with FR = 0 the
register and the upper half of the even one below it are open. -/
def DoubleSet (s t : State) (fd : Reg) (v : Dword) : Prop :=
  (s.fr = true ∨ fd.getLsbD 0 = false →
      t.readD fd = v ∧ ∀ n, n ≠ fd → t.getFpr n = s.getFpr n) ∧
    (s.fr = false ∧ fd.getLsbD 0 = true →
      (∀ n, n ≠ fd → n ≠ evenOf fd → t.getFpr n = s.getFpr n) ∧ t.readS (evenOf fd) = s.readS (evenOf fd))

/-- An arithmetic operation (R484): with an enabled condition, or E, it takes the floating-point exception with only
FCR31.Cause written; otherwise it completes with Cause and Flags written and the result stored. -/
def FpOperation (i : Instr) (cond : State → Conditions) (result : State → State → Prop) : Prop :=
  ∀ s, s.cu 1 = true →
    (trapsWith (cond s) s.fpEnables = true →
      exec i s = .next (takeException .floatingPoint (s.setFcr31 (withCause s.fcr31 (cond s))))) ∧
    (trapsWith (cond s) s.fpEnables = false →
      ∃ t, exec i s = .next t ∧ t.fcr31 = withFlags (withCause s.fcr31 (cond s)) (cond s) ∧ result s t ∧
        OnlyFpu s t ∧ GoesOn s t)

/-- An operation with a single-precision or word result. -/
def FpSingle (i : Instr) (fd : Reg) (r : State → FpResult) : Prop :=
  FpOperation i (fun s => (r s).cond) fun s t => SingleSet s t fd (BitVec.ofNat 32 (r s).bits)

/-- An operation with a double-precision or doubleword result. -/
def FpDouble (i : Instr) (fd : Reg) (r : State → FpResult) : Prop :=
  FpOperation i (fun s => (r s).cond) fun s t => DoubleSet s t fd (BitVec.ofNat 64 (r s).bits)

/-- An operation on paired singles: the conditions of the halves are joined, E alone if either half raises it
(R581). -/
def FpPaired (i : Instr) (fd : Reg) (lower upper : State → FpResult) : Prop :=
  FpOperation i
    (fun s => if ((lower s).cond ||| (upper s).cond).getLsbD 5 then condE else (lower s).cond ||| (upper s).cond)
    fun s t => DoubleSet s t fd (BitVec.ofNat 32 (upper s).bits ++ BitVec.ofNat 32 (lower s).bits)

/-- A comparison (R530): as an operation, with condition bits instead of a result. -/
def FpComparison (i : Instr) (cond : State → Conditions) (flags : State → Word → Word) : Prop :=
  ∀ s, s.cu 1 = true →
    (trapsWith (cond s) s.fpEnables = true →
      exec i s = .next (takeException .floatingPoint (s.setFcr31 (withCause s.fcr31 (cond s))))) ∧
    (trapsWith (cond s) s.fpEnables = false →
      ∃ t, exec i s = .next t ∧ t.fcr31 = flags s (withFlags (withCause s.fcr31 (cond s)) (cond s)) ∧
        t.fpr = s.fpr ∧ OnlyFpu s t ∧ GoesOn s t)

/-- Whether a value is finite. -/
def FpValue.finite : FpValue → Prop
  | .nan _ _ => False
  | .inf _ => False
  | _ => True

/-- A finite value equals `n / 2 ^ k` exactly. -/
def FpValue.hasValue (v : FpValue) (n : Int) (k : Nat) : Prop :=
  v.finite ∧ ∃ j : Nat, 0 ≤ v.exp + k + j ∧
    (if v.neg then -(v.mag : Int) else v.mag) * 2 ^ (v.exp + k + j).toNat = n * 2 ^ j

/-! ### The caches (R450 to R465) -/

/-- The operands of a CACHE instruction, and whether Diagnostic.U-Mode opens it to user mode (R450). -/
structure CacheOperands where
  base : Reg
  offset : BitVec 16
  userOperation : Bool
deriving DecidableEq, Repr

/-- The operands of the sixteen CACHE rows. -/
def cacheOperandsOf : Instr → Option CacheOperands
  | .cache base _ offset => some ⟨base, offset, false⟩
  | .cache_index_invalidate_i base offset => some ⟨base, offset, true⟩
  | .cache_index_writeback_invalidate_d base offset => some ⟨base, offset, true⟩
  | .cache_index_load_tag_d base offset => some ⟨base, offset, false⟩
  | .cache_index_store_tag_d base offset => some ⟨base, offset, false⟩
  | .cache_hit_invalidate_d base offset => some ⟨base, offset, true⟩
  | .cache_hit_writeback_invalidate_d base offset => some ⟨base, offset, true⟩
  | .cache_index_load_data_d base offset => some ⟨base, offset, false⟩
  | .cache_index_store_data_d base offset => some ⟨base, offset, false⟩
  | .cache_index_writeback_invalidate_s base offset => some ⟨base, offset, true⟩
  | .cache_index_load_tag_s base offset => some ⟨base, offset, false⟩
  | .cache_index_store_tag_s base offset => some ⟨base, offset, false⟩
  | .cache_hit_invalidate_s base offset => some ⟨base, offset, true⟩
  | .cache_hit_writeback_invalidate_s base offset => some ⟨base, offset, true⟩
  | .cache_index_load_data_s base offset => some ⟨base, offset, false⟩
  | .cache_index_store_data_s base offset => some ⟨base, offset, false⟩
  | _ => none

/-- CP0 is usable (R430). -/
def Cp0Usable (s : State) : Prop := s.cu 0 = true ∨ s.mode = some .kernel

/-- A CACHE operation is usable: CP0 is, or U-Mode opens the operation to user mode (R450). -/
def CacheUsable (s : State) (userOperation : Bool) : Prop :=
  Cp0Usable s ∨ (userOperation = true ∧ s.cp0.diagnostic.getLsbD 8 = true ∧ s.mode = some .user)

/-- The instruction completes in a state with this property and goes on. -/
def Completes (i : Instr) (s : State) (result : State → Prop) : Prop :=
  ∃ t, exec i s = .next t ∧ result t ∧ GoesOn s t

/-- Only line `k` of the data cache has changed, to `l`. -/
def OnlyDataLine (s t : State) (k : Nat) (l : DLine) : Prop :=
  t.dLine k = l ∧ (∀ j, j ≠ k → t.dLine j = s.dLine j) ∧
    t = { s with dcache := t.dcache, pc := t.pc, delay := t.delay }

/-- Only line `k` of the secondary cache has changed, to `l`. -/
def OnlySecondaryLine (s t : State) (k : Nat) (l : SLine) : Prop :=
  t.sLine k = l ∧ (∀ j, j ≠ k → t.sLine j = s.sLine j) ∧
    t = { s with scache := t.scache, pc := t.pc, delay := t.delay }

/-- Only TagHi and TagLo have changed, to the halves of a number. -/
def OnlyTags (s t : State) (v : Nat) : Prop :=
  t = { s with
    pc := t.pc, delay := t.delay
    cp0 := { s.cp0 with tagHi := BitVec.ofNat 32 (v / 2 ^ 32), tagLo := BitVec.ofNat 32 v } }

/-- Doubleword `a` of a line as a number. -/
def doublewordNat (d : LineData) (a : Nat) : Nat := lineNat d (8 * a) 8

/-- The data `d` with doubleword `a` replaced by `v`. -/
def WithDoubleword (d d' : LineData) (a v : Nat) : Prop :=
  doublewordNat d' a = v ∧ ∀ j, j < 4 → j ≠ a → doublewordNat d' j = doublewordNat d j

/-- Secondary cache line `k`, which holds the address `a`, has left the cache with the same line of the primary
caches: those lines are invalid, and every other line is as before. -/
def LeavesCaches (s t : State) (k : Nat) (a : BitVec 40) : Prop :=
  (t.sLine k).state = 0 ∧ (∀ j, j ≠ k → t.sLine j = s.sLine j) ∧
    (∀ j, t.iLine j = if j ∈ primaryKeys a ∧ (s.iLine j).matches a = true then { s.iLine j with valid := false }
      else s.iLine j) ∧
    (∀ j, t.dLine j = if j ∈ primaryKeys a ∧ (s.dLine j).matches a = true then { s.dLine j with cs := 0, w := false }
      else s.dLine j)

/-- The data cache holds no dirty line of the address. -/
def NoDirtyDataLine (s : State) (a : BitVec 40) : Prop :=
  ∀ j ∈ primaryKeys a, (s.dLine j).matches a = true → (s.dLine j).cs ≠ 3

/-- Memory has received the 32 bytes of a line at `x`, and nothing else of it has changed. -/
def LineStored (s t : State) (x : Nat) (d : LineData) : Prop :=
  (∀ i, i < 32 → readByte t.mem (x + i) = d.extractLsb' (8 * i) 8) ∧
    (∀ a, a < x ∨ x + 32 ≤ a → readByte t.mem a = readByte s.mem a)

/-- What writing a secondary cache line back and invalidating it does to memory (R459): the data of a dirty data cache
line, otherwise of the line itself if it is dirty, and nothing if neither is. -/
def WrittenBack (s t : State) (k : Nat) (a : BitVec 40) (x : Nat) : Prop :=
  (NoDirtyDataLine s a → (s.sLine k).state = 3 → LineStored s t x (s.sLine k).data) ∧
    (NoDirtyDataLine s a → (s.sLine k).state ≠ 3 → t.mem = s.mem) ∧
    (∀ q ∈ primaryKeys a, (s.dLine q).matches a = true → (s.dLine q).cs = 3 →
      (∀ j ∈ primaryKeys a, j ≠ q → (s.dLine j).matches a = false) → LineStored s t x (s.dLine q).data)

/-- Nothing but memory, the three caches and the program counter has changed. -/
def OnlyCaches (s t : State) : Prop :=
  t = { s with
    mem := t.mem, icache := t.icache, dcache := t.dcache, scache := t.scache, pc := t.pc, delay := t.delay }

/-! ### Which instructions need a coprocessor -/

/-- The instructions of coprocessor 1: the COP1 opcode, its loads and stores, the multiply-add families (R651). -/
def usesCp1 (i : Instr) : Prop :=
  opOf (encode i) ∈ [(17 : BitVec 6), 49, 53, 57, 61] ∨
    (opOf (encode i) = 28 ∧ functOf (encode i) ∈ [(24 : BitVec 6), 25, 26, 27])

/-- The instructions of coprocessor 0: the COP0 opcode and CACHE (R651). -/
def usesCp0 (i : Instr) : Prop := opOf (encode i) = 16 ∨ opOf (encode i) = 47

/-- The reads of the performance counter registers, which every mode may do (R434). -/
def readsCounters : Instr → Prop
  | .mfc0 _ rd => rd = 24 ∨ rd = 25
  | .dmfc0 _ rd => rd = 24 ∨ rd = 25
  | _ => False

end Sys2Proof.Machine
end

