-- ==== Sys2Proof/Certificates/Slice0/Obligations.lean ====
section
/-! DEFINITION. The statements about the model that the provers prove.  Each docstring says what the statement
formalises.  The vocabulary is that of Sys2Proof/Safety.lean; all statements hold for every value of the free values of
Sys2Proof/Config.lean. -/

open Sys2Proof Sys2Proof.Machine

/-- After reset, whatever the parameters, the pc is 0xFFFFFFFFBFC00000, Status is 0x30400004, Config reads 0x00030932,
Random is 63, Wired is 0, the Event fields of the performance counter control are 0, the mode is kernel with
interrupts disabled, the address windows and the DDR2 registers hold their stated values, the DDR2 memory is not
ready, and the words of the PCI header and of the register block to which R760 gives a value hold it, interrupt
polarity, edge and enable registers among them; no pulse is latched.  Memory, the caches and the list of bit errors
are in canonical form, the storage behind r0 is zero, the reserved bits of the CP0 registers and of FCR31 are zero,
and Random lies between Wired and 63.  State.reset is the state after reset with the default parameters. K0 = 2 is the
stated initial value of Config, which R90 calls unspecified: it is the model's choice of notes/assumptions/3.md.  The
reset values that R90 leaves open are the model's choices too (notes/assumptions/1.md to 8.md). (spec/10_state.md R90,
spec/60_exceptions.md R636, spec/20_memory.md R136, spec/62_ddr2_controller.md R773, spec/61_platform_devices.md R760,
spec/00_scope.md R8, spec/70_reset_and_hazards.md R790.) -/
def Obligations.ResetState : Prop :=
  State.reset = State.resetWith Config.Params.default ∧ ∀ p : Config.Params,
    let r := State.resetWith p
    (r.pc = 0xFFFFFFFFBFC00000 ∧ r.delay = none ∧ r.params = p) ∧
    (r.cp0.status = 0x30400004 ∧ r.cp0.configWord = 0x00030932 ∧ r.cp0.random = 63 ∧ r.cp0.wired = 0 ∧
      r.cp0.perfControl.extractLsb' 5 8 = (0 : BitVec 8) ∧ r.mode = some .kernel ∧ r.interruptsEnabled = false) ∧
    r.cpuWindows =
      [⟨0x0, 0xFFFFFFFFF0000000, 0x0⟩, ⟨0x10000000, 0xFFFFFFFFF0000000, 0x10000001⟩,
        ⟨0xFFFFFFFFFFF00000, 0xFFFFFFFFFFF00000, 0x0⟩, ⟨0xFFFFFFFFFFF00000, 0xFFFFFFFFFFF00000, 0x0⟩] ∧
    r.dmaWindows =
      [⟨0x80000000, 0xFFFFFFFF80000000, 0x0⟩, ⟨0xFFFFFFFFFFF00000, 0xFFFFFFFFFFF00000, 0x0⟩,
        ⟨0xFFFFFFFFFFF00000, 0xFFFFFFFFFFF00000, 0x0⟩, ⟨0xFFFFFFFFFFF00000, 0xFFFFFFFFFFF00000, 0x0⟩] ∧
    (∀ n : Fin 29, r.ddrCtl n =
      if n = 5 then 0x0000000400000000 else if n = 7 then 0x0F0E000000000000
      else if n = 20 then 0x0000204100000000 else 0) ∧
    r.ddr.ready = false ∧
    (∀ n : Fin 64, n ∈ [4, 5, 6, 7, 8, 9, 16, 18, 20, 21, 22] → r.header n = 0) ∧ r.header 19 = 0x02000000 ∧
    r.reg 0 = Config.pciConfigPins.setWidth 32 <<< 16 ||| Config.lioAdPins.setWidth 32 ∧
    r.reg 2 = 0x1F7C ||| ((Config.pciConfigPins &&& 1).setWidth 32 <<< 7) ∧
    r.reg 37 = Config.sysClkSelPins.setWidth 32 ∧
    (∀ n : Fin 64, n ∈ [1, 4, 6, 7, 14, 27, 40, 41, 42, 43, 44, 45, 46, 47, 48, 49, 50, 51] → r.reg n = 0) ∧
    (r.reg 5 = 0x18 ∧ r.reg 8 = 0xF ∧ r.reg 9 = 0x300 ∧ r.reg 11 = 0x700) ∧
    (∀ n : Fin 64, n ∈ [20, 22, 24] → r.reg n = 0x6) ∧ (∀ n : Fin 64, n ∈ [21, 23, 25] → r.reg n = 0x80000000) ∧
    (r.reg 26 = 0x1C5 ∧ r.reg 32 = 0x617 ∧ r.reg 33 = 0xF80 ∧ r.reg 34 = 0x780) ∧ r.io.pulse = 0 ∧
    (r.canonical ∧ r.zeroRegister ∧ r.cp0Reserved ∧ r.fcr31Reserved ∧ r.randomInRange)

/-- With the window registers at their reset values, CPU windows 2 and 3 hit no physical address; CPU physical addresses
below 0x10000000 go to the same DDR2 address, those from 0x10000000 to 0x1FFFFFFF to the same address of the I/O
controller, and every other one but the window registers hits no window; a PCI master's address from 0x80000000 to
0xFFFFFFFF goes to DDR2 address 0 and up (2 GB). That the PCIDMA window is 2 GB is the choice of conflict C15 (R136),
where R137 also gives 256 MB; that the window registers answer before the windows is derived in R138.
(spec/20_memory.md R135, spec/20_memory.md R136, spec/20_memory.md R137, spec/20_memory.md R138, spec/90_conflicts.md
C15.) -/
def Obligations.ResetRouting : Prop :=
  ∀ s : State, s.windows = State.reset.windows →
    (∀ pa : BitVec 40, pa.toNat < 0x10000000 → s.route pa = .ddr pa.toNat) ∧
    (∀ pa : BitVec 40, 0x10000000 ≤ pa.toNat → pa.toNat < 0x20000000 → s.route pa = .io pa.toNat) ∧
    (∀ pa : BitVec 40, 0x20000000 ≤ pa.toNat → pa.toNat < 0x3FF00000 ∨ 0x3FF000C0 ≤ pa.toNat →
      s.route pa = .nowhere) ∧
    (∀ w ∈ s.cpuWindows.drop 2, ∀ pa : BitVec 40, w.hits (pa.setWidth 64) = false) ∧
    (∀ a : Nat, 0x80000000 ≤ a → a < 0x100000000 →
      windowTarget s.dmaWindows (BitVec.ofNat 64 a) = .ddr (a - 0x80000000))

/-- One or more words of each family, each written out from the encoding in its rule, decode to the instruction they stand
for, with the fields in their places. (spec/30_encoding.md R171 to R178, spec/40_load_store.md to
spec/49_fpu_ps_madd.md.) -/
def Obligations.DecodeWords : Prop :=
  decode 0x8C890010 = .ok (.lw 4 9 0x10) ∧ decode 0xFFA30008 = .ok (.sd 29 3 8) ∧
    decode 0x2529FFFF = .ok (.addiu 9 9 0xFFFF) ∧ decode 0x3C0AAFFF = .ok (.lui 10 0xAFFF) ∧
    decode 0x01095021 = .ok (.addu 8 9 10) ∧ decode 0x01095018 = .error .reserved ∧
    decode 0x01090018 = .ok (.mult 8 9) ∧ decode 0x08000010 = .ok (.j 0x10) ∧
    decode 0x1109FFFE = .ok (.beq 8 9 0xFFFE) ∧ decode 0x00094880 = .ok (.sll 9 9 2) ∧
    decode 0x0000000C = .ok (.syscall 0) ∧ decode 0x0000000F = .ok (.sync 0) ∧
    decode 0x01090034 = .ok (.teq 8 9 0) ∧ decode 0x40016000 = .ok (.mfc0 1 12) ∧
    decode 0x42000006 = .ok .tlbwr ∧ decode 0x42000018 = .ok .eret ∧
    decode 0xBC810008 = .ok (.cache_index_writeback_invalidate_d 4 8) ∧
    decode 0xBC820008 = .ok (.cache 4 2 8) ∧ decode 0x46062080 = .ok (.add_s 6 4 2) ∧
    decode 0x4624103C = .ok (.c_lt_d 4 2) ∧ decode 0x45010003 = .ok (.bc1t 3) ∧
    decode 0x46C62082 = .ok (.mul_ps 6 4 2) ∧ decode 0x4A000000 = .error .cop2 ∧
    decode 0x4C000000 = .error .reserved ∧ decode 0x46C62083 = .error .reservedCop1

/-- For every well-formed instruction, with every operand at every value its field admits, the decoder reads the
instruction from its encoding, as a word, as bytes, and as the opcode table numbers its bits, and the word matches the
mask and the match of the instruction's row of the table.  If the decoder reads an instruction from a word, the
instruction is well formed and its encoding is that word: no bit is dropped, and no word with a set bit in a field
that must be zero is accepted. (spec/30_encoding.md R171, spec/30_encoding.md R173, spec/30_encoding.md R182,
spec/30_encoding.md R183, spec/opcode_table.json.) -/
def Obligations.DecodeEncodeRoundTrip : Prop :=
  (∀ i : Instr, i.wellFormed = true →
    decode (encode i) = .ok i ∧ decodeTableWord 32 (encode i).toNat = some i ∧
      decodeBytes (encodeBytes i) = .ok (i, []) ∧ Sys2Proof.Laws.TableRow.Statement i) ∧
  ∀ (w : Word) (i : Instr), decode w = .ok i → i.wellFormed = true ∧ encode i = w

/-- If the pc is aligned and translates to an uncached address in initialised DDR2 memory, or in the boot ROM, whose reads
report no error, the fetch answers the word made of the four bytes there, the lowest address least significant; bytes
that wait in the gather buffer for addresses in initialised DDR2 memory are stored first.  If it translates to a
cached address whose line the instruction cache holds, the word is that of the four bytes in the line.  If it does not
hold it, the word comes from the line in the secondary cache, or else in memory, and one valid line of the instruction
cache set holds that data afterwards; if the secondary cache missed, and is not disabled, it has been filled too and
the line replaced there has left all three caches.  No other line and nothing else has changed since the translation. 
A misaligned pc raises the address error with the pc as its address. That the state it answers differs in the stamp of
the free values is the model's own (notes/assumptions/10.md), which way a miss replaces is open, and that a data cache
line which leaves has its W bit cleared, where R76 only names the bit, is a choice of notes/assumptions/25.md; that a
fetch empties the gather buffer is D7 (notes/assumptions/26.md). (spec/20_memory.md R130, spec/30_encoding.md R170,
spec/20_memory.md R141, spec/20_memory.md R142, spec/20_memory.md R143, spec/20_memory.md R146, spec/10_state.md R75
to R77, spec/61_platform_devices.md R720, spec/92_eei_decisions.md D7.) -/
def Obligations.FetchReadsWord : Prop :=
  ∀ (s u : State) (pa : BitVec 40) (c : BitVec 3),
    (s.pc.toNat % 4 = 0 → translate s .fetch s.pc = .ok (pa, c) u →
      (c ≠ 3 → u.busErrorAt pa true = false →
        (u.gather = none →
          (∀ x, DramAt u pa x →
            fetch s = .ok (BitVec.ofNat 32 (memNat u.mem x 4)) { u with stamp := u.stamp + 1 }) ∧
          (∀ a x, u.route pa = .io a → u.region a = .bootRom x →
            fetch s = .ok (BitVec.ofNat 32 (memNat u.rom x 4)) { u with stamp := u.stamp + 1 })) ∧
        (∀ g y, GatherAt u g y →
          ∃ v, WrittenOut u v g y ∧
            (∀ x, DramAt u pa x →
              fetch s = .ok (BitVec.ofNat 32 (memNat v.mem x 4)) { v with stamp := u.stamp + 1 }) ∧
            (∀ a x, u.route pa = .io a → u.region a = .bootRom x →
              fetch s = .ok (BitVec.ofNat 32 (memNat u.rom x 4)) { v with stamp := u.stamp + 1 }))) ∧
      (c = 3 →
        (∀ k, u.iHit s.pc pa = some k →
          fetch s = .ok (BitVec.ofNat 32 (lineNat (u.iLine k).data (pa.toNat % 32) 4))
            { u with stamp := u.stamp + 1 }) ∧
        (∀ d, u.canonical → FetchRefills u s.pc pa d →
          ∃ t k, fetch s = .ok (BitVec.ofNat 32 (lineNat d (pa.toNat % 32) 4)) t ∧ FetchRefilled u t s.pc pa d k ∧
            t = { u with icache := t.icache, dcache := t.dcache, scache := t.scache, stamp := u.stamp + 1 }))) ∧
    (s.pc.toNat % 4 ≠ 0 → fetch s = .raise (.addressError false s.pc) s)

/-- When no event is due and the core clock runs: if the word fetched at the pc decodes (the parameter GS_OPCODES
replacing the default encodings) to i, the step is the outcome of exec i on the fetched state, settled: if no
interrupt is due, or the instruction took an exception, a next state is committed (Random, Count and the counters
advance, the devices tick) and a fault or a refusal is the step's own; if an interrupt is due and the instruction took
no exception, the interrupt is taken from the state before it instead.  If the fetched word decodes to no instruction,
the step takes the reserved instruction exception; for a COP0 word it first checks the usability of coprocessor 0, for
a COP1 word that of coprocessor 1 and then raises the floating-point exception with Cause.E alone; a coprocessor 2
word raises coprocessor unusable with CE = 2, and is refused when CU2 is 1.  A fetch that raises an exception takes
it. That an interrupt gives way to the instruction's own exception is the model's reading (notes/assumptions/13.md).
(spec/30_encoding.md R183, spec/30_encoding.md R180, spec/30_encoding.md R181, spec/60_exceptions.md R635,
spec/60_exceptions.md R650, spec/60_exceptions.md R657, spec/60_exceptions.md R670, spec/00_scope.md R8.) -/
def Obligations.StepRunsInstruction : Prop :=
  ∀ (s : State), NoEventDue s → s.standingBy = false →
    let b := { s with taken := none }
    (∀ (t : State) (w : Word) (i : Instr), fetch b = .ok w t → decodeFor s.params.gsOpcodes w = .ok i →
      step s = settle b (writesWired i) (exec i t) ∧
      (∀ u, exec i t = .next u → s.interruptDue = false ∨ u.taken ≠ none →
        step s = .next (commit b u (writesWired i))) ∧
      (∀ f, exec i t = .fault f → s.interruptDue = false → step s = .fault f) ∧
      (∀ r, exec i t = .refused r → s.interruptDue = false → step s = .refused r) ∧
      (s.interruptDue = true → (∀ u, exec i t = .next u → u.taken = none) →
        step s = .next (commit b (takeException .interrupt b) (writesWired i)))) ∧
    (∀ e u, fetch b = .raise e u → step s = settle b false (.next (takeException e b))) ∧
    (∀ t w r, fetch b = .ok w t → decodeFor s.params.gsOpcodes w = .error r →
      (r = .reserved → step s = settle b false (.next (takeException .reservedInstruction t))) ∧
      (r = .reservedCop0 →
        (t.cu 0 = true ∨ t.mode = some .kernel →
          step s = settle b false (.next (takeException .reservedInstruction t))) ∧
        (t.cu 0 = false → t.mode = some .supervisor ∨ t.mode = some .user →
          step s = settle b false (.next (takeException (.coprocessorUnusable 0) t)))) ∧
      (r = .reservedCop1 →
        step s = settle b false (.next (
          if t.cu 1 then takeException .floatingPoint (t.setFcr31 (withCause t.fcr31 0b100000))
          else takeException (.coprocessorUnusable 1) t))) ∧
      (r = .cop2 →
        (t.cu 2 = false → step s = settle b false (.next (takeException (.coprocessorUnusable 2) t))) ∧
        (t.cu 2 = true → s.interruptDue = false → step s = .refused .coprocessor2)))

/-- Committing a step changes only Random, Count, the timer request, the performance counters, the DDR2 initialisation,
the pulse latches, the free-value stamp and the counts of instructions to the next event and since an interrupt was
requested.  Random, which lies between Wired and 63, becomes one less, or 63 from Wired, if the instruction took no
exception and does not write Wired.  Count grows by n and the timer is requested exactly when Count passes Compare on
the way, where n is half of the step's clock cycles, a cycle left over being carried to the next step.  An
initialisation under way is one instruction nearer to its end, which makes the memory ready with DLLLOCKREG and
INT_STATUS[8] set; the store that sets START is not counted.  The performance counters are kept unless ERL is 0 and an
enabled qualifier holds in the mode before the step: then counter 0 grows by the clock cycles (event 0), by one for a
TLB refill (13) or any exception (14), counter 1 by one for an instruction that took no exception (0) or for an
exception (13).  The latch of an interrupt line with pulse triggering is set if the line is active and was not at the
boundary before, and whether each line is active now is recorded. The number of clock cycles of a step, and the other
events of the performance counters, are free values (notes/assumptions/11.md and 39.md); that the mode and the control
before the step decide, and which instructions are committed, are choices of 39.md; the two counts of instructions are
its own form of R79 and of INTERRUPT_LATENCY (notes/assumptions/14.md and 60.md). Choices of the model too: Random's
exact step for an instruction without an exception, where D5 allows any value (12.md); that a step which takes an
exception or an interrupt counts towards the initialisation (40.md); and, DEDUCED, that the lines are compared at the
boundaries between steps (49.md). (spec/10_state.md R32, spec/10_state.md R38, spec/10_state.md R39,
spec/92_eei_decisions.md D5 and D6, spec/62_ddr2_controller.md R774, spec/60_exceptions.md R670, spec/10_state.md R79,
spec/10_state.md R52 to R55, spec/61_platform_devices.md R742.) -/
def Obligations.CommitAdvancesClocks : Prop :=
  ∀ (before s : State) (keepRandom : Bool),
    let after := commit before s keepRandom
    let control := before.cp0.perfControl
    let counting : Prop := before.erl = false ∧
      ((before.exl = true ∧ control.getLsbD 0 = true) ∨
        (before.exl = false ∧ ((before.ksu = 0 ∧ control.getLsbD 1 = true) ∨
          (before.ksu = 1 ∧ control.getLsbD 2 = true) ∨ (before.ksu = 2 ∧ control.getLsbD 3 = true))))
    (∃ n : Nat,
      2 * n + after.cp0.countPhase.toNat = Config.cycles s.stamp + s.cp0.countPhase.toNat ∧
      after.cp0.count = s.cp0.count + BitVec.ofNat 32 n ∧
      (after.cp0.cause.timer = true ↔
        s.cp0.cause.timer = true ∨ ∃ k, 1 ≤ k ∧ k ≤ n ∧ s.cp0.count + BitVec.ofNat 32 k = s.cp0.compare)) ∧
    after.cp0.random =
      (if s.taken ≠ none ∨ keepRandom = true then s.cp0.random
        else if s.cp0.random ≤ s.cp0.wired then 63 else s.cp0.random - 1) ∧
    after.irqHeld =
      (if before.interruptPending = true ∧ s.taken ≠ some .interrupt then before.irqHeld + 1 else 0) ∧
    after.events =
      (match s.events with
        | [] => []
        | e :: rest => { e with after := e.after - 1 } :: rest) ∧
    (¬ counting → after.cp0.perf0 = s.cp0.perf0 ∧ after.cp0.perf1 = s.cp0.perf1) ∧
    (counting →
      let event0 : BitVec 4 := control.extractLsb' 5 4
      let event1 : BitVec 4 := control.extractLsb' 9 4
      (event0 = 0 → after.cp0.perf0 = s.cp0.perf0 + BitVec.ofNat 32 (Config.cycles s.stamp)) ∧
      (event0 = 13 →
        (∀ store va, s.taken = some (.tlbRefill store va) → after.cp0.perf0 = s.cp0.perf0 + 1) ∧
        ((∀ store va, s.taken ≠ some (.tlbRefill store va)) → after.cp0.perf0 = s.cp0.perf0)) ∧
      (event0 = 14 → after.cp0.perf0 = s.cp0.perf0 + if s.taken = none then 0 else 1) ∧
      (event1 = 0 → after.cp0.perf1 = s.cp0.perf1 + if s.taken = none then 1 else 0) ∧
      (event1 = 13 → after.cp0.perf1 = s.cp0.perf1 + if s.taken = none then 0 else 1)) ∧
    (∀ i, i < 15 → after.io.lastActive.getLsbD i = after.activeLines.getLsbD i ∧
      (after.io.pulse.getLsbD i = true ↔ s.io.pulse.getLsbD i = true ∨
        ((s.reg 9).getLsbD i = true ∧ after.activeLines.getLsbD i = true ∧ s.io.lastActive.getLsbD i = false))) ∧
    (s.ddr.initLeft = none → after.ddr = s.ddr) ∧
    (before.ddrStartBit = false → s.ddrStartBit = true → after.ddr = s.ddr) ∧
    (before.ddrStartBit = true ∨ s.ddrStartBit = false →
      (∀ n, s.ddr.initLeft = some (n + 1) → after.ddr = { s.ddr with initLeft := some n }) ∧
      (s.ddr.initLeft = some 0 →
        after.ddr.ready = true ∧ after.ddr.initLeft = none ∧ (after.ddrCtl 1).getLsbD 0 = true ∧
        (after.ddrCtl 16).getLsbD 56 = true)) ∧
    after = { s with
      ddr := after.ddr
      io := { s.io with pulse := after.io.pulse, lastActive := after.io.lastActive }
      stamp := s.stamp + 1
      irqHeld := after.irqHeld
      events := after.events
      cp0 := { s.cp0 with
        random := after.cp0.random
        count := after.cp0.count
        countPhase := after.cp0.countPhase
        perf0 := after.cp0.perf0
        perf1 := after.cp0.perf1
        cause := { s.cp0.cause with timer := after.cp0.cause.timer } } }

/-- An interrupt is pending exactly when some bit n of Cause.IP and of Status.IM is 1, IE is 1 and EXL and ERL are 0, and
Cause as read shows the same IP bits.  IP7 is the timer latch, IP6 a request of the interrupt controller on an enabled
line 0 to 10 or an enabled performance counter overflow, IP5 to IP2 the lines 14 to 11 of the interrupt controller,
IP1 and IP0 the software bits.  It is due, and a step takes it, once it has been pending for INTERRUPT_LATENCY
instructions. The count of instructions behind INTERRUPT_LATENCY is the model's (notes/assumptions/60.md).
(spec/60_exceptions.md R670, spec/00_scope.md R8, spec/60_exceptions.md R671, spec/10_state.md R44,
spec/61_platform_devices.md R742.) -/
def Obligations.InterruptCondition : Prop :=
  ∀ s : State,
    (s.interruptPending = true ↔
      (∃ n : Nat, n < 8 ∧ s.causeWord.getLsbD (8 + n) = true ∧ s.cp0.status.getLsbD (8 + n) = true) ∧
        s.cp0.status.getLsbD 0 = true ∧ s.cp0.status.getLsbD 1 = false ∧ s.cp0.status.getLsbD 2 = false) ∧
    s.causeWord.getLsbD 15 = s.cp0.cause.timer ∧
    (s.causeWord.getLsbD 14 = true ↔
      (∃ n : Nat, n < 11 ∧ s.intisr.getLsbD n = true ∧ (s.reg 14).getLsbD n = true) ∨
        (s.cp0.perfControl.getLsbD 4 = true ∧ (2 ^ 31 ≤ s.cp0.perf0.toNat ∨ 2 ^ 31 ≤ s.cp0.perf1.toNat))) ∧
    (∀ n : Nat, n < 4 → s.causeWord.getLsbD (10 + n) = s.intisr.getLsbD (11 + n)) ∧
    (∀ n : Nat, n < 2 → s.causeWord.getLsbD (8 + n) = s.cp0.cause.sw.getLsbD n) ∧
    (s.interruptDue = true ↔ s.interruptPending = true ∧ s.params.interruptLatency ≤ s.irqHeld)

/-- From every state whose memory, boot ROM, caches and DDR2 bit errors are in canonical form (addresses strictly rising,
nothing listed that an unlisted address reads as), a step that answers a next state answers one in which they are too,
whatever the step does: an instruction, an exception, an event from outside or a boundary in stand-by. The canonical
form is the model's representation (notes/assumptions/6.md), so that equal memories are equal data. (spec/20_memory.md
R100, spec/20_memory.md R142, spec/10_state.md R75 to R77.) -/
def Obligations.CanonicalKept : Prop :=
  ∀ s t : State, s.canonical → step s = .next t → t.canonical

/-- In every state r0 reads zero and a write to it changes nothing, whatever the value; the other 31 registers read what
was last written to them; and a step from a state whose storage behind r0 is zero leaves it zero. (spec/10_state.md
R21.) -/
def Obligations.ZeroRegisterKept : Prop :=
  (∀ s : State, s.readGpr 0 = 0 ∧ ∀ v, s.writeGpr 0 v = s) ∧
    (∀ (s : State) (r : Reg) (v : Dword), r ≠ 0 →
      (s.writeGpr r v).readGpr r = v ∧ ∀ q, q ≠ r → (s.writeGpr r v).readGpr q = s.readGpr q) ∧
    ∀ s t : State, s.zeroRegister → step s = .next t → t.zeroRegister

/-- If the bits that the spec reserves as zero in EntryLo0, EntryLo1, Context, PageMask, EntryHi, Status, Watch, XContext,
Diagnostic, the performance counter control register and FCR31 are zero, they are zero in every next state of a step.
(spec/10_state.md R29, spec/10_state.md R33 to R36, spec/10_state.md R40, spec/10_state.md R42, spec/10_state.md R49
to R52.) -/
def Obligations.ReservedBitsKept : Prop :=
  ∀ s t : State, s.cp0Reserved → s.fcr31Reserved → step s = .next t → t.cp0Reserved ∧ t.fcr31Reserved

/-- If Random is at least Wired, it is so in every next state of a step; and from such a state a TLBWR that completes
leaves every TLB entry below Wired as it was. (spec/10_state.md R32, spec/10_state.md R36, spec/47_cp0_privileged.md
R443.) -/
def Obligations.RandomInRangeKept : Prop :=
  (∀ s t : State, s.randomInRange → step s = .next t → t.randomInRange) ∧
    ∀ s t : State, s.randomInRange → exec .tlbwr s = .next t →
      ∀ i : Fin 64, i.val < s.cp0.wired.toNat → t.tlb[i] = s.tlb[i]

/-- For every instruction: if exec answers a next state that took an exception, that state is the one before the
instruction after the entry of that exception, and the entry changes only the pc, the CP0 registers of R630 and R643,
and the record of the exception; a floating-point exception may also have written FCR31 (its Cause field, or all its
writable bits for CTC1).  All general and floating-point registers, HI, LO, LLbit, the TLB, memory, the caches and the
devices are as before.  In a delay slot (with EXL = 0) EPC names the branch, which is executed again.
(spec/60_exceptions.md R621, spec/60_exceptions.md R630, spec/60_exceptions.md R643, spec/48_fpu.md R551,
spec/44_jump_branch.md R333.) -/
def Obligations.ExceptionsArePrecise : Prop :=
  ∀ (i : Instr) (s t : State) (e : Exc), s.taken = none → exec i s = .next t → t.taken = some e →
    (∃ f : Word, t = takeException e (s.setFcr31 f) ∧ (e ≠ .floatingPoint → f = s.fcr31)) ∧
    t = { s with
      pc := t.pc, delay := t.delay, taken := t.taken, fcr31 := t.fcr31
      cp0 := { s.cp0 with
        epc := t.cp0.epc, status := t.cp0.status, badVAddr := t.cp0.badVAddr, context := t.cp0.context
        xcontext := t.cp0.xcontext, entryHi := t.cp0.entryHi
        cause := { s.cp0.cause with
          bd := t.cp0.cause.bd, ce := t.cp0.cause.ce, excCode := t.cp0.cause.excCode } } } ∧
    (s.exl = false → s.delay ≠ none → t.cp0.epc = s.pc - 4 ∧ t.cp0.cause.bd = true)

/-- In user or supervisor mode with CU0 = 0, an instruction that completes without an exception leaves every CP0 register
and the JTLB and ITLB as they were, and so the mode: the only way into kernel mode is an exception.
(spec/47_cp0_privileged.md R430, spec/60_exceptions.md R651, spec/60_exceptions.md R661.) -/
def Obligations.UserModeKeepsCp0 : Prop :=
  ∀ (i : Instr) (s t : State), s.mode = some .user ∨ s.mode = some .supervisor → s.cu 0 = false → s.taken = none →
    exec i s = .next t → t.taken = none →
    t.cp0 = s.cp0 ∧ t.tlb = s.tlb ∧ t.itlb = s.itlb ∧ t.mode = s.mode

/-- For every state, taking an exception saves the pc (of the branch, in a delay slot) in EPC and BD unless EXL was
already 1, writes the exception's code, sets EXL, and goes to the vector that BEV selects: offset 0 for a TLB refill
with EXL = 0, otherwise 0x180.  The codes are those of the table of R620.  A coprocessor-unusable exception records
its unit in CE.  All else is kept but for the address registers. That EXL = 1 leaves BD alone is from general
knowledge, as R630 says. (spec/60_exceptions.md R620, spec/60_exceptions.md R630, spec/60_exceptions.md R632,
spec/60_exceptions.md R633.) -/
def Obligations.ExceptionEntry : Prop :=
  ∀ s : State,
    Enters s (takeException .interrupt s) 0 false ∧
    (∀ va, Enters s (takeException (.tlbModified va) s) 1 false) ∧
    (∀ store va, Enters s (takeException (.tlbRefill store va) s) (if store then 3 else 2) true) ∧
    (∀ store va, Enters s (takeException (.tlbInvalid store va) s) (if store then 3 else 2) false) ∧
    (∀ store va, Enters s (takeException (.addressError store va) s) (if store then 5 else 4) false) ∧
    (∀ fetch, Enters s (takeException (.busError fetch) s) (if fetch then 6 else 7) false) ∧
    Enters s (takeException .syscall s) 8 false ∧
    Enters s (takeException .breakpoint s) 9 false ∧
    Enters s (takeException .reservedInstruction s) 10 false ∧
    (∀ unit, Enters s (takeException (.coprocessorUnusable unit) s) 11 false ∧
      (takeException (.coprocessorUnusable unit) s).cp0.cause.ce = unit) ∧
    Enters s (takeException .overflow s) 12 false ∧
    Enters s (takeException .trap s) 13 false ∧
    Enters s (takeException .floatingPoint s) 15 false ∧
    Enters s (takeException .watch s) 23 false

/-- A TLB refill, invalid or modified exception at va writes va to BadVAddr, va[31:13] to Context.BadVPN2, va[63:62] and
va[39:13] to XContext.R and BadVPN2 and to EntryHi.R and VPN2; the PTEBase fields and the ASID keep their values and
the other bits are zero.  An address error writes BadVAddr alone.  Every other exception writes none of the four
registers.  No exception writes Index, Random, Wired, PageMask, EntryLo0 or EntryLo1. (spec/60_exceptions.md R641,
spec/60_exceptions.md R643, spec/60_exceptions.md R648, spec/92_eei_decisions.md D15.) -/
def Obligations.AddressRegisters : Prop :=
  ∀ (s : State) (e : Exc),
    (∀ va, (e = .tlbModified va ∨ ∃ store, e = .tlbRefill store va ∨ e = .tlbInvalid store va) →
      (takeException e s).cp0.badVAddr = va ∧
      (takeException e s).cp0.context.toNat =
        s.cp0.context.toNat / 2 ^ 23 * 2 ^ 23 + va.toNat / 2 ^ 13 % 2 ^ 19 * 2 ^ 4 ∧
      (takeException e s).cp0.xcontext.toNat =
        s.cp0.xcontext.toNat / 2 ^ 33 * 2 ^ 33 + va.toNat / 2 ^ 62 * 2 ^ 31 + va.toNat / 2 ^ 13 % 2 ^ 27 * 2 ^ 4 ∧
      (takeException e s).cp0.entryHi.toNat =
        va.toNat / 2 ^ 62 * 2 ^ 62 + va.toNat / 2 ^ 13 % 2 ^ 27 * 2 ^ 13 + s.cp0.entryHi.toNat % 2 ^ 8) ∧
    (∀ store va, e = .addressError store va →
      takeException e s = { takeException e s with
        cp0 := { (takeException e s).cp0 with
          badVAddr := va, context := s.cp0.context, xcontext := s.cp0.xcontext, entryHi := s.cp0.entryHi } }) ∧
    ((∀ va, e ≠ .tlbModified va) → (∀ store va, e ≠ .tlbRefill store va ∧ e ≠ .tlbInvalid store va ∧
      e ≠ .addressError store va) → SameAddressRegisters s (takeException e s)) ∧
    (takeException e s).cp0.indexP = s.cp0.indexP ∧ (takeException e s).cp0.index = s.cp0.index ∧
    (takeException e s).cp0.random = s.cp0.random ∧ (takeException e s).cp0.wired = s.cp0.wired ∧
    (takeException e s).cp0.pageMask = s.cp0.pageMask ∧
    (takeException e s).cp0.entryLo0 = s.cp0.entryLo0 ∧ (takeException e s).cp0.entryLo1 = s.cp0.entryLo1

/-- The word 0x42000018 is ERET.  With CP0 usable and outside a delay slot it goes with no delay slot to EPC, or to
ErrorEPC if ERL is 1 and the parameter ERET_ERL_USES_ERROREPC says so, clears ERL if it was 1 and EXL otherwise,
clears LLbit, and changes nothing else; so a return from a plain exception restores the mode that KSU names.  In a
delay slot it is refused. That it returns through EPC with ERL = 1 too, by default, is decision D3 of the spec; the
refusal is the model's choice, which R332 leaves open (I13; notes/assumptions/16.md). (spec/47_cp0_privileged.md R445,
spec/60_exceptions.md R631, spec/92_eei_decisions.md D3, spec/93_implementation_defined.md I13.) -/
def Obligations.ExceptionReturn : Prop :=
  decode 0x42000018 = .ok .eret ∧
    ∀ s : State, s.cu 0 = true ∨ s.mode = some .kernel →
      (s.delay = none →
        ∃ t, exec .eret s = .next t ∧ t.pc = (if s.erl = true ∧ s.params.eretErlUsesErrorEpc = true then s.cp0.errorEpc else s.cp0.epc) ∧ t.delay = none ∧ t.llbit = false ∧
          t.erl = false ∧ (s.erl = true → t.exl = s.exl) ∧ (s.erl = false → t.exl = false) ∧
          (∀ n, n ≠ 1 → n ≠ 2 → t.cp0.status.getLsbD n = s.cp0.status.getLsbD n) ∧
          (s.erl = false → s.ksu = 2 → t.mode = some .user) ∧
          (s.erl = false → s.ksu = 1 → t.mode = some .supervisor) ∧
          t = { s with
            pc := t.pc, delay := t.delay, llbit := t.llbit, cp0 := { s.cp0 with status := t.cp0.status } } ∧
          SameMemory s t) ∧
      (s.delay ≠ none → exec .eret s = .refused .delaySlotBranch)

/-- A step that takes an NMI, or a soft reset on a platform with HAS_SOFT_RESET, from the events whose time has come
writes the restart address (of the branch, in a delay slot) to ErrorEPC, sets ERL, SR and BEV and no other bit of
Status, and goes to 0xFFFFFFFFBFC00000 with no delay slot.  Cause, EPC and every other CP0 register but BadVAddr,
which becomes undefined, are kept, and so are all other registers, the TLB, the caches, memory, the DDR2 controller
and the windows; a soft reset also clears the latched interrupt requests, so that only a line that has just become
active is latched afterwards.  Without HAS_SOFT_RESET a soft reset changes nothing but what every event does. That a
soft reset is an event of its own, and that pulses are what it clears, are the model's choices
(notes/assumptions/47.md), and so is that both do all this in stand-by too, without waking the core
(notes/assumptions/48.md). (spec/60_exceptions.md R637, spec/70_reset_and_hazards.md R791,
spec/70_reset_and_hazards.md R792, spec/10_state.md R37, spec/10_state.md R79.) -/
def Obligations.NmiEntry : Prop :=
  ∀ (s : State) (e : HostEvent) (rest : List TimedEvent), s.events = ⟨0, e⟩ :: rest →
    (e = .nmi ∨ (e = .softReset ∧ s.params.hasSoftReset = true) →
      ∃ t, step s = .next t ∧ t.pc = 0xFFFFFFFFBFC00000 ∧ t.delay = none ∧
        t.cp0.errorEpc = (if s.delay = none then s.pc else s.pc - 4) ∧
        t.cp0.status = s.cp0.status ||| 0x00500004 ∧
        t = { s with
          pc := t.pc, delay := t.delay, taken := none, events := rest, stamp := t.stamp
          io := { s.io with pulse := t.io.pulse, lastActive := t.io.lastActive }
          cp0 := { s.cp0 with errorEpc := t.cp0.errorEpc, status := t.cp0.status, badVAddr := t.cp0.badVAddr } } ∧
        (e = .softReset →
          t.io.pulse = s.activeLines &&& ~~~s.io.lastActive &&& (s.reg 9).extractLsb' 0 15)) ∧
    (e = .softReset → s.params.hasSoftReset = false →
      ∃ t, step s = .next t ∧ t = { s with
        taken := none, events := rest, stamp := t.stamp
        io := { s.io with pulse := t.io.pulse, lastActive := t.io.lastActive } })

/-- In supervisor mode (KSU = 01, EXL = 0, ERL = 0) an address from 0 to 0x000000FFFFFFFFFF, from 0x4000000000000000 to
0x400000FFFFFFFFFF or from 0xFFFFFFFFC0000000 to 0xFFFFFFFFDFFFFFFF is translated by the TLB, and an access to any
other address raises the address error, of a store or of a load or fetch, with that address. (R112.) -/
def Obligations.SupervisorSegments : Prop :=
  ∀ (s : State) (k : Access) (va : Dword), s.ksu = 0b01 → s.exl = false → s.erl = false →
    let legal : Prop := va.toNat ≤ 0x000000FFFFFFFFFF ∨
      (0x4000000000000000 ≤ va.toNat ∧ va.toNat ≤ 0x400000FFFFFFFFFF) ∨
      (0xFFFFFFFFC0000000 ≤ va.toNat ∧ va.toNat ≤ 0xFFFFFFFFDFFFFFFF)
    (legal → translate s k va = if k = .fetch then translateFetch s va else translateMapped s k va) ∧
    (¬ legal → translate s k va = .raise (.addressError (k == .store) va) s)

/-- ADDIU, DADDIU, SLTI, SLTIU, ANDI, ORI, XORI and LUI complete in every state, with every operand; each writes the value
its rule gives to rt (nothing for r0) and changes no other register, no flag and no byte of memory. The spec marks
these rules as from general knowledge. (spec/41_alu_immediate.md R240, spec/41_alu_immediate.md R241,
spec/41_alu_immediate.md R244 to R251, spec/10_state.md R21.) -/
def Obligations.ImmediateArithmetic : Prop :=
  ∀ (rs rt : Reg) (imm : BitVec 16),
    Computes (iType 9 rs rt imm) (.addiu rs rt imm) rt (fun s => wordOf (s.wordInt rs + imm.toInt)) ∧
    Computes (iType 25 rs rt imm) (.daddiu rs rt imm) rt (fun s => doubleOf (s.regInt rs + imm.toInt)) ∧
    Computes (iType 10 rs rt imm) (.slti rs rt imm) rt (fun s => if s.regInt rs < imm.toInt then 1 else 0) ∧
    Computes (iType 11 rs rt imm) (.sltiu rs rt imm) rt (fun s => if s.regNat rs < ((imm.signExtend 64).toNat : Int) then 1 else 0) ∧
    Computes (iType 12 rs rt imm) (.andi rs rt imm) rt (fun s => s.readGpr rs &&& BitVec.ofNat 64 imm.toNat) ∧
    Computes (iType 13 rs rt imm) (.ori rs rt imm) rt (fun s => s.readGpr rs ||| BitVec.ofNat 64 imm.toNat) ∧
    Computes (iType 14 rs rt imm) (.xori rs rt imm) rt (fun s => s.readGpr rs ^^^ BitVec.ofNat 64 imm.toNat) ∧
    Computes (iType 15 0 rt imm) (.lui rt imm) rt (fun _ => wordOf (65536 * imm.toNat))

/-- For all operands: if the exact signed sum or difference fits the width of the instruction, it is written sign-extended
to the destination and nothing else changes; otherwise the integer overflow exception is taken and no register is
written. The spec marks the instruction rules as from general knowledge. (spec/41_alu_immediate.md R242 and R243,
spec/42_alu_register.md R261, spec/42_alu_register.md R263, spec/42_alu_register.md R265, spec/42_alu_register.md
R267, spec/60_exceptions.md R649.) -/
def Obligations.OverflowingArithmetic : Prop :=
  ∀ (rs rt rd : Reg) (imm : BitVec 16),
    ComputesOrOverflows (iType 8 rs rt imm) (.addi rs rt imm) rt 32 (fun s => s.wordInt rs + imm.toInt) ∧
    ComputesOrOverflows (iType 24 rs rt imm) (.daddi rs rt imm) rt 64 (fun s => s.regInt rs + imm.toInt) ∧
    ComputesOrOverflows (rType 0 rs rt rd 0 32) (.add rs rt rd) rd 32 (fun s => s.wordInt rs + s.wordInt rt) ∧
    ComputesOrOverflows (rType 0 rs rt rd 0 34) (.sub rs rt rd) rd 32 (fun s => s.wordInt rs - s.wordInt rt) ∧
    ComputesOrOverflows (rType 0 rs rt rd 0 44) (.dadd rs rt rd) rd 64 (fun s => s.regInt rs + s.regInt rt) ∧
    ComputesOrOverflows (rType 0 rs rt rd 0 46) (.dsub rs rt rd) rd 64 (fun s => s.regInt rs - s.regInt rt)

/-- ADDU, SUBU, DADDU, DSUBU, SLT, SLTU, AND, OR, XOR, NOR, MOVZ and MOVN complete in every state, for all registers (a
source may be the destination); each writes the value its rule gives to rd (nothing for r0, and the old value where
MOVZ and MOVN do not move) and changes nothing else. The spec marks these rules as from general knowledge.
(spec/42_alu_register.md R262, spec/42_alu_register.md R264, spec/42_alu_register.md R266, spec/42_alu_register.md
R268 to R276, spec/10_state.md R21.) -/
def Obligations.RegisterArithmetic : Prop :=
  ∀ rs rt rd : Reg,
    Computes (rType 0 rs rt rd 0 33) (.addu rs rt rd) rd (fun s => wordOf (s.wordInt rs + s.wordInt rt)) ∧
    Computes (rType 0 rs rt rd 0 35) (.subu rs rt rd) rd (fun s => wordOf (s.wordInt rs - s.wordInt rt)) ∧
    Computes (rType 0 rs rt rd 0 45) (.daddu rs rt rd) rd (fun s => doubleOf (s.regInt rs + s.regInt rt)) ∧
    Computes (rType 0 rs rt rd 0 47) (.dsubu rs rt rd) rd (fun s => doubleOf (s.regInt rs - s.regInt rt)) ∧
    Computes (rType 0 rs rt rd 0 42) (.slt rs rt rd) rd (fun s => if s.regInt rs < s.regInt rt then 1 else 0) ∧
    Computes (rType 0 rs rt rd 0 43) (.sltu rs rt rd) rd (fun s => if s.regNat rs < s.regNat rt then 1 else 0) ∧
    Computes (rType 0 rs rt rd 0 36) (.and rs rt rd) rd (fun s => s.readGpr rs &&& s.readGpr rt) ∧
    Computes (rType 0 rs rt rd 0 37) (.or rs rt rd) rd (fun s => s.readGpr rs ||| s.readGpr rt) ∧
    Computes (rType 0 rs rt rd 0 38) (.xor rs rt rd) rd (fun s => s.readGpr rs ^^^ s.readGpr rt) ∧
    Computes (rType 0 rs rt rd 0 39) (.nor rs rt rd) rd (fun s => ~~~s.readGpr rs &&& ~~~s.readGpr rt) ∧
    Computes (rType 0 rs rt rd 0 10) (.movz rs rt rd) rd (fun s => if s.regNat rt = 0 then s.readGpr rs else s.readGpr rd) ∧
    Computes (rType 0 rs rt rd 0 11) (.movn rs rt rd) rd (fun s => if s.regNat rt = 0 then s.readGpr rd else s.readGpr rs)

/-- The fifteen shifts complete in every state, for all operands.  A word shift takes the low word of rt times, or divided
(rounding down) by, 2 to the shift amount, as an unsigned word for SRL and SRLV and a signed one for SRA and SRAV, and
sign-extends the low word of the result; a doubleword shift does so with all of rt.  The amount is sa, sa + 32, or rs
modulo 32 or 64.  Nothing else changes. The spec marks these rules as from general knowledge. (spec/45_shift.md R370
to R385, spec/10_state.md R21.) -/
def Obligations.Shifts : Prop :=
  ∀ (rs rt rd : Reg) (sa : BitVec 5),
    Computes (rType 0 0 rt rd sa 0) (.sll rt rd sa) rd (fun s => wordOf (s.wordInt rt * 2 ^ sa.toNat)) ∧
    Computes (rType 0 0 rt rd sa 2) (.srl rt rd sa) rd (fun s => wordOf (s.wordNat rt / 2 ^ sa.toNat)) ∧
    Computes (rType 0 0 rt rd sa 3) (.sra rt rd sa) rd (fun s => wordOf (s.wordInt rt / 2 ^ sa.toNat)) ∧
    Computes (rType 0 rs rt rd 0 4) (.sllv rs rt rd) rd (fun s => wordOf (s.wordInt rt * 2 ^ ((s.readGpr rs).toNat % 32))) ∧
    Computes (rType 0 rs rt rd 0 6) (.srlv rs rt rd) rd (fun s => wordOf (s.wordNat rt / 2 ^ ((s.readGpr rs).toNat % 32))) ∧
    Computes (rType 0 rs rt rd 0 7) (.srav rs rt rd) rd (fun s => wordOf (s.wordInt rt / 2 ^ ((s.readGpr rs).toNat % 32))) ∧
    Computes (rType 0 0 rt rd sa 56) (.dsll rt rd sa) rd (fun s => doubleOf (s.regInt rt * 2 ^ sa.toNat)) ∧
    Computes (rType 0 0 rt rd sa 58) (.dsrl rt rd sa) rd (fun s => doubleOf (s.regNat rt / 2 ^ sa.toNat)) ∧
    Computes (rType 0 0 rt rd sa 59) (.dsra rt rd sa) rd (fun s => doubleOf (s.regInt rt / 2 ^ sa.toNat)) ∧
    Computes (rType 0 0 rt rd sa 60) (.dsll32 rt rd sa) rd (fun s => doubleOf (s.regInt rt * 2 ^ (sa.toNat + 32))) ∧
    Computes (rType 0 0 rt rd sa 62) (.dsrl32 rt rd sa) rd (fun s => doubleOf (s.regNat rt / 2 ^ (sa.toNat + 32))) ∧
    Computes (rType 0 0 rt rd sa 63) (.dsra32 rt rd sa) rd (fun s => doubleOf (s.regInt rt / 2 ^ (sa.toNat + 32))) ∧
    Computes (rType 0 rs rt rd 0 20) (.dsllv rs rt rd) rd (fun s => doubleOf (s.regInt rt * 2 ^ ((s.readGpr rs).toNat % 64))) ∧
    Computes (rType 0 rs rt rd 0 22) (.dsrlv rs rt rd) rd (fun s => doubleOf (s.regNat rt / 2 ^ ((s.readGpr rs).toNat % 64))) ∧
    Computes (rType 0 rs rt rd 0 23) (.dsrav rs rt rd) rd (fun s => doubleOf (s.regInt rt / 2 ^ ((s.readGpr rs).toNat % 64)))

/-- MULT, MULTU, DMULT and DMULTU put the low half of the exact signed or unsigned product into LO and the upper half into
HI; DIV, DIVU, DDIV and DDIVU with a divisor that is not 0 put the quotient truncated toward zero into LO and the
remainder, which has the sign of the dividend, into HI; the word forms sign-extend.  With divisor 0 they complete
without an exception too.  MTHI and MTLO write one register and keep the other; MFHI and MFLO copy one to rd.  All
complete in every state and change nothing else. The spec marks the instruction rules as from general knowledge; for
divisor 0 HI and LO are free values (notes/assumptions/29.md), and the most negative number divided by -1 gives itself
and remainder 0 by decision D10. (spec/43_muldiv.md R290, spec/43_muldiv.md R291, spec/43_muldiv.md R292 to R303,
spec/10_state.md R23, spec/93_implementation_defined.md I17.) -/
def Obligations.MultiplyDivideHiLo : Prop :=
  ∀ rs rt rd : Reg,
    SetsHiLo (rType 0 rs rt 0 0 24) (.mult rs rt) (fun s hi lo =>
      lo = wordOf (s.wordInt rs * s.wordInt rt) ∧ hi = wordOf ((s.wordInt rs * s.wordInt rt) / 2 ^ 32)) ∧
    SetsHiLo (rType 0 rs rt 0 0 25) (.multu rs rt) (fun s hi lo =>
      lo = wordOf (s.wordNat rs * s.wordNat rt) ∧ hi = wordOf ((s.wordNat rs * s.wordNat rt) / 2 ^ 32)) ∧
    SetsHiLo (rType 0 rs rt 0 0 28) (.dmult rs rt) (fun s hi lo =>
      lo = doubleOf (s.regInt rs * s.regInt rt) ∧ hi = doubleOf ((s.regInt rs * s.regInt rt) / 2 ^ 64)) ∧
    SetsHiLo (rType 0 rs rt 0 0 29) (.dmultu rs rt) (fun s hi lo =>
      lo = doubleOf (s.regNat rs * s.regNat rt) ∧ hi = doubleOf ((s.regNat rs * s.regNat rt) / 2 ^ 64)) ∧
    SetsHiLo (rType 0 rs 0 0 0 17) (.mthi rs) (fun s hi lo => hi = s.readGpr rs ∧ lo = s.lo) ∧
    SetsHiLo (rType 0 rs 0 0 0 19) (.mtlo rs) (fun s hi lo => hi = s.hi ∧ lo = s.readGpr rs) ∧
    Computes (rType 0 0 0 rd 0 16) (.mfhi rd) rd (fun s => s.hi) ∧
    Computes (rType 0 0 0 rd 0 18) (.mflo rd) rd (fun s => s.lo) ∧
    SetsHiLo (rType 0 rs rt 0 0 26) (.div rs rt) (fun s hi lo =>
      s.wordInt rt ≠ 0 → ∃ q r, Truncates (s.wordInt rs) (s.wordInt rt) q r ∧ lo = wordOf q ∧ hi = wordOf r) ∧
    SetsHiLo (rType 0 rs rt 0 0 27) (.divu rs rt) (fun s hi lo =>
      s.wordNat rt ≠ 0 → ∃ q r, Truncates (s.wordNat rs) (s.wordNat rt) q r ∧ lo = wordOf q ∧ hi = wordOf r) ∧
    SetsHiLo (rType 0 rs rt 0 0 30) (.ddiv rs rt) (fun s hi lo =>
      s.regInt rt ≠ 0 → ∃ q r, Truncates (s.regInt rs) (s.regInt rt) q r ∧ lo = doubleOf q ∧ hi = doubleOf r) ∧
    SetsHiLo (rType 0 rs rt 0 0 31) (.ddivu rs rt) (fun s hi lo =>
      s.regNat rt ≠ 0 → ∃ q r, Truncates (s.regNat rs) (s.regNat rt) q r ∧ lo = doubleOf q ∧ hi = doubleOf r)

/-- MULTG, MULTUG, DMULTG and DMULTUG write the low half of the product, DIVG, DIVUG, DDIVG and DDIVUG the quotient
truncated toward zero, MODG, MODUG, DMODG and DMODUG the remainder with the sign of the dividend to rd, sign-extended
from the width of the form; for divisor 0 the result is the parameter GS_DIV0_RESULT.  They complete in every state;
HI, LO and all else keep their values. The encodings are those of the default of the parameter GS_OPCODES
(notes/assumptions/21.md and 30.md). (spec/43_muldiv.md R290, spec/43_muldiv.md R291, spec/43_muldiv.md R310 to R321,
spec/30_encoding.md R186, spec/92_eei_decisions.md D10 and D11.) -/
def Obligations.GodsonMultiplyDivide : Prop :=
  ∀ rs rt rd : Reg,
    Computes (rType 28 rs rt rd 0 16) (.multg rs rt rd) rd (fun s => wordOf (s.wordInt rs * s.wordInt rt)) ∧
    Computes (rType 28 rs rt rd 0 18) (.multug rs rt rd) rd (fun s => wordOf (s.wordNat rs * s.wordNat rt)) ∧
    Computes (rType 28 rs rt rd 0 17) (.dmultg rs rt rd) rd (fun s => doubleOf (s.regInt rs * s.regInt rt)) ∧
    Computes (rType 28 rs rt rd 0 19) (.dmultug rs rt rd) rd (fun s => doubleOf (s.regNat rs * s.regNat rt)) ∧
    (∃ q r : State → Int,
      Computes (rType 28 rs rt rd 0 20) (.divg rs rt rd) rd (fun s => if s.wordInt rt = 0 then s.params.gsDiv0Result else wordOf (q s)) ∧
      Computes (rType 28 rs rt rd 0 28) (.modg rs rt rd) rd (fun s => if s.wordInt rt = 0 then s.params.gsDiv0Result else wordOf (r s)) ∧
      ∀ s, s.wordInt rt ≠ 0 → Truncates (s.wordInt rs) (s.wordInt rt) (q s) (r s)) ∧
    (∃ q r : State → Int,
      Computes (rType 28 rs rt rd 0 22) (.divug rs rt rd) rd (fun s => if s.wordNat rt = 0 then s.params.gsDiv0Result else wordOf (q s)) ∧
      Computes (rType 28 rs rt rd 0 30) (.modug rs rt rd) rd (fun s => if s.wordNat rt = 0 then s.params.gsDiv0Result else wordOf (r s)) ∧
      ∀ s, s.wordNat rt ≠ 0 → Truncates (s.wordNat rs) (s.wordNat rt) (q s) (r s)) ∧
    (∃ q r : State → Int,
      Computes (rType 28 rs rt rd 0 21) (.ddivg rs rt rd) rd (fun s => if s.regInt rt = 0 then s.params.gsDiv0Result else doubleOf (q s)) ∧
      Computes (rType 28 rs rt rd 0 29) (.dmodg rs rt rd) rd (fun s => if s.regInt rt = 0 then s.params.gsDiv0Result else doubleOf (r s)) ∧
      ∀ s, s.regInt rt ≠ 0 → Truncates (s.regInt rs) (s.regInt rt) (q s) (r s)) ∧
    (∃ q r : State → Int,
      Computes (rType 28 rs rt rd 0 23) (.ddivug rs rt rd) rd (fun s => if s.regNat rt = 0 then s.params.gsDiv0Result else doubleOf (q s)) ∧
      Computes (rType 28 rs rt rd 0 31) (.dmodug rs rt rd) rd (fun s => if s.regNat rt = 0 then s.params.gsDiv0Result else doubleOf (r s)) ∧
      ∀ s, s.regNat rt ≠ 0 → Truncates (s.regNat rs) (s.regNat rt) (q s) (r s))

/-- Outside a delay slot J and JAL put the next word into the delay slot of the target in its 256 MB region, JR and JALR
into that of the target in rs, which JALR reads before it writes rd; JAL writes the address behind the delay slot to
r31, JALR to rd.  Nothing else changes.  In a delay slot they are refused.  After the delay slot of a transfer an
instruction goes on at the target. The spec marks these rules as from general knowledge; the refusal in a delay slot
is the model's choice, which R332 leaves open (I13; notes/assumptions/16.md). (spec/44_jump_branch.md R330,
spec/44_jump_branch.md R332, spec/44_jump_branch.md R334, spec/44_jump_branch.md R335, spec/44_jump_branch.md R337 to
R340.) -/
def Obligations.Jumps : Prop :=
  ∀ (target : BitVec 26) (rs rd : Reg) (hint : BitVec 5),
    Transfers (jType 2 target) (.j target) 0 (jumpDestination target) ∧
    Transfers (jType 3 target) (.jal target) 31 (jumpDestination target) ∧
    Transfers (rType 0 rs 0 0 hint 8) (.jr rs hint) 0 (fun s => s.readGpr rs) ∧
    Transfers (rType 0 rs 0 rd hint 9) (.jalr rs rd hint) rd (fun s => s.readGpr rs) ∧
    (∀ s : State, s.advance.pc = (match s.delay with | some target => target | none => s.pc + 4) ∧
      s.advance.delay = none)

/-- BEQ, BNE, BLEZ, BGTZ, BLTZ, BGEZ, BLTZAL and BGEZAL outside a delay slot: the next word runs in the delay slot;
control then goes to the target, four times the offset from the delay slot, if the condition on the 64-bit registers
holds, and to the word behind the delay slot otherwise.  BLTZAL and BGEZAL write the address behind the delay slot to
r31 in either case, after reading rs.  Nothing else changes; in a delay slot they are refused. The spec marks these
rules as from general knowledge.  That a branch in a delay slot is refused is the model's choice between the two
treatments that R332 leaves open (I13; notes/assumptions/16.md). (spec/44_jump_branch.md R330, spec/44_jump_branch.md
R332 to R335, spec/44_jump_branch.md R341 to R348.) -/
def Obligations.Branches : Prop :=
  ∀ (rs rt : Reg) (offset : BitVec 16),
    Transfers (iType 4 rs rt offset) (.beq rs rt offset) 0 (fun s => if s.readGpr rs = s.readGpr rt then branchDestination offset s else s.pc + 8) ∧
    Transfers (iType 5 rs rt offset) (.bne rs rt offset) 0 (fun s => if s.readGpr rs ≠ s.readGpr rt then branchDestination offset s else s.pc + 8) ∧
    Transfers (iType 6 rs 0 offset) (.blez rs offset) 0 (fun s => if s.regInt rs ≤ 0 then branchDestination offset s else s.pc + 8) ∧
    Transfers (iType 7 rs 0 offset) (.bgtz rs offset) 0 (fun s => if 0 < s.regInt rs then branchDestination offset s else s.pc + 8) ∧
    Transfers (iType 1 rs 0 offset) (.bltz rs offset) 0 (fun s => if s.regInt rs < 0 then branchDestination offset s else s.pc + 8) ∧
    Transfers (iType 1 rs 1 offset) (.bgez rs offset) 0 (fun s => if 0 ≤ s.regInt rs then branchDestination offset s else s.pc + 8) ∧
    Transfers (iType 1 rs 16 offset) (.bltzal rs offset) 31 (fun s => if s.regInt rs < 0 then branchDestination offset s else s.pc + 8) ∧
    Transfers (iType 1 rs 17 offset) (.bgezal rs offset) 31 (fun s => if 0 ≤ s.regInt rs then branchDestination offset s else s.pc + 8)

/-- BEQL, BNEL, BLEZL, BGTZL, BLTZL, BGEZL, BLTZALL and BGEZALL outside a delay slot: taken, the next word runs in the
delay slot and control goes to the target; not taken, control goes on behind the delay slot, which is not executed. 
The linking forms write r31 in either case.  Nothing else changes; in a delay slot they are refused. The spec marks
these rules as from general knowledge.  That a branch in a delay slot is refused is the model's choice between the two
treatments that R332 leaves open (I13; notes/assumptions/16.md). (spec/44_jump_branch.md R331, spec/44_jump_branch.md
R332, spec/44_jump_branch.md R334, spec/44_jump_branch.md R335, spec/44_jump_branch.md R349 to R356.) -/
def Obligations.LikelyBranches : Prop :=
  ∀ (rs rt : Reg) (offset : BitVec 16),
    TransfersLikely (iType 20 rs rt offset) (.beql rs rt offset) 0 (fun s => s.readGpr rs = s.readGpr rt) (branchDestination offset) ∧
    TransfersLikely (iType 21 rs rt offset) (.bnel rs rt offset) 0 (fun s => s.readGpr rs ≠ s.readGpr rt) (branchDestination offset) ∧
    TransfersLikely (iType 22 rs 0 offset) (.blezl rs offset) 0 (fun s => s.regInt rs ≤ 0) (branchDestination offset) ∧
    TransfersLikely (iType 23 rs 0 offset) (.bgtzl rs offset) 0 (fun s => 0 < s.regInt rs) (branchDestination offset) ∧
    TransfersLikely (iType 1 rs 2 offset) (.bltzl rs offset) 0 (fun s => s.regInt rs < 0) (branchDestination offset) ∧
    TransfersLikely (iType 1 rs 3 offset) (.bgezl rs offset) 0 (fun s => 0 ≤ s.regInt rs) (branchDestination offset) ∧
    TransfersLikely (iType 1 rs 18 offset) (.bltzall rs offset) 31 (fun s => s.regInt rs < 0) (branchDestination offset) ∧
    TransfersLikely (iType 1 rs 19 offset) (.bgezall rs offset) 31 (fun s => 0 ≤ s.regInt rs) (branchDestination offset)

/-- With CU1 = 1 and outside a delay slot, BC1F and BC1FL branch if condition bit 0 of FCR31 is 0, BC1T and BC1TL if it is
1; the plain forms run their delay slot in either case, the likely ones skip it when not taken.  Nothing but the
program counter changes; in a delay slot they are refused. That condition bit 0 is bit 23 is PRESUMED in
notes/assumptions/34.md (R29, D4).  That a branch in a delay slot is refused is the model's choice between the two
treatments that R332 leaves open (I13; notes/assumptions/16.md). (spec/48_fpu.md R560 to R563, spec/44_jump_branch.md
R330 to R332, spec/44_jump_branch.md R335, spec/30_encoding.md R174, spec/10_state.md R29.) -/
def Obligations.ConditionBranches : Prop :=
  ∀ offset : BitVec 16,
    (decode (iType 17 8 0 offset) = .ok (.bc1f offset) ∧ ∀ s : State, s.cu 1 = true →
      (s.delay = none → ∃ t, exec (.bc1f offset) s = .next t ∧
          t.pc = s.pc + 4 ∧
          t.delay = some (if s.fcr31.getLsbD 23 = false then branchDestination offset s else s.pc + 8) ∧
          OnlyPc s t) ∧
      (s.delay ≠ none → exec (.bc1f offset) s = .refused .delaySlotBranch)) ∧
    (decode (iType 17 8 1 offset) = .ok (.bc1t offset) ∧ ∀ s : State, s.cu 1 = true →
      (s.delay = none → ∃ t, exec (.bc1t offset) s = .next t ∧
          t.pc = s.pc + 4 ∧
          t.delay = some (if s.fcr31.getLsbD 23 = true then branchDestination offset s else s.pc + 8) ∧
          OnlyPc s t) ∧
      (s.delay ≠ none → exec (.bc1t offset) s = .refused .delaySlotBranch)) ∧
    (decode (iType 17 8 2 offset) = .ok (.bc1fl offset) ∧ ∀ s : State, s.cu 1 = true →
      (s.delay = none → ∃ t, exec (.bc1fl offset) s = .next t ∧
          (s.fcr31.getLsbD 23 = false → t.pc = s.pc + 4 ∧ t.delay = some (branchDestination offset s)) ∧
          (¬ (s.fcr31.getLsbD 23 = false) → t.pc = s.pc + 8 ∧ t.delay = none) ∧
          OnlyPc s t) ∧
      (s.delay ≠ none → exec (.bc1fl offset) s = .refused .delaySlotBranch)) ∧
    (decode (iType 17 8 3 offset) = .ok (.bc1tl offset) ∧ ∀ s : State, s.cu 1 = true →
      (s.delay = none → ∃ t, exec (.bc1tl offset) s = .next t ∧
          (s.fcr31.getLsbD 23 = true → t.pc = s.pc + 4 ∧ t.delay = some (branchDestination offset s)) ∧
          (¬ (s.fcr31.getLsbD 23 = true) → t.pc = s.pc + 8 ∧ t.delay = none) ∧
          OnlyPc s t) ∧
      (s.delay ≠ none → exec (.bc1tl offset) s = .refused .delaySlotBranch))

/-- TGE, TGEU, TLT, TLTU, TEQ, TNE and their immediate forms compare the 64-bit rs, signed or unsigned, with rt or the
sign-extended immediate; if the condition holds they take the trap exception, otherwise nothing but the program
counter changes.  SYSCALL enters the exception with code 8 and BREAK the one with code 9, in every state, at the
general vector, with no address register written and nothing else changed.  The code fields have no effect. The spec
marks the rules of the traps as from general knowledge. (spec/46_special_trap.md R400, spec/46_special_trap.md R401,
spec/46_special_trap.md R403 to R415, spec/60_exceptions.md R630, spec/60_exceptions.md R652, spec/60_exceptions.md
R653, spec/60_exceptions.md R654.) -/
def Obligations.TrapsAndCalls : Prop :=
  (∀ (rs rt : Reg) (code : BitVec 10) (imm : BitVec 16),
    TrapsIf (trapType 0 rs rt code 48) (.tge rs rt code) (fun s => s.regInt rt ≤ s.regInt rs) ∧
    TrapsIf (trapType 0 rs rt code 49) (.tgeu rs rt code) (fun s => s.regNat rt ≤ s.regNat rs) ∧
    TrapsIf (trapType 0 rs rt code 50) (.tlt rs rt code) (fun s => s.regInt rs < s.regInt rt) ∧
    TrapsIf (trapType 0 rs rt code 51) (.tltu rs rt code) (fun s => s.regNat rs < s.regNat rt) ∧
    TrapsIf (trapType 0 rs rt code 52) (.teq rs rt code) (fun s => s.readGpr rs = s.readGpr rt) ∧
    TrapsIf (trapType 0 rs rt code 54) (.tne rs rt code) (fun s => s.readGpr rs ≠ s.readGpr rt) ∧
    TrapsIf (iType 1 rs 8 imm) (.tgei rs imm) (fun s => imm.toInt ≤ s.regInt rs) ∧
    TrapsIf (iType 1 rs 9 imm) (.tgeiu rs imm) (fun s => ((imm.signExtend 64).toNat : Int) ≤ s.regNat rs) ∧
    TrapsIf (iType 1 rs 10 imm) (.tlti rs imm) (fun s => s.regInt rs < imm.toInt) ∧
    TrapsIf (iType 1 rs 11 imm) (.tltiu rs imm) (fun s => s.regNat rs < ((imm.signExtend 64).toNat : Int)) ∧
    TrapsIf (iType 1 rs 12 imm) (.teqi rs imm) (fun s => s.regInt rs = imm.toInt) ∧
    TrapsIf (iType 1 rs 14 imm) (.tnei rs imm) (fun s => s.regInt rs ≠ imm.toInt)) ∧
  ∀ code : BitVec 20,
    (decode (codeType 0 code 12) = .ok (.syscall code) ∧
      ∀ s, ∃ t, exec (.syscall code) s = .next t ∧ Enters s t 8 false ∧ SameAddressRegisters s t) ∧
    (decode (codeType 0 code 13) = .ok (.break_ code) ∧
      ∀ s, ∃ t, exec (.break_ code) s = .next t ∧ Enters s t 9 false ∧ SameAddressRegisters s t)

/-- The mode is kernel when EXL or ERL is 1 or KSU is 0, otherwise supervisor for KSU 1 and user for KSU 2; with KSU 3
translation is refused.  XUSEG is mapped in every mode, XSSEG and CSSEG in supervisor and kernel mode, XKSEG and
CKSEG3 in kernel mode.  In kernel mode CKSEG0 is the physical address in bits 28:0 with attribute K0, CKSEG1 the same
with attribute 2, and XKPHY with bits 58:40 zero the address in bits 39:0 with the attribute in bits 61:59.  Every
other address, and every address the mode may not reach, is an address error. The refusal is I5 of
spec/93_implementation_defined.md (notes/assumptions/17.md). (spec/20_memory.md R110, spec/20_memory.md R111,
spec/20_memory.md R112, spec/20_memory.md R113, spec/20_memory.md R114, spec/20_memory.md R115, spec/10_state.md R43,
spec/60_exceptions.md R660.) -/
def Obligations.SegmentsByMode : Prop :=
  ∀ (s : State) (k : Access) (va : Dword),
    (s.mode = some .kernel ↔ s.exl = true ∨ s.erl = true ∨ s.ksu = 0) ∧
    (s.mode = some .supervisor ↔ s.exl = false ∧ s.erl = false ∧ s.ksu = 1) ∧
    (s.mode = some .user ↔ s.exl = false ∧ s.erl = false ∧ s.ksu = 2) ∧
    (s.mode = none → translate s k va = .refuse .undefinedMode) ∧
    (∀ m, s.mode = some m →
      let a := va.toNat
      let mapped := if k = .fetch then translateFetch s va else translateMapped s k va
      let illegal : Res (BitVec 40 × BitVec 3) := .raise (.addressError (k == .store) va) s
      (a < 0x10000000000 → translate s k va = mapped) ∧
      (0x10000000000 ≤ a → a < 0x4000000000000000 → translate s k va = illegal) ∧
      (0x4000000000000000 ≤ a → a < 0x4000010000000000 →
        translate s k va = if m = .user then illegal else mapped) ∧
      (0x4000010000000000 ≤ a → a < 0x8000000000000000 → translate s k va = illegal) ∧
      (0x8000000000000000 ≤ a → a < 0xC000000000000000 →
        translate s k va =
          if m = .kernel ∧ a / 2 ^ 40 % 2 ^ 19 = 0 then
            .ok (BitVec.ofNat 40 a, BitVec.ofNat 3 (a / 2 ^ 59)) s
          else illegal) ∧
      (0xC000000000000000 ≤ a → a < 0xC00000FF80000000 →
        translate s k va = if m = .kernel then mapped else illegal) ∧
      (0xC00000FF80000000 ≤ a → a < 0xFFFFFFFF80000000 → translate s k va = illegal) ∧
      (0xFFFFFFFF80000000 ≤ a → a < 0xFFFFFFFFA0000000 →
        translate s k va =
          if m = .kernel then .ok (BitVec.ofNat 40 (a - 0xFFFFFFFF80000000), s.cp0.k0) s else illegal) ∧
      (0xFFFFFFFFA0000000 ≤ a → a < 0xFFFFFFFFC0000000 →
        translate s k va =
          if m = .kernel then .ok (BitVec.ofNat 40 (a - 0xFFFFFFFFA0000000), 2) s else illegal) ∧
      (0xFFFFFFFFC0000000 ≤ a → a < 0xFFFFFFFFE0000000 →
        translate s k va = if m = .user then illegal else mapped) ∧
      (0xFFFFFFFFE0000000 ≤ a → translate s k va = if m = .kernel then mapped else illegal))

/-- If no entry matches, the access raises TLB refill; if exactly one does, the bit above the page offset selects its
page: V = 0 raises TLB invalid, a store with D = 0 TLB modified, a fetch with E = 1 the address error, in this order;
otherwise the physical address is the page frame followed by the page offset and the attribute is the page's.  If two
entries match, translation is refused.  V takes no part in the match. The comparison of R and the place of the E check
are decisions D18 and D19 of the spec, and the sizes between 4 KB and 16 MB from general knowledge; two matches are
undefined by R71 (notes/assumptions/18.md). (spec/20_memory.md R120, spec/20_memory.md R121, spec/20_memory.md R122,
spec/20_memory.md R126, spec/20_memory.md R129, spec/60_exceptions.md R642, spec/60_exceptions.md R644,
spec/60_exceptions.md R645.) -/
def Obligations.MappedTranslation : Prop :=
  ∀ (s : State) (k : Access) (va : Dword),
    ((∀ i, ¬ TlbMatches s i va) → translateMapped s k va = .raise (.tlbRefill (k == .store) va) s) ∧
    (∀ i j, i ≠ j → TlbMatches s i va → TlbMatches s j va → translateMapped s k va = .refuse .multipleTlbMatch) ∧
    (∀ (i : Fin 64) (j : Nat), OnlyTlbMatch s i va → PageMaskOf s.tlb[i].mask j →
      let n := 12 + 2 * j
      let p := if va.toNat / 2 ^ n % 2 = 1 then s.tlb[i].odd else s.tlb[i].even
      (p.v = false → translateMapped s k va = .raise (.tlbInvalid (k == .store) va) s) ∧
      (p.v = true → k = .store → p.d = false → translateMapped s k va = .raise (.tlbModified va) s) ∧
      (p.v = true → k = .fetch → p.e = true → translateMapped s k va = .raise (.addressError false va) s) ∧
      (p.v = true → (k = .store → p.d = true) → (k = .fetch → p.e = false) →
        translateMapped s k va =
          .ok (BitVec.ofNat 40 (p.pfn.toNat / 2 ^ (n - 12) * 2 ^ n + va.toNat % 2 ^ n), p.c) s))

/-- Let PageMask give a page size.  If no ITLB entry holds the page of a fetch, the fetch has the answer of the JTLB,
exceptions included, and if it succeeds one ITLB entry afterwards holds the region and the page number of the address
and the page that the matching JTLB entry selects, and nothing else has changed.  If an ITLB entry holds the page, the
first one that does answers from its own page, whatever the JTLB holds by then: V = 0 raises TLB invalid, E = 1 the
address error, otherwise the physical address is the page frame followed by the page offset.  With another mask in
PageMask a fetch is translated by the JTLB alone. The entry replaced is a free value, the page size is that of
PageMask, and that the first of several entries answers is the model's choice (notes/assumptions/20.md).  That a
PageMask without a legal mask passes the ITLB over, and that an ITLB entry holds one page and answers without a
comparison of the ASID, is the model's too, DEDUCED in notes/assumptions/20.md: R35, R125 and R128 do not say so.
(spec/20_memory.md R128, spec/20_memory.md R125, spec/10_state.md R72, spec/10_state.md R51.) -/
def Obligations.FetchTranslation : Prop :=
  ∀ (s : State) (va : Dword),
    ((∀ j, ¬ PageMaskOf (s.cp0.pageMask.extractLsb' 13 12) j) →
      translateFetch s va = translateMapped s .fetch va) ∧
    (∀ j : Nat, PageMaskOf (s.cp0.pageMask.extractLsb' 13 12) j →
      let holds (n : Fin 16) (e : ItlbEntry) : Prop := s.itlb[n] = some e ∧ e.r.toNat = va.toNat / 2 ^ 62 ∧
        e.vpn.toNat / 4 ^ j = va.toNat / 2 ^ (12 + 2 * j) % 2 ^ (28 - 2 * j)
      ((∀ n e, ¬ holds n e) →
        (∀ x u, translateMapped s .fetch va = .raise x u → translateFetch s va = .raise x s) ∧
        (∀ r u, translateMapped s .fetch va = .ok r u →
          ∃ (t : State) (n : Fin 16) (e : ItlbEntry),
            translateFetch s va = .ok r t ∧ t = { s with itlb := t.itlb } ∧
            t.itlb[n] = some e ∧ (∀ m : Fin 16, m ≠ n → t.itlb[m] = s.itlb[m]) ∧
            e.r.toNat = va.toNat / 2 ^ 62 ∧ e.vpn.toNat = va.toNat / 2 ^ 12 % 2 ^ 28 ∧
            ∀ (i : Fin 64) (k : Nat), OnlyTlbMatch s i va → PageMaskOf s.tlb[i].mask k →
              e.page = if va.toNat / 2 ^ (12 + 2 * k) % 2 = 1 then s.tlb[i].odd else s.tlb[i].even)) ∧
      (∀ n e, holds n e → (∀ m d, m < n → ¬ holds m d) →
        (e.page.v = false → translateFetch s va = .raise (.tlbInvalid false va) s) ∧
        (e.page.v = true → e.page.e = true → translateFetch s va = .raise (.addressError false va) s) ∧
        (e.page.v = true → e.page.e = false →
          translateFetch s va =
            .ok (BitVec.ofNat 40
              (e.page.pfn.toNat / 4 ^ j * 2 ^ (12 + 2 * j) + va.toNat % 2 ^ (12 + 2 * j)), e.page.c) s)))

/-- For a destination other than r0, an address that translates and is not watched, and bytes that read as the number v
(from DDR2 memory for an uncached access, from the data cache when it holds the line): LB, LH and LW write v as a
signed number of 8, 16 and 32 bits, LBU, LHU, LWU and LD write v itself, for an address aligned to the size.  They
complete, and nothing else changes.  A cached access that misses reads the bytes of its line from the secondary cache,
or else from memory: the load writes the same value from them, a clean data cache line of its set holds that data
afterwards, with the secondary cache line filled too and the lines replaced gone (a dirty data cache line to the
secondary cache), and no other line has changed. The spec marks the instruction rules as from general knowledge; which
way a miss replaces is open (notes/assumptions/25.md). R76 only names the W bit of a data cache line: that a cached
store sets it and a fill clears it is the model's choice (notes/assumptions/25.md). (spec/40_load_store.md R204 to
R210, spec/20_memory.md R101, spec/20_memory.md R102, spec/20_memory.md R130, spec/20_memory.md R141,
spec/20_memory.md R142, spec/20_memory.md R146, spec/10_state.md R76, spec/10_state.md R77.) -/
def Obligations.Loads : Prop :=
  ∀ (s : State) (base rt : Reg) (offset : BitVec 16) (pa : BitVec 40) (c : BitVec 3) (v : Nat), rt ≠ 0 →
    Translates s false (addressOf s base offset) pa c →
    let va := addressOf s base offset
    (ReadsAs s va pa c 1 v →
      SetsRegister (.lb base rt offset) s rt (signedOf 8 v) ∧
      SetsRegister (.lbu base rt offset) s rt (BitVec.ofNat 64 v)) ∧
    (va.toNat % 2 = 0 → ReadsAs s va pa c 2 v →
      SetsRegister (.lh base rt offset) s rt (signedOf 16 v) ∧
      SetsRegister (.lhu base rt offset) s rt (BitVec.ofNat 64 v)) ∧
    (va.toNat % 4 = 0 → ReadsAs s va pa c 4 v →
      SetsRegister (.lw base rt offset) s rt (signedOf 32 v) ∧
      SetsRegister (.lwu base rt offset) s rt (BitVec.ofNat 64 v)) ∧
    (va.toNat % 8 = 0 → ReadsAs s va pa c 8 v →
      SetsRegister (.ld base rt offset) s rt (BitVec.ofNat 64 v)) ∧
    (c = 3 → s.canonical → ∀ d, Refills s va pa d →
      let o := pa.toNat % 32
      LoadsOnMiss (.lb base rt offset) s va pa d rt (signedOf 8 (lineNat d o 1)) ∧
      LoadsOnMiss (.lbu base rt offset) s va pa d rt (BitVec.ofNat 64 (lineNat d o 1)) ∧
      (va.toNat % 2 = 0 →
        LoadsOnMiss (.lh base rt offset) s va pa d rt (signedOf 16 (lineNat d o 2)) ∧
        LoadsOnMiss (.lhu base rt offset) s va pa d rt (BitVec.ofNat 64 (lineNat d o 2))) ∧
      (va.toNat % 4 = 0 →
        LoadsOnMiss (.lw base rt offset) s va pa d rt (signedOf 32 (lineNat d o 4)) ∧
        LoadsOnMiss (.lwu base rt offset) s va pa d rt (BitVec.ofNat 64 (lineNat d o 4))) ∧
      (va.toNat % 8 = 0 → LoadsOnMiss (.ld base rt offset) s va pa d rt (BitVec.ofNat 64 (lineNat d o 8))))

/-- With b the address modulo 4 (8): LWL (LDL) reads the b + 1 bytes from the start of the aligned word (doubleword) on
and puts them above the low 3 - b (7 - b) bytes of the register; LWR (LDR) reads the 4 - b (8 - b) bytes from the
address on and puts them below the top b bytes.  The word forms sign-extend their result.  They complete for every
alignment, and nothing else changes.  A cached access that misses reads the bytes from its line in the secondary
cache, or else in memory: the same register is set, and the caches change as in Loads. The spec marks the instruction
rules as from general knowledge; that LWR sign-extends in every case is decision D26. Which way a miss replaces is
open. R76 only names the W bit of a data cache line: that a fill clears it is the model's choice
(notes/assumptions/25.md). (spec/40_load_store.md R211 to R213, spec/40_load_store.md R216, spec/40_load_store.md
R217, spec/92_eei_decisions.md D26, spec/20_memory.md R142, spec/20_memory.md R146, spec/10_state.md R76,
spec/10_state.md R77.) -/
def Obligations.PartialLoads : Prop :=
  ∀ (s : State) (base rt : Reg) (offset : BitVec 16) (pa : BitVec 40) (c : BitVec 3) (v : Nat), rt ≠ 0 →
    Translates s false (addressOf s base offset) pa c →
    let va := addressOf s base offset
    let old := (s.readGpr rt).toNat
    (∀ b, b = va.toNat % 4 →
      let first := pa &&& ~~~3
      let left := signedOf 32 (v * 2 ^ (8 * (3 - b)) + old % 2 ^ (8 * (3 - b)))
      let right := signedOf 32 (v + old % 2 ^ 32 / 2 ^ (8 * (4 - b)) * 2 ^ (8 * (4 - b)))
      (ReadsAs s va first c (b + 1) v → SetsRegister (.lwl base rt offset) s rt left) ∧
      (∀ d, ReadsOnMiss s va first c (b + 1) d v → LoadsOnMiss (.lwl base rt offset) s va first d rt left) ∧
      (ReadsAs s va pa c (4 - b) v → SetsRegister (.lwr base rt offset) s rt right) ∧
      (∀ d, ReadsOnMiss s va pa c (4 - b) d v → LoadsOnMiss (.lwr base rt offset) s va pa d rt right)) ∧
    (∀ b, b = va.toNat % 8 →
      let first := pa &&& ~~~7
      let left := BitVec.ofNat 64 (v * 2 ^ (8 * (7 - b)) + old % 2 ^ (8 * (7 - b)))
      let right := BitVec.ofNat 64 (v + old / 2 ^ (8 * (8 - b)) * 2 ^ (8 * (8 - b)))
      (ReadsAs s va first c (b + 1) v → SetsRegister (.ldl base rt offset) s rt left) ∧
      (∀ d, ReadsOnMiss s va first c (b + 1) d v → LoadsOnMiss (.ldl base rt offset) s va first d rt left) ∧
      (ReadsAs s va pa c (8 - b) v → SetsRegister (.ldr base rt offset) s rt right) ∧
      (∀ d, ReadsOnMiss s va pa c (8 - b) d v → LoadsOnMiss (.ldr base rt offset) s va pa d rt right))

/-- SB, SH, SW and SD, for an address that translates for a store, is aligned to the size and is not watched: the low 1,
2, 4 or 8 bytes of rt are stored little-endian from the physical address on, in DDR2 memory for an uncached access, in
the data cache line that holds the address for a cached one, in the empty gather buffer for an uncached accelerated
one.  Every other byte of memory and every other line reads as before, and nothing else changes.  A cached store that
misses first fills a data cache line of its set from the secondary cache, or else from memory, as a load does, and
stores into it: the line is dirty, its other bytes are those read, and the lines replaced are gone (a dirty data cache
line to the secondary cache).  An uncached accelerated store that finds bytes in the buffer joins them if it has their
size and continues them in the same line, and a full line is stored in memory as one block; otherwise they are stored
first. The spec marks the instruction rules as from general knowledge; which way a miss replaces is open
(notes/assumptions/25.md). R76 only names the W bit of a data cache line: that a cached store sets it and a fill
clears it is the model's choice (notes/assumptions/25.md). (spec/40_load_store.md R220, spec/40_load_store.md R221,
spec/40_load_store.md R226, spec/40_load_store.md R227, spec/20_memory.md R101, spec/20_memory.md R130,
spec/20_memory.md R141 to R143, spec/20_memory.md R146, spec/10_state.md R76, spec/10_state.md R77.) -/
def Obligations.Stores : Prop :=
  ∀ (s : State) (base rt : Reg) (offset : BitVec 16) (pa : BitVec 40) (c : BitVec 3), s.canonical →
    Translates s true (addressOf s base offset) pa c →
    let va := addressOf s base offset
    (Storable s va pa c →
      StoresTo (.sb base rt offset) s va pa c 1 (s.readGpr rt) ∧
      (va.toNat % 2 = 0 → StoresTo (.sh base rt offset) s va pa c 2 (s.readGpr rt)) ∧
      (va.toNat % 4 = 0 → StoresTo (.sw base rt offset) s va pa c 4 (s.readGpr rt)) ∧
      (va.toNat % 8 = 0 → StoresTo (.sd base rt offset) s va pa c 8 (s.readGpr rt))) ∧
    (c = 3 → ∀ d, Refills s va pa d →
      StoresOnMiss (.sb base rt offset) s va pa d 1 (s.readGpr rt) ∧
      (va.toNat % 2 = 0 → StoresOnMiss (.sh base rt offset) s va pa d 2 (s.readGpr rt)) ∧
      (va.toNat % 4 = 0 → StoresOnMiss (.sw base rt offset) s va pa d 4 (s.readGpr rt)) ∧
      (va.toNat % 8 = 0 → StoresOnMiss (.sd base rt offset) s va pa d 8 (s.readGpr rt))) ∧
    (c = 7 →
      GathersOn (.sb base rt offset) s pa 1 (s.readGpr rt) ∧
      (va.toNat % 2 = 0 → GathersOn (.sh base rt offset) s pa 2 (s.readGpr rt)) ∧
      (va.toNat % 4 = 0 → GathersOn (.sw base rt offset) s pa 4 (s.readGpr rt)) ∧
      (va.toNat % 8 = 0 → GathersOn (.sd base rt offset) s pa 8 (s.readGpr rt)))

/-- With b the address modulo 4 (8): SWL (SDL) stores the b + 1 high-order bytes of the low word of rt (of rt) from the
start of the aligned word (doubleword) on, SWR (SDR) the 4 - b (8 - b) low-order bytes from the address on.  They
complete for every alignment; every other byte reads as before, and nothing else changes.  A cached store that misses
first fills a line, as in Stores, and stores the same bytes into it.  An uncached accelerated one that finds bytes in
the gather buffer does as in Stores. The spec marks these rules as from general knowledge. Which way a miss replaces
is open. R76 only names the W bit of a data cache line: that a cached store sets it and a fill clears it is the
model's choice (notes/assumptions/25.md). (spec/40_load_store.md R211, spec/40_load_store.md R214,
spec/40_load_store.md R215, spec/40_load_store.md R218, spec/40_load_store.md R219, spec/20_memory.md R142,
spec/20_memory.md R146, spec/10_state.md R76, spec/10_state.md R77, spec/20_memory.md R143.) -/
def Obligations.PartialStores : Prop :=
  ∀ (s : State) (base rt : Reg) (offset : BitVec 16) (pa : BitVec 40) (c : BitVec 3), s.canonical →
    Translates s true (addressOf s base offset) pa c →
    let va := addressOf s base offset
    let v := (s.readGpr rt).toNat
    (∀ b, b = va.toNat % 4 →
      let first := pa &&& ~~~3
      let high := BitVec.ofNat 64 (v % 2 ^ 32 / 2 ^ (8 * (3 - b)))
      let low := BitVec.ofNat 64 v
      (Storable s va first c → StoresTo (.swl base rt offset) s va first c (b + 1) high) ∧
      (∀ d, c = 3 → Refills s va first d → StoresOnMiss (.swl base rt offset) s va first d (b + 1) high) ∧
      (c = 7 → GathersOn (.swl base rt offset) s first (b + 1) high) ∧
      (Storable s va pa c → StoresTo (.swr base rt offset) s va pa c (4 - b) low) ∧
      (∀ d, c = 3 → Refills s va pa d → StoresOnMiss (.swr base rt offset) s va pa d (4 - b) low) ∧
      (c = 7 → GathersOn (.swr base rt offset) s pa (4 - b) low)) ∧
    (∀ b, b = va.toNat % 8 →
      let first := pa &&& ~~~7
      let high := BitVec.ofNat 64 (v / 2 ^ (8 * (7 - b)))
      let low := BitVec.ofNat 64 v
      (Storable s va first c → StoresTo (.sdl base rt offset) s va first c (b + 1) high) ∧
      (∀ d, c = 3 → Refills s va first d → StoresOnMiss (.sdl base rt offset) s va first d (b + 1) high) ∧
      (c = 7 → GathersOn (.sdl base rt offset) s first (b + 1) high) ∧
      (Storable s va pa c → StoresTo (.sdr base rt offset) s va pa c (8 - b) low) ∧
      (∀ d, c = 3 → Refills s va pa d → StoresOnMiss (.sdr base rt offset) s va pa d (8 - b) low) ∧
      (c = 7 → GathersOn (.sdr base rt offset) s pa (8 - b) low))

/-- LL and LLD load like LW and LD and set LLbit.  SC and SCD, for an address that is aligned, translates for a store and
is not watched: with LLbit 1 they store the low 4 or 8 bytes of rt and then write 1 to rt; with LLbit 0 they store
nothing and write 0 to rt.  They keep LLbit, and nothing else changes.  Where a cached access misses, they do the same
and the caches change as in Loads and Stores. That no reservation address is kept and that SC keeps LLbit is decision
D9 of the spec (notes/assumptions/28.md). Which way a miss replaces is open. R76 only names the W bit of a data cache
line: that a cached store sets it and a fill clears it is the model's choice (notes/assumptions/25.md).
(spec/40_load_store.md R222 to R225, spec/10_state.md R25, spec/92_eei_decisions.md D9, spec/20_memory.md R142,
spec/20_memory.md R146, spec/10_state.md R76, spec/10_state.md R77.) -/
def Obligations.LinkedAccesses : Prop :=
  ∀ (s : State) (base rt : Reg) (offset : BitVec 16) (pa : BitVec 40) (c : BitVec 3),
    let va := addressOf s base offset
    (rt ≠ 0 → Translates s false va pa c → ∀ v,
      (va.toNat % 4 = 0 → ReadsAs s va pa c 4 v →
        ∃ t, exec (.ll base rt offset) s = .next t ∧ RegisterSet s t rt (signedOf 32 v) ∧ t.llbit = true ∧
          OnlyRegisters { s with llbit := true } t ∧ GoesOn s t) ∧
      (va.toNat % 8 = 0 → ReadsAs s va pa c 8 v →
        ∃ t, exec (.lld base rt offset) s = .next t ∧ RegisterSet s t rt (BitVec.ofNat 64 v) ∧ t.llbit = true ∧
          OnlyRegisters { s with llbit := true } t ∧ GoesOn s t) ∧
      ∀ d,
        (va.toNat % 4 = 0 → ReadsOnMiss s va pa c 4 d v →
          ∃ t, exec (.ll base rt offset) s = .next t ∧ RegisterSet s t rt (signedOf 32 v) ∧ t.llbit = true ∧
            FilledByLoad s t va pa d ∧ OnlyFill { s with gpr := t.gpr, llbit := true } t ∧ GoesOn s t) ∧
        (va.toNat % 8 = 0 → ReadsOnMiss s va pa c 8 d v →
          ∃ t, exec (.lld base rt offset) s = .next t ∧ RegisterSet s t rt (BitVec.ofNat 64 v) ∧ t.llbit = true ∧
            FilledByLoad s t va pa d ∧ OnlyFill { s with gpr := t.gpr, llbit := true } t ∧ GoesOn s t)) ∧
    (Translates s true va pa c → s.llbit = false →
      (va.toNat % 4 = 0 → SetsRegister (.sc base rt offset) s rt 0) ∧
      (va.toNat % 8 = 0 → SetsRegister (.scd base rt offset) s rt 0)) ∧
    (Translates s true va pa c → s.llbit = true → s.canonical → Storable s va pa c →
      (va.toNat % 4 = 0 →
        ∃ t, exec (.sc base rt offset) s = .next t ∧ StoreEffect s t va pa c 4 (s.readGpr rt) ∧
          RegisterSet s t rt 1 ∧ OnlyStore { s with gpr := t.gpr } t ∧ GoesOn s t) ∧
      (va.toNat % 8 = 0 →
        ∃ t, exec (.scd base rt offset) s = .next t ∧ StoreEffect s t va pa c 8 (s.readGpr rt) ∧
          RegisterSet s t rt 1 ∧ OnlyStore { s with gpr := t.gpr } t ∧ GoesOn s t)) ∧
    (Translates s true va pa c → s.llbit = true → s.canonical → c = 3 → ∀ d, Refills s va pa d →
      (va.toNat % 4 = 0 →
        ∃ t, exec (.sc base rt offset) s = .next t ∧ FilledByStore s t va pa d 4 (s.readGpr rt) ∧
          RegisterSet s t rt 1 ∧ OnlyFill { s with gpr := t.gpr } t ∧ GoesOn s t) ∧
      (va.toNat % 8 = 0 →
        ∃ t, exec (.scd base rt offset) s = .next t ∧ FilledByStore s t va pa d 8 (s.readGpr rt) ∧
          RegisterSet s t rt 1 ∧ OnlyFill { s with gpr := t.gpr } t ∧ GoesOn s t))

/-- With CU1 = 1, for an aligned address that translates and is not watched: LWC1 and LDC1 set the single or the
doubleword of ft to the number read, SWC1 and SDC1 store the 4 bytes of the single or the 8 bytes of the doubleword of
ft.  Nothing else changes.  Where a cached access misses, they do the same and the caches change as in Loads and
Stores.  An uncached accelerated store that finds bytes in the gather buffer does as in Stores. The spec marks these
rules as from general knowledge; the half of a register that LWC1 does not name with FR = 1, and odd doublewords with
FR = 0, are free values (notes/assumptions/32.md and 33.md). Which way a miss replaces is open. R76 only names the W
bit of a data cache line: that a cached store sets it and a fill clears it is the model's choice
(notes/assumptions/25.md). (spec/40_load_store.md R228 to R231, spec/48_fpu.md R482, spec/10_state.md R26,
spec/10_state.md R27, spec/20_memory.md R142, spec/20_memory.md R146, spec/10_state.md R76, spec/10_state.md R77,
spec/20_memory.md R143.) -/
def Obligations.FpLoadsAndStores : Prop :=
  ∀ (s : State) (base ft : Reg) (offset : BitVec 16) (pa : BitVec 40) (c : BitVec 3), s.cu 1 = true →
    let va := addressOf s base offset
    (Translates s false va pa c → ∀ v,
      (va.toNat % 4 = 0 → ReadsAs s va pa c 4 v →
        ∃ t, exec (.lwc1 base ft offset) s = .next t ∧ SingleSet s t ft (BitVec.ofNat 32 v) ∧
          t.fcr31 = s.fcr31 ∧ OnlyFpu s t ∧ GoesOn s t) ∧
      (va.toNat % 8 = 0 → ReadsAs s va pa c 8 v →
        ∃ t, exec (.ldc1 base ft offset) s = .next t ∧ DoubleSet s t ft (BitVec.ofNat 64 v) ∧
          t.fcr31 = s.fcr31 ∧ OnlyFpu s t ∧ GoesOn s t) ∧
      ∀ d,
        (va.toNat % 4 = 0 → ReadsOnMiss s va pa c 4 d v →
          ∃ t, exec (.lwc1 base ft offset) s = .next t ∧ SingleSet s t ft (BitVec.ofNat 32 v) ∧
            FilledByLoad s t va pa d ∧ OnlyFill { s with fpr := t.fpr } t ∧ GoesOn s t) ∧
        (va.toNat % 8 = 0 → ReadsOnMiss s va pa c 8 d v →
          ∃ t, exec (.ldc1 base ft offset) s = .next t ∧ DoubleSet s t ft (BitVec.ofNat 64 v) ∧
            FilledByLoad s t va pa d ∧ OnlyFill { s with fpr := t.fpr } t ∧ GoesOn s t)) ∧
    (Translates s true va pa c → s.canonical → Storable s va pa c →
      (va.toNat % 4 = 0 →
        StoresTo (.swc1 base ft offset) s va pa c 4 (BitVec.ofNat 64 (s.readS ft).toNat)) ∧
      (va.toNat % 8 = 0 → StoresTo (.sdc1 base ft offset) s va pa c 8 (s.readD ft))) ∧
    (Translates s true va pa c → s.canonical → c = 3 → ∀ d, Refills s va pa d →
      (va.toNat % 4 = 0 →
        StoresOnMiss (.swc1 base ft offset) s va pa d 4 (BitVec.ofNat 64 (s.readS ft).toNat)) ∧
      (va.toNat % 8 = 0 → StoresOnMiss (.sdc1 base ft offset) s va pa d 8 (s.readD ft))) ∧
    (Translates s true va pa c → s.canonical → c = 7 →
      (va.toNat % 4 = 0 → GathersOn (.swc1 base ft offset) s pa 4 (BitVec.ofNat 64 (s.readS ft).toNat)) ∧
      (va.toNat % 8 = 0 → GathersOn (.sdc1 base ft offset) s pa 8 (s.readD ft)))

/-- LB, LBU, LH, LHU, LW, LWU, LD, LWL, LWR, LDL, LDR, LL and LLD with destination r0 complete in every state, whatever
their address, and change nothing but the program counter: no exception, no access, and LLbit is not set. That every
exception is suppressed is decision D21 of the spec.  R203 lets the line come into the data cache; that the load makes
no access and fills no cache is the model's choice, DEDUCED in notes/assumptions/27.md. (spec/40_load_store.md R203,
spec/20_memory.md R132, spec/92_eei_decisions.md D21.) -/
def Obligations.LoadsToZeroArePrefetches : Prop :=
  ∀ (i : Instr) (a : DataAccess), dataAccessOf i = some a → a.prefetch = true →
    ∀ s, ∃ t, exec i s = .next t ∧ OnlyPc s t ∧ GoesOn s t

/-- Every load that is no prefetch, and every store, with CU1 = 1 for the floating-point ones: a misaligned address raises
the address error (of a store or a load) before anything else, but the partial accesses need no alignment; then the
exception of the translation is taken; then Watch, when the address lies in the watched doubleword and its kind is
watched; then, for an uncached load with nothing gathered, the bus error that the platform reports.  The state is
otherwise the one before the instruction. That Watch is raised whatever EXL and ERL are is decision D20, and BUS_ERROR
is a parameter of the spec (decision D36; notes/assumptions/45.md and 56.md). (spec/20_memory.md R102,
spec/20_memory.md R130, spec/20_memory.md R131, spec/40_load_store.md R201, spec/40_load_store.md R211,
spec/60_exceptions.md R635, spec/60_exceptions.md R641, spec/60_exceptions.md R648, spec/60_exceptions.md R656.) -/
def Obligations.DataAccessExceptions : Prop :=
  ∀ (i : Instr) (a : DataAccess) (s : State), dataAccessOf i = some a → a.prefetch = false →
    (a.cp1 = true → s.cu 1 = true) →
    let va := addressOf s a.base a.offset
    let kind := if a.store then Access.store else Access.load
    (va.toNat % a.alignment ≠ 0 → exec i s = .next (takeException (.addressError a.store va) s)) ∧
    (va.toNat % a.alignment = 0 →
      (∀ e u, translate s kind va = .raise e u → exec i s = .next (takeException e s)) ∧
      (∀ r u, translate s kind va = .ok r u → va.toNat / 8 = s.cp0.watch.toNat / 8 →
        s.cp0.watch.getLsbD (if a.store then 0 else 1) = true → exec i s = .next (takeException .watch s)) ∧
      (∀ pa c, a.store = false → Translates s false va pa c → c ≠ 3 → s.gather = none →
        (∀ q : BitVec 40, q.toNat / 8 = pa.toNat / 8 → s.busErrorAt q false = true) →
        exec i s = .next (takeException (.busError false) s)))

/-- SYNC, whatever its stype, completes: with an empty gather buffer nothing but the program counter changes; if the
buffer holds bytes for addresses in initialised DDR2 memory, those bytes are stored there in order, the buffer is
empty, every other byte of memory reads as before, and nothing else changes.  With such a buffer every load or store
that accesses memory, at an aligned address that translates to an uncached one and is not watched (a store: to one
that is not uncached accelerated; a load: whose reads report no error), does what it does in the state with those
bytes stored and the buffer empty. The encoding of SYNC is from general knowledge.  That a load empties the buffer is
D7 (notes/assumptions/26.md).  A load to r0 and an SC with LLbit 0 access nothing. (spec/46_special_trap.md R402,
spec/20_memory.md R130, spec/20_memory.md R141, spec/20_memory.md R143, spec/20_memory.md R156,
spec/92_eei_decisions.md D7.) -/
def Obligations.GatherBufferEmptied : Prop :=
  ∀ s : State,
    (∀ stype : BitVec 5, decode (rType 0 0 0 0 stype 15) = .ok (.sync stype) ∧
      (s.gather = none → ∃ t, exec (.sync stype) s = .next t ∧ OnlyPc s t ∧ GoesOn s t) ∧
      (∀ g x, GatherAt s g x →
        ∃ u t, WrittenOut s u g x ∧ exec (.sync stype) s = .next t ∧ t = { u with pc := t.pc, delay := t.delay } ∧
          GoesOn s t)) ∧
    (∀ (i : Instr) (a : DataAccess) (pa : BitVec 40) (c : BitVec 3) (g : Gather) (x : Nat),
      dataAccessOf i = some a → a.prefetch = false → (a.cp1 = true → s.cu 1 = true) →
      let va := addressOf s a.base a.offset
      va.toNat % a.alignment = 0 → Translates s a.store va pa c → c ≠ 3 → (a.store = true → c ≠ 7) →
      (a.store = false → ∀ q : BitVec 40, q.toNat / 8 = pa.toNat / 8 → s.busErrorAt q false = false) →
      (s.llbit = true ∨ ∀ base rt offset, i ≠ .sc base rt offset ∧ i ≠ .scd base rt offset) →
      GatherAt s g x →
      ∃ u, WrittenOut s u g x ∧ exec i s = exec i u)

/-- Let SD and then LD with the same base and offset run in one mode, the address translating for both kinds to a place in
initialised DDR2 memory uncached, or to a line that the data cache holds, and not watched: both complete, and the load
writes the register stored; likewise SW then LW with the low word sign-extended, SH then LHU and SB then LBU with the
low bytes. (spec/20_memory.md R130, spec/20_memory.md R141, spec/20_memory.md R142, spec/40_load_store.md R202.) -/
def Obligations.StoreThenLoad : Prop :=
  ∀ (s : State) (base rt rd : Reg) (offset : BitVec 16) (pa : BitVec 40) (c : BitVec 3), s.canonical → rd ≠ 0 →
    c ≠ 7 → Translates s true (addressOf s base offset) pa c → Translates s false (addressOf s base offset) pa c →
    Storable s (addressOf s base offset) pa c → s.busErrorAt pa false = false →
    let va := addressOf s base offset
    let v := (s.readGpr rt).toNat
    (va.toNat % 8 = 0 → ∃ u t, exec (.sd base rt offset) s = .next u ∧ exec (.ld base rd offset) u = .next t ∧
      t.readGpr rd = s.readGpr rt) ∧
    (va.toNat % 4 = 0 → ∃ u t, exec (.sw base rt offset) s = .next u ∧ exec (.lw base rd offset) u = .next t ∧
      t.readGpr rd = signedOf 32 v) ∧
    (va.toNat % 2 = 0 → ∃ u t, exec (.sh base rt offset) s = .next u ∧ exec (.lhu base rd offset) u = .next t ∧
      t.readGpr rd = BitVec.ofNat 64 (v % 2 ^ 16)) ∧
    (∃ u t, exec (.sb base rt offset) s = .next u ∧ exec (.lbu base rd offset) u = .next t ∧
      t.readGpr rd = BitVec.ofNat 64 (v % 2 ^ 8))

/-- With CU1 = 0 every instruction of coprocessor 1 (COP1, its loads and stores, the multiply-add families) takes
coprocessor unusable with CE = 1.  With CU0 = 0 every instruction of coprocessor 0 (COP0 and CACHE) takes it with CE =
0 in supervisor mode, and in user mode too, but for the reads of registers 24 and 25 and for the invalidate and
writeback operations of CACHE while Diagnostic.U-Mode is 1.  Nothing else of the instruction happens. Which operations
U-Mode opens is decision D42 of the spec. (spec/47_cp0_privileged.md R430, spec/47_cp0_privileged.md R434,
spec/47_cp0_privileged.md R450, spec/60_exceptions.md R651, spec/10_state.md R27, spec/48_fpu.md R480.) -/
def Obligations.CoprocessorUnusable : Prop :=
  (∀ (i : Instr) (s : State), usesCp1 i → s.cu 1 = false →
    exec i s = .next (takeException (.coprocessorUnusable 1) s)) ∧
  (∀ (i : Instr) (s : State), usesCp0 i → ¬ readsCounters i → s.cu 0 = false →
    s.mode = some .supervisor ∨ s.mode = some .user →
    (∀ a, cacheOperandsOf i = some a → a.userOperation = true → s.mode = some .user →
      s.cp0.diagnostic.getLsbD 8 = false) →
    exec i s = .next (takeException (.coprocessorUnusable 0) s))

/-- With CP0 usable, and for registers 24 and 25 in every mode, DMFC0 writes the value of the register to rt, a 32-bit
register sign-extended, and MFC0 its low word sign-extended; the fields of every register stand at the bits its rule
gives; PRID reads 0x6300 plus the parameter PRID_REV and Config 0x00030930 plus K0; reserved numbers read 0; reads of
LLAddr complete with a value that is open.  Nothing else changes. Sign extension is decision D1; LLAddr is undefined
in the manual and reads a free value (notes/assumptions/38.md). (spec/47_cp0_privileged.md R431,
spec/47_cp0_privileged.md R433, spec/47_cp0_privileged.md R434, spec/10_state.md R30 to R59, spec/92_eei_decisions.md
D1.) -/
def Obligations.ReadsOfCp0 : Prop :=
  ∀ (s : State) (rt : Reg),
    let c := s.cp0
    let cause := c.cause.bd.toNat * 2 ^ 31 + c.cause.ce.toNat * 2 ^ 28 + s.causeIp.toNat * 2 ^ 8 +
      c.cause.excCode.toNat * 2 ^ 2
    let values : List (Reg × Dword) :=
      [(0, signedOf 32 (c.indexP.toNat * 2 ^ 31 + c.index.toNat)), (1, BitVec.ofNat 64 c.random.toNat),
        (2, c.entryLo0), (3, c.entryLo1), (4, c.context), (5, signedOf 32 c.pageMask.toNat),
        (6, BitVec.ofNat 64 c.wired.toNat), (7, 0), (8, c.badVAddr), (9, signedOf 32 c.count.toNat),
        (10, c.entryHi), (11, signedOf 32 c.compare.toNat), (12, signedOf 32 c.status.toNat),
        (13, signedOf 32 cause), (14, c.epc), (15, BitVec.ofNat 64 (0x6300 + s.params.pridRev.toNat)), (16, BitVec.ofNat 64 (0x30930 + c.k0.toNat)),
        (18, c.watch), (19, 0), (20, c.xcontext), (21, 0), (22, c.diagnostic), (23, 0), (24, c.perfControl),
        (25, BitVec.ofNat 64 (c.perf1.toNat * 2 ^ 32 + c.perf0.toNat)), (26, 0), (27, 0),
        (28, signedOf 32 c.tagLo.toNat), (29, signedOf 32 c.tagHi.toNat), (30, c.errorEpc), (31, 0)]
    (∀ p ∈ values, Cp0Usable s ∨ p.1 = 24 ∨ p.1 = 25 →
      SetsRegister (.dmfc0 rt p.1) s rt p.2 ∧ SetsRegister (.mfc0 rt p.1) s rt (signedOf 32 p.2.toNat)) ∧
    (Cp0Usable s → ∃ v, SetsRegister (.dmfc0 rt 17) s rt v ∧ SetsRegister (.mfc0 rt 17) s rt (signedOf 32 v.toNat))

/-- With CP0 usable, DMTC0 writes the doubleword of rt and MTC0 its low word sign-extended to the register: only the
writable fields take it, reserved bits stay zero, PTEBase alone of Context and XContext, K0 alone of Config, bits 9:8
alone of Cause, bits 5:0 alone of Index; Random, BadVAddr, PRID, LLAddr and reserved numbers ignore it.  A write of
Wired sets Random to 63, of Compare clears the timer request, of Diagnostic with bit 2 set empties the ITLB.  Nothing
else changes. What MTC0 writes to a 64-bit register is decision D1; that a write of Count equal to Compare requests
the timer is the model's reading of R39 (notes/assumptions/11.md). That all 32 bits of TagLo and TagHi are held, where
R56 and R57 mark bits as 0, is a DESIGN CHOICE of notes/assumptions/52.md. (spec/47_cp0_privileged.md R432,
spec/47_cp0_privileged.md R435, spec/47_cp0_privileged.md R436, spec/10_state.md R30 to R59, spec/92_eei_decisions.md
D1 and D2.) -/
def Obligations.WritesOfCp0 : Prop :=
  ∀ (s : State) (rt : Reg), Cp0Usable s →
    let c := s.cp0
    let low (v : Dword) : Word := BitVec.ofNat 32 v.toNat
    let after (v : Dword) : List (Reg × Cp0) :=
      [(0, { c with index := BitVec.ofNat 6 v.toNat }), (1, c),
        (2, { c with entryLo0 := v &&& 0x20000003FFFFFFFF }), (3, { c with entryLo1 := v &&& 0x20000003FFFFFFFF }),
        (4, { c with context := BitVec.ofNat 64 (v.toNat / 2 ^ 23 * 2 ^ 23 + c.context.toNat % 2 ^ 23) }),
        (5, { c with pageMask := low v &&& 0x01FFE000 }),
        (6, { c with wired := BitVec.ofNat 6 v.toNat, random := 63 }), (7, c), (8, c),
        (9, { c with count := low v, cause := { c.cause with timer := c.cause.timer || low v == c.compare } }),
        (10, { c with entryHi := v &&& 0xC00000FFFFFFE0FF }),
        (11, { c with compare := low v, cause := { c.cause with timer := false } }),
        (12, { c with status := low v &&& 0xF5D0FF1F }),
        (13, { c with cause := { c.cause with sw := BitVec.ofNat 2 (v.toNat / 2 ^ 8) } }),
        (14, { c with epc := v }), (15, c), (16, { c with k0 := BitVec.ofNat 3 v.toNat }), (17, c),
        (18, { c with watch := v &&& 0xFFFFFFFFFFFFFFFB }), (19, c),
        (20, { c with xcontext := BitVec.ofNat 64 (v.toNat / 2 ^ 33 * 2 ^ 33 + c.xcontext.toNat % 2 ^ 33) }),
        (21, c), (22, { c with diagnostic := v &&& 0x1F1 }), (23, c), (24, { c with perfControl := v &&& 0x1FFF }),
        (25, { c with perf1 := BitVec.ofNat 32 (v.toNat / 2 ^ 32), perf0 := low v }), (26, c), (27, c),
        (28, { c with tagLo := low v }), (29, { c with tagHi := low v }), (30, { c with errorEpc := v }), (31, c)]
    let writes (i : Instr) (n : Reg) (v : Dword) (c' : Cp0) : Prop :=
      Completes i s fun t => t = { s with cp0 := c', itlb := t.itlb, pc := t.pc, delay := t.delay } ∧
        ∀ m : Fin 16, t.itlb[m] = if n = 22 ∧ v.getLsbD 2 = true then none else s.itlb[m]
    (∀ p ∈ after (s.readGpr rt), writes (.dmtc0 rt p.1) p.1 (s.readGpr rt) p.2) ∧
    (∀ p ∈ after (signedOf 32 (s.readGpr rt).toNat),
      writes (.mtc0 rt p.1) p.1 (signedOf 32 (s.readGpr rt).toNat) p.2)

/-- With CP0 usable: TLBP puts the number of the one entry that matches EntryHi into Index and clears P, and sets P when
none matches; TLBR puts the entry that Index names into PageMask, EntryHi, EntryLo0 and EntryLo1, the entry's G into
both; TLBWI and TLBWR with a legal page mask write the entry that Index and Random name from those registers, the
masked bits of VPN2 cleared, G the conjunction of both.  Nothing else changes. The comparison of R is decision D18;
Index.Index after a probe that finds nothing is open (notes/assumptions/38.md).  Masks other than the seven are
undefined by R35 (notes/assumptions/19.md). (spec/47_cp0_privileged.md R440, spec/47_cp0_privileged.md R441,
spec/47_cp0_privileged.md R442, spec/47_cp0_privileged.md R443, spec/10_state.md R31 to R40, spec/10_state.md R70.) -/
def Obligations.TlbInstructions : Prop :=
  ∀ s : State, Cp0Usable s →
    (∀ i : Fin 64, OnlyTlbMatch s i s.cp0.entryHi →
      Completes .tlbp s fun t =>
        t.cp0 = { s.cp0 with indexP := false, index := BitVec.ofNat 6 i.val } ∧ OnlyCp0 s t) ∧
    ((∀ i, ¬ TlbMatches s i s.cp0.entryHi) →
      Completes .tlbp s fun t => t.cp0 = { s.cp0 with indexP := true, index := t.cp0.index } ∧ OnlyCp0 s t) ∧
    (let e := s.tlb[s.cp0.index.toNat]
      let lo (p : TlbPage) : Dword := BitVec.ofNat 64
        (p.e.toNat * 2 ^ 61 + p.pfn.toNat * 2 ^ 6 + p.c.toNat * 2 ^ 3 + p.d.toNat * 2 ^ 2 + p.v.toNat * 2 + e.g.toNat)
      Completes .tlbr s fun t =>
        t.cp0 = { s.cp0 with
          pageMask := BitVec.ofNat 32 (e.mask.toNat * 2 ^ 13)
          entryHi := BitVec.ofNat 64
            (e.r.toNat * 2 ^ 62 + (e.vpn2 &&& ~~~(e.mask.setWidth 27)).toNat * 2 ^ 13 + e.asid.toNat)
          entryLo0 := lo e.even
          entryLo1 := lo e.odd } ∧
        OnlyCp0 s t) ∧
    ((∃ j, PageMaskOf (s.cp0.pageMask.extractLsb' 13 12) j) →
      let mask : BitVec 12 := s.cp0.pageMask.extractLsb' 13 12
      let page (lo : Dword) : TlbPage :=
        { e := lo.getLsbD 61, pfn := BitVec.ofNat 28 (lo.toNat / 2 ^ 6), c := BitVec.ofNat 3 (lo.toNat / 2 ^ 3)
          d := lo.getLsbD 2, v := lo.getLsbD 1 }
      let entry : TlbEntry :=
        { mask := mask, r := BitVec.ofNat 2 (s.cp0.entryHi.toNat / 2 ^ 62)
          vpn2 := BitVec.ofNat 27 (s.cp0.entryHi.toNat / 2 ^ 13) &&& ~~~(mask.setWidth 27)
          g := s.cp0.entryLo0.getLsbD 0 && s.cp0.entryLo1.getLsbD 0
          asid := BitVec.ofNat 8 s.cp0.entryHi.toNat, even := page s.cp0.entryLo0, odd := page s.cp0.entryLo1 }
      let writes (i : Instr) (n : Nat) : Prop :=
        Completes i s fun t =>
          (∀ j : Fin 64, t.tlb[j] = if j.val = n then entry else s.tlb[j]) ∧
            t = { s with tlb := t.tlb, pc := t.pc, delay := t.delay } ∧ SameMemory s t
      writes .tlbwi s.cp0.index.toNat ∧ writes .tlbwr s.cp0.random.toNat)

/-- For every CACHE instruction that is usable, the exception of translating its address for a load is taken, an address
with an uncached attribute is refused, and an operation that is none of the fifteen is refused when its address is
cached. "除下表以外的其他 Cache 指令未定义，对 Uncached 地址空间的 Cache 指令操作未定义": the refusals are I16 (notes/assumptions/24.md).
(spec/47_cp0_privileged.md R450, spec/92_eei_decisions.md D29, spec/93_implementation_defined.md I16.) -/
def Obligations.CacheChecks : Prop :=
  (∀ (i : Instr) (a : CacheOperands) (s : State), cacheOperandsOf i = some a → CacheUsable s a.userOperation →
    (∀ e u, translate s .load (addressOf s a.base a.offset) = .raise e u → exec i s = .next (takeException e s)) ∧
    (∀ pa c, translate s .load (addressOf s a.base a.offset) = .ok (pa, c) s → c ≠ 3 →
      exec i s = .refused .uncachedCacheOp)) ∧
  (∀ (s : State) (base : Reg) (op : BitVec 5) (offset : BitVec 16) (pa : BitVec 40), Cp0Usable s →
    (Instr.cache base op offset).wellFormed = true →
    translate s .load (addressOf s base offset) = .ok (pa, 3) s →
    exec (.cache base op offset) s = .refused .undefinedCacheOp)

/-- For a usable operation at a cached address, with the set VA[13:5] and the way VA[1:0]: Index Invalidate (I)
invalidates the four ways of the set; Index WriteBack Invalidate (D) invalidates the line, after putting its data into
the secondary cache line of its address, marked dirty, if it was dirty; Index Load Tag and Store Tag move way, state
and tag between the line and TagLo and TagHi; Index Load Data and Store Data move doubleword VA[4:3]; Hit Invalidate
(D) invalidates the lines of the set that hold the address and drops their data; Hit WriteBack Invalidate (D) does the
same with a write back to the secondary cache, and nothing on a miss.  All other lines, and all else, keep their
values. StateMod (TagHi bits 31:29) is open.  The cases where the secondary cache does not hold a dirty line are the
model's (notes/assumptions/25.md). R76 only names the W bit of a data cache line: that an invalidation clears it and
that Index Store Tag and Index Store Data keep it are choices of notes/assumptions/25.md. (spec/47_cp0_privileged.md
R451 to R458, spec/10_state.md R56, spec/10_state.md R57, spec/10_state.md R75, spec/10_state.md R76,
spec/92_eei_decisions.md D17.) -/
def Obligations.PrimaryCacheOperations : Prop :=
  ∀ (s : State) (base : Reg) (offset : BitVec 16) (pa : BitVec 40), s.canonical →
    translate s .load (addressOf s base offset) = .ok (pa, 3) s →
    let va := addressOf s base offset
    let set := va.toNat / 32 % 512
    let k := lineKey set (va.toNat % 4)
    let a := va.toNat / 8 % 4
    let l := s.dLine k
    let tags := s.cp0.tagHi.toNat * 2 ^ 32 + s.cp0.tagLo.toNat
    (CacheUsable s true →
      Completes (.cache_index_invalidate_i base offset) s (fun t =>
        (∀ j, t.iLine j = if j / 4 = set then { s.iLine j with valid := false } else s.iLine j) ∧
          t = { s with icache := t.icache, pc := t.pc, delay := t.delay }) ∧
      (l.cs ≠ 3 →
        Completes (.cache_index_writeback_invalidate_d base offset) s fun t =>
          OnlyDataLine s t k { l with cs := 0, w := false }) ∧
      (∀ q, l.cs = 3 → s.sHit (l.address k) = some q →
        Completes (.cache_index_writeback_invalidate_d base offset) s fun t =>
          OnlyDataLine { s with scache := t.scache } t k { l with cs := 0, w := false } ∧
            t.sLine q = { s.sLine q with state := 3, data := l.data } ∧ ∀ j, j ≠ q → t.sLine j = s.sLine j) ∧
      Completes (.cache_hit_invalidate_d base offset) s (fun t =>
        (∀ j, t.dLine j = if j / 4 = set ∧ (s.dLine j).cs ≠ 0 ∧ (s.dLine j).tag.toNat = pa.toNat / 4096
            then { s.dLine j with cs := 0, w := false } else s.dLine j) ∧
          t = { s with dcache := t.dcache, pc := t.pc, delay := t.delay }) ∧
      ((∀ j, j / 4 = set → (s.dLine j).cs ≠ 0 → (s.dLine j).tag.toNat ≠ pa.toNat / 4096) →
        Completes (.cache_hit_writeback_invalidate_d base offset) s fun t => OnlyPc s t) ∧
      (∀ j, j / 4 = set → (s.dLine j).cs ≠ 0 → (s.dLine j).cs ≠ 3 → (s.dLine j).tag.toNat = pa.toNat / 4096 →
        (∀ i, i / 4 = set → i ≠ j → (s.dLine i).cs ≠ 0 → (s.dLine i).tag.toNat ≠ pa.toNat / 4096) →
        Completes (.cache_hit_writeback_invalidate_d base offset) s fun t =>
          OnlyDataLine s t j { s.dLine j with cs := 0, w := false }) ∧
      (∀ j q, j / 4 = set → (s.dLine j).cs = 3 → (s.dLine j).tag.toNat = pa.toNat / 4096 →
        (∀ i, i / 4 = set → i ≠ j → (s.dLine i).cs ≠ 0 → (s.dLine i).tag.toNat ≠ pa.toNat / 4096) →
        s.sHit ((s.dLine j).address j) = some q →
        Completes (.cache_hit_writeback_invalidate_d base offset) s fun t =>
          OnlyDataLine { s with scache := t.scache } t j { s.dLine j with cs := 0, w := false } ∧
            t.sLine q = { s.sLine q with state := 3, data := (s.dLine j).data } ∧
            ∀ i, i ≠ q → t.sLine i = s.sLine i)) ∧
    (Cp0Usable s →
      Completes (.cache_index_load_tag_d base offset) s (fun t =>
        t.cp0.tagLo.toNat = l.tag.toNat % 2 ^ 24 * 2 ^ 8 + l.cs.toNat * 2 ^ 6 + l.scset.toNat * 2 ^ 4 ∧
          t.cp0.tagHi.toNat % 2 ^ 29 = l.tag.toNat / 2 ^ 24 ∧
          t = { s with
            pc := t.pc, delay := t.delay, cp0 := { s.cp0 with tagLo := t.cp0.tagLo, tagHi := t.cp0.tagHi } }) ∧
      Completes (.cache_index_store_tag_d base offset) s (fun t =>
        OnlyDataLine s t k { l with
          scset := BitVec.ofNat 2 (tags / 2 ^ 4), cs := BitVec.ofNat 2 (tags / 2 ^ 6)
          tag := BitVec.ofNat 28 (tags / 2 ^ 8) }) ∧
      Completes (.cache_index_load_data_d base offset) s (fun t => OnlyTags s t (doublewordNat l.data a)) ∧
      Completes (.cache_index_store_data_d base offset) s (fun t =>
        OnlyDataLine s t k { l with data := (t.dLine k).data } ∧ WithDoubleword l.data (t.dLine k).data a tags))

/-- For a usable operation at a cached address, with the set PA[16:5] and the way PA[1:0]: Index WriteBack Invalidate does
nothing to an invalid line; otherwise the line and the same line of the primary caches leave the caches, and the data
of a dirty data cache line, or else of the line if it is dirty, go to memory.  Hit Invalidate and Hit WriteBack
Invalidate do so for the one way that holds the address, without and with the write to memory, and nothing on a miss. 
Load Tag, Store Tag, Load Data and Store Data move state and tag and doubleword PA[4:3] between the line and TagLo and
TagHi.  All else keeps its value. Memory here is initialised DDR2 memory.  R459 speaks of the set that the line's
address indexes; that the same line of the primary caches is looked for in the four sets that agree with it in bits
11:5 is the model's choice, DEDUCED in notes/assumptions/25.md. R76 only names the W bit of a data cache line: that a
line which leaves the caches has it cleared is a choice of notes/assumptions/25.md.  So is that these operations act
on the stored lines while disable_scache is 1 as they do otherwise: R731 says only that accesses bypass the cache.
(spec/47_cp0_privileged.md R459 to R465, spec/10_state.md R77, spec/92_eei_decisions.md D17, spec/20_memory.md R148.) -/
def Obligations.SecondaryCacheOperations : Prop :=
  ∀ (s : State) (base : Reg) (offset : BitVec 16) (pa : BitVec 40), s.canonical →
    translate s .load (addressOf s base offset) = .ok (pa, 3) s →
    let set := pa.toNat / 32 % 4096
    let k := lineKey set (pa.toNat % 4)
    let a := pa.toNat / 8 % 4
    let l := s.sLine k
    let tags := s.cp0.tagHi.toNat * 2 ^ 32 + s.cp0.tagLo.toNat
    let holds (j : Nat) : Prop := j / 4 = set ∧ (s.sLine j).state ≠ 0 ∧ (s.sLine j).tag.toNat = pa.toNat / 2 ^ 17
    (CacheUsable s true →
      (l.state = 0 → Completes (.cache_index_writeback_invalidate_s base offset) s fun t => OnlyPc s t) ∧
      (∀ x, l.state ≠ 0 → DramAt s (l.address k) x →
        Completes (.cache_index_writeback_invalidate_s base offset) s fun t =>
          LeavesCaches s t k (l.address k) ∧ WrittenBack s t k (l.address k) x ∧ OnlyCaches s t) ∧
      ((∀ j, ¬ holds j) →
        Completes (.cache_hit_invalidate_s base offset) s (fun t => OnlyPc s t) ∧
        Completes (.cache_hit_writeback_invalidate_s base offset) s (fun t => OnlyPc s t)) ∧
      (∀ j, holds j → (∀ i, holds i → i = j) →
        Completes (.cache_hit_invalidate_s base offset) s (fun t =>
          LeavesCaches s t j ((s.sLine j).address j) ∧ t.mem = s.mem ∧ OnlyCaches s t) ∧
        (∀ x, DramAt s ((s.sLine j).address j) x →
          Completes (.cache_hit_writeback_invalidate_s base offset) s fun t =>
            LeavesCaches s t j ((s.sLine j).address j) ∧ WrittenBack s t j ((s.sLine j).address j) x ∧
              OnlyCaches s t))) ∧
    (Cp0Usable s →
      Completes (.cache_index_load_tag_s base offset) s (fun t =>
        OnlyTags s t (l.tag.toNat / 2 ^ 19 * 2 ^ 32 + l.tag.toNat % 2 ^ 19 * 2 ^ 13 + l.state.toNat * 2 ^ 10)) ∧
      Completes (.cache_index_store_tag_s base offset) s (fun t =>
        OnlySecondaryLine s t k { l with
          state := BitVec.ofNat 2 (tags / 2 ^ 10), tag := BitVec.ofNat 23 (tags / 2 ^ 13) }) ∧
      Completes (.cache_index_load_data_s base offset) s (fun t => OnlyTags s t (doublewordNat l.data a)) ∧
      Completes (.cache_index_store_data_s base offset) s (fun t =>
        OnlySecondaryLine s t k { l with data := (t.sLine k).data } ∧
          WithDoubleword l.data (t.sLine k).data a tags))

/-- The registers at 0x3FF00000 to 0x3FF00058 are BASE, MASK and MMAP of the four CPU windows, those at 0x3FF00060 to
0x3FF000B8 of the four PCIDMA windows.  An aligned doubleword write to a window register is what the next read of it
answers, and changes no other one; every physical address outside the registers goes where the lowest CPU window that
hits sends it, to DDR2 for MMAP[1:0] = 0 and to the I/O controller for 1.  A read that hits no window answers zeros
and a write there is dropped, without an exception.  Writing a word to Intenset sets, and to Intenclr clears, the
enable bits it names (of lines 10 to 0), and Inten reads the result; Intenclr also clears the latched pulses it names.
Before its initialisation the DDR2 memory takes no write below DDR_SIZE; ready or not, an access at or above DDR_SIZE
reads zeros and changes no byte.  While pcix_ro_en is 0 and a read of a PCI master waits, a write that comes in for
the I/O controller waits behind it. That a write that hits no window is dropped and the lowest window wins is D22;
that a write before initialisation is lost and an access out of range reads 0 and is dropped are I31, I32 and D38;
that out of range is looked at first, and what lets a read wait, are the model's choice (notes/assumptions/40.md and
44.md). (spec/20_memory.md R135, spec/20_memory.md R136, spec/20_memory.md R138, spec/61_platform_devices.md R717,
spec/61_platform_devices.md R740, spec/61_platform_devices.md R742, spec/62_ddr2_controller.md R772,
spec/62_ddr2_controller.md R774, spec/62_ddr2_controller.md R784, spec/62_ddr2_controller.md R786,
spec/92_eei_decisions.md D22 and D38, spec/93_implementation_defined.md I31 and I32.) -/
def Obligations.WindowsAndDevices : Prop :=
  ∀ s : State,
    (s.cpuWindows = (List.range 4).map fun k => ⟨s.windows[k]!, s.windows[4 + k]!, s.windows[8 + k]!⟩) ∧
    (s.dmaWindows = (List.range 4).map fun k => ⟨s.windows[12 + k]!, s.windows[16 + k]!, s.windows[20 + k]!⟩) ∧
    (∀ pa : BitVec 40, pa.toNat < 0x3FF00000 ∨ 0x3FF000C0 ≤ pa.toNat →
      s.route pa = windowTarget s.cpuWindows (pa.setWidth 64)) ∧
    (∀ (pa : BitVec 40) (n : Nat) (bytes : List Byte), s.route pa = .nowhere →
      physRead s pa n = .ok (List.replicate n 0) s ∧ physWrite s pa bytes = .ok () s) ∧
    (∀ (r : Fin 24) (pa : BitVec 40) (v : Dword), pa.toNat = 0x3FF00000 + 8 * r.val →
      ∃ t, physWrite s pa (toBytes v 8) = .ok () t ∧ t = { s with windows := t.windows } ∧
        (∀ q : Fin 24, t.windows[q] = if q = r then v else s.windows[q]) ∧
        physRead t pa 8 = .ok (toBytes v 8) t) ∧
    (∀ a : Dword, windowTarget [] a = .nowhere) ∧
    (∀ (w : Window) (rest : List Window) (a : Dword), w.hits a = (a &&& w.mask == w.base) ∧
      (w.hits a = true →
        (w.mmap.toNat % 4 = 0 → windowTarget (w :: rest) a =
          .ddr ((a &&& ~~~w.mask) ||| BitVec.ofNat 64 (w.mmap.toNat / 2 ^ 20 * 2 ^ 20)).toNat) ∧
        (w.mmap.toNat % 4 = 1 → windowTarget (w :: rest) a =
          .io ((a &&& ~~~w.mask) ||| BitVec.ofNat 64 (w.mmap.toNat / 2 ^ 20 * 2 ^ 20)).toNat)) ∧
      (w.hits a = false → windowTarget (w :: rest) a = windowTarget rest a)) ∧
    (∀ v : Word,
      (∃ t, ioWrite s 0x1FE00130 (toBytes v 4) = .ok () t ∧
        ioRead t 0x1FE00138 4 = .ok (toBytes (s.reg 14 ||| (v &&& 0x7FF)) 4) t) ∧
      (∃ t, ioWrite s 0x1FE00134 (toBytes v 4) = .ok () t ∧
        ioRead t 0x1FE00138 4 = .ok (toBytes (s.reg 14 &&& ~~~v) 4) t ∧
        t.io.pulse = s.io.pulse &&& ~~~(v.setWidth 15))) ∧
    (∀ (x n : Nat) (bytes : List Byte), s.inDdrPort x = false → s.ddrStopped = false →
      (s.ddr.ready = false → x < s.ddrSize → ddrWrite s x bytes = .ok () s) ∧
      (s.ddrSize ≤ x →
        (∃ t, ddrRead s x n = .ok (List.replicate n 0) t ∧ t.mem = s.mem) ∧
        ∃ t, ddrWrite s x bytes = .ok () t ∧ t.mem = s.mem)) ∧
    (∀ (addr x : Nat) (bytes : List Byte), (s.reg 5).getLsbD 6 = false →
      (∃ bus a n, DmaBeat.read bus a n ∈ s.ddr.waiting) → s.incoming (BitVec.ofNat 64 addr) = true →
      windowTarget s.dmaWindows (BitVec.ofNat 64 addr) = .io x →
      dmaWriteBeat s addr bytes =
        let t := s.acceptDma (BitVec.ofNat 64 addr)
        .ok () { t with ddr := { s.ddr with waiting := s.ddr.waiting ++ [.ioWrite x bytes] } })

/-- With CU1 = 1, each of the 31 arithmetic and multiply-add instructions on singles, doubles and paired singles: with the
conditions of its operation on the sources (fd itself is the addend of a multiply-add), if E or an enabled condition
is raised, the floating-point exception is taken and only FCR31.Cause has been written; otherwise it completes, Cause
and Flags are written, fd holds the result, and nothing else changes.  The halves of a paired single are operated on
separately and their conditions joined, E alone if either raises it. That E stands alone is decision D31; the one
rounding of the multiply-adds and their encodings are parameters of the spec (notes/assumptions/21.md and 31.md). 
What the operations answer is stated by FpExactResults, FpRounding and FpSpecialResults. (spec/48_fpu.md R484,
spec/48_fpu.md R482, spec/48_fpu.md R486, spec/48_fpu.md R487, spec/48_fpu.md R500 to R505, spec/48_fpu.md R507,
spec/49_fpu_ps_madd.md R581 to R587, spec/49_fpu_ps_madd.md R589, spec/49_fpu_ps_madd.md R600 to R611.) -/
def Obligations.FpArithmeticInstructions : Prop :=
  ∀ ft fs fd : Reg,
    FpSingle (.add_s ft fs fd) fd (fun s => fpAdd .single s.fpControl (s.valueS fs) (s.valueS ft)) ∧
    FpDouble (.add_d ft fs fd) fd (fun s => fpAdd .double s.fpControl (s.valueD fs) (s.valueD ft)) ∧
    FpSingle (.sub_s ft fs fd) fd (fun s => fpSub .single s.fpControl (s.valueS fs) (s.valueS ft)) ∧
    FpDouble (.sub_d ft fs fd) fd (fun s => fpSub .double s.fpControl (s.valueD fs) (s.valueD ft)) ∧
    FpSingle (.mul_s ft fs fd) fd (fun s => fpMul .single s.fpControl (s.valueS fs) (s.valueS ft)) ∧
    FpDouble (.mul_d ft fs fd) fd (fun s => fpMul .double s.fpControl (s.valueD fs) (s.valueD ft)) ∧
    FpSingle (.div_s ft fs fd) fd (fun s => fpDiv .single s.nofdiv s.fpControl (s.valueS fs) (s.valueS ft)) ∧
    FpDouble (.div_d ft fs fd) fd (fun s => fpDiv .double s.nofdiv s.fpControl (s.valueD fs) (s.valueD ft)) ∧
    FpSingle (.sqrt_s fs fd) fd (fun s => fpSqrt .single s.nofsqr s.fpControl (s.valueS fs)) ∧
    FpSingle (.abs_s fs fd) fd (fun s => fpAbs .single (s.readS fs).toNat) ∧
    FpSingle (.neg_s fs fd) fd (fun s => fpNeg .single (s.readS fs).toNat) ∧
    FpDouble (.sqrt_d fs fd) fd (fun s => fpSqrt .double s.nofsqr s.fpControl (s.valueD fs)) ∧
    FpDouble (.abs_d fs fd) fd (fun s => fpAbs .double (s.readD fs).toNat) ∧
    FpDouble (.neg_d fs fd) fd (fun s => fpNeg .double (s.readD fs).toNat) ∧
    FpPaired (.add_ps ft fs fd) fd
      (fun s => fpAdd .single s.fpControl (s.valueLower fs) (s.valueLower ft))
      (fun s => fpAdd .single s.fpControl (s.valueUpper fs) (s.valueUpper ft)) ∧
    FpPaired (.sub_ps ft fs fd) fd
      (fun s => fpSub .single s.fpControl (s.valueLower fs) (s.valueLower ft))
      (fun s => fpSub .single s.fpControl (s.valueUpper fs) (s.valueUpper ft)) ∧
    FpPaired (.mul_ps ft fs fd) fd
      (fun s => fpMul .single s.fpControl (s.valueLower fs) (s.valueLower ft))
      (fun s => fpMul .single s.fpControl (s.valueUpper fs) (s.valueUpper ft)) ∧
    FpPaired (.abs_ps fs fd) fd (fun s => fpAbs .single (s.lowerBits fs)) (fun s => fpAbs .single (s.upperBits fs)) ∧
    FpPaired (.neg_ps fs fd) fd (fun s => fpNeg .single (s.lowerBits fs)) (fun s => fpNeg .single (s.upperBits fs)) ∧
    FpSingle (.madd_s ft fs fd) fd
      (fun s => fpMadd .single false false s.fpControl (s.valueS fd) (s.valueS fs) (s.valueS ft)) ∧
    FpDouble (.madd_d ft fs fd) fd
      (fun s => fpMadd .double false false s.fpControl (s.valueD fd) (s.valueD fs) (s.valueD ft)) ∧
    FpPaired (.madd_ps ft fs fd) fd
      (fun s => fpMadd .single false false s.fpControl (s.valueLower fd) (s.valueLower fs) (s.valueLower ft))
      (fun s => fpMadd .single false false s.fpControl (s.valueUpper fd) (s.valueUpper fs) (s.valueUpper ft)) ∧
    FpSingle (.msub_s ft fs fd) fd
      (fun s => fpMadd .single true false s.fpControl (s.valueS fd) (s.valueS fs) (s.valueS ft)) ∧
    FpDouble (.msub_d ft fs fd) fd
      (fun s => fpMadd .double true false s.fpControl (s.valueD fd) (s.valueD fs) (s.valueD ft)) ∧
    FpPaired (.msub_ps ft fs fd) fd
      (fun s => fpMadd .single true false s.fpControl (s.valueLower fd) (s.valueLower fs) (s.valueLower ft))
      (fun s => fpMadd .single true false s.fpControl (s.valueUpper fd) (s.valueUpper fs) (s.valueUpper ft)) ∧
    FpSingle (.nmadd_s ft fs fd) fd
      (fun s => fpMadd .single false true s.fpControl (s.valueS fd) (s.valueS fs) (s.valueS ft)) ∧
    FpDouble (.nmadd_d ft fs fd) fd
      (fun s => fpMadd .double false true s.fpControl (s.valueD fd) (s.valueD fs) (s.valueD ft)) ∧
    FpPaired (.nmadd_ps ft fs fd) fd
      (fun s => fpMadd .single false true s.fpControl (s.valueLower fd) (s.valueLower fs) (s.valueLower ft))
      (fun s => fpMadd .single false true s.fpControl (s.valueUpper fd) (s.valueUpper fs) (s.valueUpper ft)) ∧
    FpSingle (.nmsub_s ft fs fd) fd
      (fun s => fpMadd .single true true s.fpControl (s.valueS fd) (s.valueS fs) (s.valueS ft)) ∧
    FpDouble (.nmsub_d ft fs fd) fd
      (fun s => fpMadd .double true true s.fpControl (s.valueD fd) (s.valueD fs) (s.valueD ft)) ∧
    FpPaired (.nmsub_ps ft fs fd) fd
      (fun s => fpMadd .single true true s.fpControl (s.valueLower fd) (s.valueLower fs) (s.valueLower ft))
      (fun s => fpMadd .single true true s.fpControl (s.valueUpper fd) (s.valueUpper fs) (s.valueUpper ft))

/-- With CU1 = 1: ROUND, TRUNC, CEIL and FLOOR convert a single or a double to a word or a long with rounding to nearest,
toward zero, up and down whatever FCR31.RM is, CVT.W and CVT.L with FCR31.RM; CVT.S and CVT.D convert from the other
format, a word or a long.  With E or an enabled condition the floating-point exception is taken and only FCR31.Cause
has been written; otherwise they complete, Cause and Flags are written, fd holds the result, and nothing else changes.
The spec marks the instruction rules as from general knowledge. (spec/48_fpu.md R484, spec/48_fpu.md R482,
spec/48_fpu.md R510 to R522.) -/
def Obligations.FpConversionInstructions : Prop :=
  ∀ fs fd : Reg,
    FpDouble (.round_l_s fs fd) fd (fun s => fpToInt 64 0 (s.valueS fs)) ∧
    FpDouble (.round_l_d fs fd) fd (fun s => fpToInt 64 0 (s.valueD fs)) ∧
    FpSingle (.round_w_s fs fd) fd (fun s => fpToInt 32 0 (s.valueS fs)) ∧
    FpSingle (.round_w_d fs fd) fd (fun s => fpToInt 32 0 (s.valueD fs)) ∧
    FpDouble (.trunc_l_s fs fd) fd (fun s => fpToInt 64 1 (s.valueS fs)) ∧
    FpDouble (.trunc_l_d fs fd) fd (fun s => fpToInt 64 1 (s.valueD fs)) ∧
    FpSingle (.trunc_w_s fs fd) fd (fun s => fpToInt 32 1 (s.valueS fs)) ∧
    FpSingle (.trunc_w_d fs fd) fd (fun s => fpToInt 32 1 (s.valueD fs)) ∧
    FpDouble (.ceil_l_s fs fd) fd (fun s => fpToInt 64 2 (s.valueS fs)) ∧
    FpDouble (.ceil_l_d fs fd) fd (fun s => fpToInt 64 2 (s.valueD fs)) ∧
    FpSingle (.ceil_w_s fs fd) fd (fun s => fpToInt 32 2 (s.valueS fs)) ∧
    FpSingle (.ceil_w_d fs fd) fd (fun s => fpToInt 32 2 (s.valueD fs)) ∧
    FpDouble (.floor_l_s fs fd) fd (fun s => fpToInt 64 3 (s.valueS fs)) ∧
    FpDouble (.floor_l_d fs fd) fd (fun s => fpToInt 64 3 (s.valueD fs)) ∧
    FpSingle (.floor_w_s fs fd) fd (fun s => fpToInt 32 3 (s.valueS fs)) ∧
    FpSingle (.floor_w_d fs fd) fd (fun s => fpToInt 32 3 (s.valueD fs)) ∧
    FpDouble (.cvt_l_s fs fd) fd (fun s => fpToInt 64 s.rm (s.valueS fs)) ∧
    FpDouble (.cvt_l_d fs fd) fd (fun s => fpToInt 64 s.rm (s.valueD fs)) ∧
    FpSingle (.cvt_w_s fs fd) fd (fun s => fpToInt 32 s.rm (s.valueS fs)) ∧
    FpSingle (.cvt_w_d fs fd) fd (fun s => fpToInt 32 s.rm (s.valueD fs)) ∧
    FpSingle (.cvt_s_d fs fd) fd (fun s => fpToFp .single s.fpControl (s.valueD fs)) ∧
    FpSingle (.cvt_s_w fs fd) fd (fun s => intToFp .single s.fpControl (s.readS fs).toInt) ∧
    FpSingle (.cvt_s_l fs fd) fd (fun s => intToFp .single s.fpControl (s.readD fs).toInt) ∧
    FpDouble (.cvt_d_s fs fd) fd (fun s => fpToFp .double s.fpControl (s.valueS fs)) ∧
    FpDouble (.cvt_d_w fs fd) fd (fun s => intToFp .double s.fpControl (s.readS fs).toInt) ∧
    FpDouble (.cvt_d_l fs fd) fd (fun s => intToFp .double s.fpControl (s.readD fs).toInt)

/-- With CU1 = 1 a comparison raises V or nothing; if V is raised and enabled the floating-point exception is taken and no
condition bit changes; otherwise condition bit 0 (bit 23) holds the predicate, for paired singles that of the lower
halves, and bit 1 (bit 25) that of the upper ones; Cause and Flags are written and nothing else changes.  The
predicate holds if bit 2 of the condition is set and the first value is less, bit 1 and they are equal, or bit 0 and
they are unordered; V is raised for a signaling NaN, and with bit 3 set for any NaN.  Denormals are compared as their
values and the zeros are equal. The encodings, the predicate decoding and the bit positions are from general knowledge
(notes/assumptions/34.md). (spec/48_fpu.md R530 to R546, spec/49_fpu_ps_madd.md R590 to R599, spec/49_fpu_ps_madd.md
R612 to R618, spec/48_fpu.md R491, spec/10_state.md R29.) -/
def Obligations.FpComparisons : Prop :=
  let flag (n : Nat) (b : Bool) (f : Word) : Word := if b then f ||| ((1 : Word) <<< n) else f &&& ~~~((1 : Word) <<< n)
  let cond (invalid : Bool) : Conditions := if invalid then 0b010000 else 0
  let single (i : Instr) (r : State → Bool × Bool) : Prop :=
    FpComparison i (fun s => cond (r s).2) fun s f => flag 23 (r s).1 f
  let paired (i : Instr) (lower upper : State → Bool × Bool) : Prop :=
    FpComparison i (fun s => cond ((lower s).2 || (upper s).2)) fun s f =>
      flag 25 (upper s).1 (flag 23 (lower s).1 f)
  (∀ ft fs : Reg,
    single (.c_f_s ft fs) (fun s => fpCompare .single 0 (s.readS fs).toNat (s.readS ft).toNat) ∧
    single (.c_f_d ft fs) (fun s => fpCompare .double 0 (s.readD fs).toNat (s.readD ft).toNat) ∧
    paired (.c_f_ps ft fs)
      (fun s => fpCompare .single 0 (s.lowerBits fs) (s.lowerBits ft))
      (fun s => fpCompare .single 0 (s.upperBits fs) (s.upperBits ft)) ∧
    single (.c_un_s ft fs) (fun s => fpCompare .single 1 (s.readS fs).toNat (s.readS ft).toNat) ∧
    single (.c_un_d ft fs) (fun s => fpCompare .double 1 (s.readD fs).toNat (s.readD ft).toNat) ∧
    paired (.c_un_ps ft fs)
      (fun s => fpCompare .single 1 (s.lowerBits fs) (s.lowerBits ft))
      (fun s => fpCompare .single 1 (s.upperBits fs) (s.upperBits ft)) ∧
    single (.c_eq_s ft fs) (fun s => fpCompare .single 2 (s.readS fs).toNat (s.readS ft).toNat) ∧
    single (.c_eq_d ft fs) (fun s => fpCompare .double 2 (s.readD fs).toNat (s.readD ft).toNat) ∧
    paired (.c_eq_ps ft fs)
      (fun s => fpCompare .single 2 (s.lowerBits fs) (s.lowerBits ft))
      (fun s => fpCompare .single 2 (s.upperBits fs) (s.upperBits ft)) ∧
    single (.c_ueq_s ft fs) (fun s => fpCompare .single 3 (s.readS fs).toNat (s.readS ft).toNat) ∧
    single (.c_ueq_d ft fs) (fun s => fpCompare .double 3 (s.readD fs).toNat (s.readD ft).toNat) ∧
    paired (.c_ueq_ps ft fs)
      (fun s => fpCompare .single 3 (s.lowerBits fs) (s.lowerBits ft))
      (fun s => fpCompare .single 3 (s.upperBits fs) (s.upperBits ft)) ∧
    single (.c_olt_s ft fs) (fun s => fpCompare .single 4 (s.readS fs).toNat (s.readS ft).toNat) ∧
    single (.c_olt_d ft fs) (fun s => fpCompare .double 4 (s.readD fs).toNat (s.readD ft).toNat) ∧
    paired (.c_olt_ps ft fs)
      (fun s => fpCompare .single 4 (s.lowerBits fs) (s.lowerBits ft))
      (fun s => fpCompare .single 4 (s.upperBits fs) (s.upperBits ft)) ∧
    single (.c_ult_s ft fs) (fun s => fpCompare .single 5 (s.readS fs).toNat (s.readS ft).toNat) ∧
    single (.c_ult_d ft fs) (fun s => fpCompare .double 5 (s.readD fs).toNat (s.readD ft).toNat) ∧
    paired (.c_ult_ps ft fs)
      (fun s => fpCompare .single 5 (s.lowerBits fs) (s.lowerBits ft))
      (fun s => fpCompare .single 5 (s.upperBits fs) (s.upperBits ft)) ∧
    single (.c_ole_s ft fs) (fun s => fpCompare .single 6 (s.readS fs).toNat (s.readS ft).toNat) ∧
    single (.c_ole_d ft fs) (fun s => fpCompare .double 6 (s.readD fs).toNat (s.readD ft).toNat) ∧
    paired (.c_ole_ps ft fs)
      (fun s => fpCompare .single 6 (s.lowerBits fs) (s.lowerBits ft))
      (fun s => fpCompare .single 6 (s.upperBits fs) (s.upperBits ft)) ∧
    single (.c_ule_s ft fs) (fun s => fpCompare .single 7 (s.readS fs).toNat (s.readS ft).toNat) ∧
    single (.c_ule_d ft fs) (fun s => fpCompare .double 7 (s.readD fs).toNat (s.readD ft).toNat) ∧
    paired (.c_ule_ps ft fs)
      (fun s => fpCompare .single 7 (s.lowerBits fs) (s.lowerBits ft))
      (fun s => fpCompare .single 7 (s.upperBits fs) (s.upperBits ft)) ∧
    single (.c_sf_s ft fs) (fun s => fpCompare .single 8 (s.readS fs).toNat (s.readS ft).toNat) ∧
    single (.c_sf_d ft fs) (fun s => fpCompare .double 8 (s.readD fs).toNat (s.readD ft).toNat) ∧
    paired (.c_sf_ps ft fs)
      (fun s => fpCompare .single 8 (s.lowerBits fs) (s.lowerBits ft))
      (fun s => fpCompare .single 8 (s.upperBits fs) (s.upperBits ft)) ∧
    single (.c_ngle_s ft fs) (fun s => fpCompare .single 9 (s.readS fs).toNat (s.readS ft).toNat) ∧
    single (.c_ngle_d ft fs) (fun s => fpCompare .double 9 (s.readD fs).toNat (s.readD ft).toNat) ∧
    paired (.c_ngle_ps ft fs)
      (fun s => fpCompare .single 9 (s.lowerBits fs) (s.lowerBits ft))
      (fun s => fpCompare .single 9 (s.upperBits fs) (s.upperBits ft)) ∧
    single (.c_seq_s ft fs) (fun s => fpCompare .single 10 (s.readS fs).toNat (s.readS ft).toNat) ∧
    single (.c_seq_d ft fs) (fun s => fpCompare .double 10 (s.readD fs).toNat (s.readD ft).toNat) ∧
    paired (.c_seq_ps ft fs)
      (fun s => fpCompare .single 10 (s.lowerBits fs) (s.lowerBits ft))
      (fun s => fpCompare .single 10 (s.upperBits fs) (s.upperBits ft)) ∧
    single (.c_ngl_s ft fs) (fun s => fpCompare .single 11 (s.readS fs).toNat (s.readS ft).toNat) ∧
    single (.c_ngl_d ft fs) (fun s => fpCompare .double 11 (s.readD fs).toNat (s.readD ft).toNat) ∧
    paired (.c_ngl_ps ft fs)
      (fun s => fpCompare .single 11 (s.lowerBits fs) (s.lowerBits ft))
      (fun s => fpCompare .single 11 (s.upperBits fs) (s.upperBits ft)) ∧
    single (.c_lt_s ft fs) (fun s => fpCompare .single 12 (s.readS fs).toNat (s.readS ft).toNat) ∧
    single (.c_lt_d ft fs) (fun s => fpCompare .double 12 (s.readD fs).toNat (s.readD ft).toNat) ∧
    paired (.c_lt_ps ft fs)
      (fun s => fpCompare .single 12 (s.lowerBits fs) (s.lowerBits ft))
      (fun s => fpCompare .single 12 (s.upperBits fs) (s.upperBits ft)) ∧
    single (.c_nge_s ft fs) (fun s => fpCompare .single 13 (s.readS fs).toNat (s.readS ft).toNat) ∧
    single (.c_nge_d ft fs) (fun s => fpCompare .double 13 (s.readD fs).toNat (s.readD ft).toNat) ∧
    paired (.c_nge_ps ft fs)
      (fun s => fpCompare .single 13 (s.lowerBits fs) (s.lowerBits ft))
      (fun s => fpCompare .single 13 (s.upperBits fs) (s.upperBits ft)) ∧
    single (.c_le_s ft fs) (fun s => fpCompare .single 14 (s.readS fs).toNat (s.readS ft).toNat) ∧
    single (.c_le_d ft fs) (fun s => fpCompare .double 14 (s.readD fs).toNat (s.readD ft).toNat) ∧
    paired (.c_le_ps ft fs)
      (fun s => fpCompare .single 14 (s.lowerBits fs) (s.lowerBits ft))
      (fun s => fpCompare .single 14 (s.upperBits fs) (s.upperBits ft)) ∧
    single (.c_ngt_s ft fs) (fun s => fpCompare .single 15 (s.readS fs).toNat (s.readS ft).toNat) ∧
    single (.c_ngt_d ft fs) (fun s => fpCompare .double 15 (s.readD fs).toNat (s.readD ft).toNat) ∧
    paired (.c_ngt_ps ft fs)
      (fun s => fpCompare .single 15 (s.lowerBits fs) (s.lowerBits ft))
      (fun s => fpCompare .single 15 (s.upperBits fs) (s.upperBits ft))) ∧
  ∀ (f : FpFormat) (c : BitVec 4) (a b : Nat),
    (∀ (n m : Int) (k : Nat), (unpack f a).hasValue n k → (unpack f b).hasValue m k →
      ((fpCompare f c a b).1 = true ↔ (c.getLsbD 2 = true ∧ n < m) ∨ (c.getLsbD 1 = true ∧ n = m)) ∧
      (fpCompare f c a b).2 = false) ∧
    (∀ p q, unpack f a = .inf p → unpack f b = .inf q →
      ((fpCompare f c a b).1 = true ↔
        (c.getLsbD 2 = true ∧ p = true ∧ q = false) ∨ (c.getLsbD 1 = true ∧ p = q)) ∧
      (fpCompare f c a b).2 = false) ∧
    (∀ p, unpack f a = .inf p → (unpack f b).finite →
      ((fpCompare f c a b).1 = true ↔ c.getLsbD 2 = true ∧ p = true) ∧
      ((fpCompare f c b a).1 = true ↔ c.getLsbD 2 = true ∧ p = false) ∧
      (fpCompare f c a b).2 = false ∧ (fpCompare f c b a).2 = false) ∧
    (∀ s n, unpack f a = .nan s n ∨ unpack f b = .nan s n →
      (fpCompare f c a b).1 = c.getLsbD 0 ∧
      ((fpCompare f c a b).2 = true ↔ c.getLsbD 3 = true ∨
        ∃ n, unpack f a = .nan true n ∨ unpack f b = .nan true n))

/-- With CU1 = 1: MOV.S, MOV.D and MOV.PS copy the bits of fs to fd; MFC1 writes the single of fs sign-extended and DMFC1
the doubleword of fs to rt; MTC1 and DMTC1 write the low word and the doubleword of rt to fs; CFC1 writes 0x501 for
FCR0, FCR31 sign-extended, and 0 for any other register.  CTC1 to FCR31 writes its writable bits and, if Cause.E or a
Cause bit with its enable is then set, takes the floating-point exception with FCR31 written; CTC1 to any other
register does nothing.  FCR31 is otherwise kept and nothing else changes. That other control registers read 0 and
ignore writes is decision D34; the places of the fields of FCR31 are PRESUMED (R29, D4; notes/assumptions/34.md).
(spec/48_fpu.md R506, spec/48_fpu.md R547 to R552, spec/49_fpu_ps_madd.md R586, spec/10_state.md R28, spec/10_state.md
R29, spec/92_eei_decisions.md D34.) -/
def Obligations.FpMoves : Prop :=
  ∀ (s : State) (rt fs fd : Reg), s.cu 1 = true →
    let f : Word := BitVec.ofNat 32 (s.readGpr rt).toNat &&& 0x0383FFFF
    let traps : Prop := f.getLsbD 17 = true ∨ ∃ b, b < 5 ∧ f.getLsbD (12 + b) = true ∧ f.getLsbD (7 + b) = true
    Completes (.mov_s fs fd) s (fun t => SingleSet s t fd (s.readS fs) ∧ t.fcr31 = s.fcr31 ∧ OnlyFpu s t) ∧
    Completes (.mov_d fs fd) s (fun t => DoubleSet s t fd (s.readD fs) ∧ t.fcr31 = s.fcr31 ∧ OnlyFpu s t) ∧
    Completes (.mov_ps fs fd) s (fun t => DoubleSet s t fd (s.readD fs) ∧ t.fcr31 = s.fcr31 ∧ OnlyFpu s t) ∧
    SetsRegister (.mfc1 rt fs) s rt (signedOf 32 (s.readS fs).toNat) ∧
    SetsRegister (.dmfc1 rt fs) s rt (s.readD fs) ∧
    Completes (.mtc1 rt fs) s (fun t =>
      SingleSet s t fs (BitVec.ofNat 32 (s.readGpr rt).toNat) ∧ t.fcr31 = s.fcr31 ∧ OnlyFpu s t) ∧
    Completes (.dmtc1 rt fs) s (fun t => DoubleSet s t fs (s.readGpr rt) ∧ t.fcr31 = s.fcr31 ∧ OnlyFpu s t) ∧
    SetsRegister (.cfc1 rt 0) s rt 0x501 ∧
    SetsRegister (.cfc1 rt 31) s rt (signedOf 32 s.fcr31.toNat) ∧
    (fs ≠ 0 → fs ≠ 31 → SetsRegister (.cfc1 rt fs) s rt 0) ∧
    (traps → exec (.ctc1 rt 31) s = .next (takeException .floatingPoint (s.setFcr31 f))) ∧
    (¬ traps → Completes (.ctc1 rt 31) s fun t => t.fcr31 = f ∧ t.fpr = s.fpr ∧ OnlyFpu s t) ∧
    (fs ≠ 31 → Completes (.ctc1 rt fs) s fun t => OnlyPc s t)

/-- With CU1 = 1, CFC1 rt, $0 completes and writes the 32-bit value 0x00000501 to rt, whose bits 31:16 are 0, bits 15:8
(Imp) 0x05 and bits 7:0 (Rev) 0x01, and changes nothing else; CTC1 rt, $0 completes and changes nothing but the
program counter, so that a later read answers the same. (R28.) -/
def Obligations.ImplementationRegister : Prop :=
  ∀ (s : State) (rt rd : Reg), s.cu 1 = true →
    (∃ v : Word, v = 0x00000501 ∧ v.extractLsb' 16 16 = (0 : BitVec 16) ∧ v.extractLsb' 8 8 = (0x05 : BitVec 8) ∧
      v.extractLsb' 0 8 = (0x01 : BitVec 8) ∧ SetsRegister (.cfc1 rt 0) s rt (v.setWidth 64)) ∧
    ∃ t, exec (.ctc1 rt 0) s = .next t ∧ OnlyPc s t ∧ GoesOn s t ∧ SetsRegister (.cfc1 rd 0) t rd 0x501

/-- Ending an operation with a set of conditions: if E is among them, or a condition whose Enable bit (FCR31 bits 11:7) is
set, the floating-point exception is raised, with bits 17:12 of FCR31 holding the conditions and every other bit and
all else as before; otherwise no exception occurs, the result is written, bits 17:12 hold the conditions and bits 6:2
have them ORed in. The places of the fields of FCR31 are PRESUMED (notes/assumptions/34.md). (spec/48_fpu.md R486,
spec/48_fpu.md R487, spec/48_fpu.md R488, spec/48_fpu.md R489, spec/10_state.md R29, spec/92_eei_decisions.md D4.) -/
def Obligations.FpTrapCondition : Prop :=
  ∀ (s : State) (c : Conditions) (write : State → State),
    let traps : Prop := c.getLsbD 5 = true ∨ ∃ b, b < 5 ∧ c.getLsbD b = true ∧ s.fcr31.getLsbD (7 + b) = true
    (traps → ∃ t, fpEnd s c write = .raise .floatingPoint t ∧ t = { s with fcr31 := t.fcr31 } ∧
      ∀ b, b < 32 → t.fcr31.getLsbD b =
        if 12 ≤ b ∧ b < 18 then c.getLsbD (b - 12) else s.fcr31.getLsbD b) ∧
    (¬ traps → ∃ t, fpEnd s c write = .ok () (write t) ∧ t = { s with fcr31 := t.fcr31 } ∧
      ∀ b, b < 32 → t.fcr31.getLsbD b =
        if 12 ≤ b ∧ b < 18 then c.getLsbD (b - 12)
        else if 2 ≤ b ∧ b < 7 then s.fcr31.getLsbD b || c.getLsbD (b - 2)
        else s.fcr31.getLsbD b)

/-- For finite operands: if addition, subtraction, multiplication, division, square root, a multiply-add or a conversion
raises no condition, the value of its result is the exact one.  Without denormal operands, addition, subtraction,
multiplication, a multiply-add with one rounding and a conversion to a format deliver their exact value, if it is not
0, as FpRounding says, and raise nothing if the format has it; one that is 0 is a zero: a sum's negative for operands
of one sign that are -0 or when rounding toward minus infinity, a product's of the product of the signs.  Division (of
a number other than 0) and square root (of a positive number) deliver the leading bits of the exact quotient or root
with a sticky bit that says whether more follow.  A multiply-add with two roundings is the product and then the sum,
with the conditions of both, and E of either alone; the negated forms negate the result that is not invalid.  A
conversion to an integer rounds the operand and raises I if that changes it; out of range it raises V and delivers the
most negative or most positive integer.  A conversion of an integer of at most 2 to the number of significand bits
raises nothing. Whether a multiply-add rounds once is madd_fused; how two roundings join, the sign of a zero sum and
of a negated result are choices of notes/assumptions/35.md; the most positive integer is D33. (spec/48_fpu.md R481,
spec/48_fpu.md R483, spec/48_fpu.md R490, spec/48_fpu.md R500 to R504, spec/48_fpu.md R510, spec/48_fpu.md R521,
spec/48_fpu.md R522, spec/49_fpu_ps_madd.md R589, spec/92_eei_decisions.md D33 and D35.) -/
def Obligations.FpExactResults : Prop :=
  ∀ (f g : FpFormat) (c : FpControl) (a b d : Nat) (n m p : Int) (k : Nat),
    (unpack f a).hasValue n k → (unpack f b).hasValue m k → (unpack f d).hasValue p k →
    let x := unpack f a
    let y := unpack f b
    let ordinary (v : FpValue) : Prop := v.unimplemented = false
    let exact (h : FpFormat) (r : FpResult) (v : Int) (j : Nat) : Prop := r.cond = 0 → (unpack h r.bits).hasValue v j
    let clean (h : FpFormat) (r : FpResult) (v : Int) (j : Nat) : Prop :=
      (∃ z, ordinary (unpack h z) ∧ (unpack h z).hasValue v j) → r.cond = 0
    let z := unpack f d
    let rounds (h : FpFormat) (r : FpResult) (v : Int) (j : Nat) (zero : Bool) : Prop :=
      r = if v = 0 then { cond := 0, bits := packZero h zero } else deliver h c (decide (v < 0)) v.natAbs (-(j : Int)) false
    let zeroSum (v : Int) (neg1 neg2 : Bool) : Bool := if v = 0 ∧ neg1 = neg2 then neg1 else c.rm == 3
    let leading (mag : Nat) (exp : Int) (sticky : Bool) (value : Nat → Nat) (target : Nat) : Prop :=
      2 ^ (f.fracBits + 1) ≤ mag ∧ value (mag * 2 ^ exp.toNat) ≤ target ∧ target < value ((mag + 1) * 2 ^ exp.toNat) ∧
        (sticky = false ↔ value (mag * 2 ^ exp.toNat) = target)
    exact f (fpAdd f c x y) (n + m) k ∧ exact f (fpSub f c x y) (n - m) k ∧ exact f (fpMul f c x y) (n * m) (2 * k) ∧
    (ordinary x → ordinary y →
      clean f (fpAdd f c x y) (n + m) k ∧ clean f (fpSub f c x y) (n - m) k ∧
      clean f (fpMul f c x y) (n * m) (2 * k)) ∧
    ((fpDiv f false c x y).cond = 0 →
      ∃ (r : Int) (j : Nat), (unpack f (fpDiv f false c x y).bits).hasValue r j ∧ m ≠ 0 ∧ r * m = n * 2 ^ j) ∧
    ((fpSqrt f false c x).cond = 0 →
      ∃ (r : Int) (j : Nat), (unpack f (fpSqrt f false c x).bits).hasValue r j ∧ 0 ≤ r ∧
        r * r * 2 ^ k = n * 2 ^ (2 * j)) ∧
    exact f (fpMadd f false false c (unpack f d) x y) (n * m + p * 2 ^ k) (2 * k) ∧
    exact f (fpMadd f true false c (unpack f d) x y) (n * m - p * 2 ^ k) (2 * k) ∧
    exact f (fpMadd f false true c (unpack f d) x y) (-(n * m + p * 2 ^ k)) (2 * k) ∧
    exact f (fpMadd f true true c (unpack f d) x y) (-(n * m - p * 2 ^ k)) (2 * k) ∧
    (c.fused = true → ordinary x → ordinary y → ordinary (unpack f d) →
      clean f (fpMadd f false false c (unpack f d) x y) (n * m + p * 2 ^ k) (2 * k) ∧
      clean f (fpMadd f true false c (unpack f d) x y) (n * m - p * 2 ^ k) (2 * k) ∧
      clean f (fpMadd f false true c (unpack f d) x y) (-(n * m + p * 2 ^ k)) (2 * k) ∧
      clean f (fpMadd f true true c (unpack f d) x y) (-(n * m - p * 2 ^ k)) (2 * k)) ∧
    exact g (fpToFp g c x) n k ∧ (ordinary x → clean g (fpToFp g c x) n k) ∧
    (∀ rm, (fpToInt 32 rm x).cond = 0 → (BitVec.ofNat 32 (fpToInt 32 rm x).bits).toInt * 2 ^ k = n) ∧
    (∀ rm, (fpToInt 64 rm x).cond = 0 → (BitVec.ofNat 64 (fpToInt 64 rm x).bits).toInt * 2 ^ k = n) ∧
    (∀ i : Int, exact g (intToFp g c i) i 0 ∧ (i.natAbs ≤ 2 ^ (g.fracBits + 1) → (intToFp g c i).cond = 0)) ∧
    (∀ i : Int, rounds g (intToFp g c i) i 0 false) ∧
    (ordinary x → rounds g (fpToFp g c x) n k x.neg ∧
      ∀ (w : Nat) (rm : BitVec 2), 0 < w →
        let r := fpToInt w rm x
        let q := roundShift rm (decide (n < 0)) n.natAbs k false
        let i : Int := if n < 0 then -(q.1 : Int) else q.1
        (-(2 ^ (w - 1)) ≤ i ∧ i < 2 ^ (w - 1) →
          r.cond = (if q.2 then condI else 0) ∧ (BitVec.ofNat w r.bits).toInt = i) ∧
        (¬ (-(2 ^ (w - 1)) ≤ i ∧ i < 2 ^ (w - 1)) →
          r.cond = condV ∧ (BitVec.ofNat w r.bits).toInt = if n < 0 then -(2 ^ (w - 1)) else 2 ^ (w - 1) - 1)) ∧
    (ordinary x → 0 < n →
      ∃ (mag : Nat) (exp : Int) (sticky : Bool), fpSqrt f false c x = deliver f c false mag exp sticky ∧
        leading mag exp sticky (fun u => u ^ 2 * 2 ^ k) (n.natAbs * 2 ^ (2 * (-exp).toNat))) ∧
    (ordinary x → ordinary y →
      rounds f (fpAdd f c x y) (n + m) k (zeroSum n x.neg y.neg) ∧
      rounds f (fpSub f c x y) (n - m) k (zeroSum n x.neg !y.neg) ∧
      rounds f (fpMul f c x y) (n * m) (2 * k) (x.neg != y.neg) ∧
      (n ≠ 0 → m ≠ 0 →
        ∃ (mag : Nat) (exp : Int) (sticky : Bool),
          fpDiv f false c x y = deliver f c (decide (n * m < 0)) mag exp sticky ∧
          leading mag exp sticky (fun u => u * m.natAbs) (n.natAbs * 2 ^ (-exp).toNat))) ∧
    (ordinary x → ordinary y → ordinary z →
      (c.fused = true →
        rounds f (fpMadd f false false c z x y) (n * m + p * 2 ^ k) (2 * k) (zeroSum p (x.neg != y.neg) z.neg) ∧
        rounds f (fpMadd f true false c z x y) (n * m - p * 2 ^ k) (2 * k) (zeroSum p (x.neg != y.neg) !z.neg)) ∧
      (c.fused = false →
        let product := fpMul f c x y
        let joined (r : FpResult) : FpResult :=
          if product.cond = condE then product else if r.cond = condE then r
          else { cond := r.cond ||| product.cond, bits := r.bits }
        fpMadd f false false c z x y = joined (fpAdd f c (unpack f product.bits) z) ∧
        fpMadd f true false c z x y = joined (fpSub f c (unpack f product.bits) z)) ∧
      ∀ minus,
        let r := fpMadd f minus false c z x y
        let q := fpMadd f minus true c z x y
        q.cond = r.cond ∧ (r.cond.getLsbD 4 = false → unpack f q.bits = (unpack f r.bits).negate))

/-- Delivering a non-zero exact magnitude overflows, raising O and I, exactly if it rounds above the largest number of the
format: to nearest from half a unit above it on, toward zero from the next power of two on, away from zero if it is
greater; the result is the infinity or the largest number, by mode and sign.  It is tiny exactly if it rounds below
the smallest normal number: to nearest below the midpoint under it, toward zero below it, away from zero up to the
last number of full precision under it; then it raises U and I and delivers zero or the smallest normal number if FS =
1 and U and I are not enabled, otherwise E.  Every other magnitude gives a normal number with its sign, raising I
exactly if that differs from it: to nearest, within half a unit of its last place, its significand even on a tie;
toward zero, or the infinity of the other sign, the largest one not above the magnitude; toward the infinity of its
sign, the smallest not below.  Rounding to an integer obeys the same four rules with unit 1.  A sticky bit under a
magnitude with more bits than the significand stands for any amount between it and the next one. The spec marks parts
of R483 as from general knowledge; the flushed value is decision D32. (spec/48_fpu.md R483, spec/48_fpu.md R490,
spec/48_fpu.md R493, spec/48_fpu.md R494, spec/48_fpu.md R496, spec/48_fpu.md R510, spec/92_eei_decisions.md D32.) -/
def Obligations.FpRounding : Prop :=
  ∀ (f : FpFormat) (c : FpControl) (neg : Bool) (mag : Nat) (exp : Int) (k : Nat), 0 < mag →
    let r := deliver f c neg mag exp false
    let towardZero (rm : BitVec 2) : Prop := rm = 1 ∨ (rm = 2 ∧ neg = true) ∨ (rm = 3 ∧ neg = false)
    let away (rm : BitVec 2) : Prop := (rm = 2 ∧ neg = false) ∨ (rm = 3 ∧ neg = true)
    let below (n : Nat) (e : Int) : Prop := mag * 2 ^ (exp - min e exp).toNat < n * 2 ^ (e - min e exp).toNat
    let atMost (n : Nat) (e : Int) : Prop := mag * 2 ^ (exp - min e exp).toNat ≤ n * 2 ^ (e - min e exp).toNat
    let overflows : Prop :=
      (c.rm = 0 → ¬ below (2 ^ (f.fracBits + 2) - 1) (f.bias - f.fracBits - 1)) ∧
        (towardZero c.rm → ¬ below 1 (f.bias + 1)) ∧
        (away c.rm → ¬ atMost (2 ^ (f.fracBits + 1) - 1) (f.bias - f.fracBits))
    let tiny : Prop :=
      (c.rm = 0 → below (2 ^ (f.fracBits + 2) - 1) (f.emin - f.fracBits - 2)) ∧
        (towardZero c.rm → below 1 f.emin) ∧
        (away c.rm → atMost (2 ^ (f.fracBits + 1) - 1) (f.emin - f.fracBits - 1))
    let rounded (rm : BitVec 2) (significand : Nat) (v x u : Int) : Prop :=
      (rm = 0 → 2 * (v - x).natAbs ≤ u ∧ (2 * (v - x).natAbs = u → significand % 2 = 0)) ∧
        (towardZero rm → v ≤ x ∧ x < v + u) ∧ (away rm → x ≤ v ∧ v < x + u)
    (overflows → r.cond = condOI ∧ unpack f r.bits =
      if c.rm = 0 ∨ away c.rm then .inf neg else .normal neg (2 ^ (f.fracBits + 1) - 1) (f.bias - f.fracBits)) ∧
    (tiny →
      (c.fs = true → c.uiEnabled = false → r.cond = condUI ∧ unpack f r.bits =
        if away c.rm then .normal neg (2 ^ f.fracBits) (f.emin - f.fracBits) else .zero neg) ∧
      (c.fs = false ∨ c.uiEnabled = true → r.cond = condE)) ∧
    (¬ overflows → ¬ tiny →
      (r.cond = 0 ∨ r.cond = condI) ∧
      ∃ (sig : Nat) (e : Int), unpack f r.bits = .normal neg sig e ∧
        let base := min e exp
        rounded c.rm sig (sig * 2 ^ (e - base).toNat) (mag * 2 ^ (exp - base).toNat) (2 ^ (e - base).toNat) ∧
        (r.cond = condI ↔ (sig : Int) * 2 ^ (e - base).toNat ≠ mag * 2 ^ (exp - base).toNat)) ∧
    (∀ rm, rounded rm (roundShift rm neg mag k false).1 ((roundShift rm neg mag k false).1 * 2 ^ k) mag (2 ^ k) ∧
      ((roundShift rm neg mag k false).2 = true ↔ mag % 2 ^ k ≠ 0)) ∧
    (∀ j m : Nat, 2 ^ (f.fracBits + 1) ≤ mag → mag * 2 ^ j < m → m < (mag + 1) * 2 ^ j →
      deliver f c neg mag exp true = deliver f c neg m (exp - j) false)

/-- A denormal or quiet NaN operand raises E alone, then a signaling NaN V, in every operation and every multiply-add;
adding infinities of opposite sign or subtracting equal ones (in a multiply-add: an infinite product and the addend as
the form takes it), 0 times infinity, 0/0, infinity/infinity and the square root of a negative number raise V and
deliver the default quiet NaN of the result's format; a normal number divided by zero raises Z and delivers the
infinity of the product of the signs.  With a finite operand that is no denormal, an infinity gives an infinity or, as
a divisor, a zero, with the sign of the operation and no condition, and zero divided by a normal number a zero; so
does an infinite product or addend of a multiply-add, with the sign inverted in the negated forms (an infinite addend:
unless the product is rounded on its own and raises a condition).  ABS clears and NEG inverts the sign bit of a zero,
a normal number or an infinity, keeps the other bits and raises nothing.  A conversion to an integer raises V for an
infinity and a signaling NaN and delivers the most negative or most positive integer.  With NOFDIV or NOFSQR set,
division or square root raises E. The bits of the default NaN and the most positive integer are decisions D13 and D33,
and NOFDIV and NOFSQR are I4 (notes/assumptions/36.md); that a negated form inverts its infinity and not the default
NaN is DEDUCED in notes/assumptions/35.md. (spec/48_fpu.md R484, spec/48_fpu.md R485, spec/48_fpu.md R491,
spec/48_fpu.md R492, spec/48_fpu.md R495, spec/48_fpu.md R500 to R507, spec/48_fpu.md R510, spec/48_fpu.md R521,
spec/48_fpu.md R522, spec/49_fpu_ps_madd.md R585 to R589, spec/92_eei_decisions.md D13 and D33,
spec/93_implementation_defined.md I4.) -/
def Obligations.FpSpecialResults : Prop :=
  ∀ (f g : FpFormat) (c : FpControl) (a b d : Nat),
    let x := unpack f a
    let y := unpack f b
    let screened (v : FpValue) : Prop := (∃ n, v = .nan false n) ∨ ∃ n m e, v = .denormal n m e
    let signaling (v : FpValue) : Prop := ∃ n, v = .nan true n
    let invalidIn (h : FpFormat) (r : FpResult) : Prop :=
      r.cond = 0b010000 ∧ r.bits = (match h with | .single => 0x7FBFFFFF | .double => 0x7FF7FFFFFFFFFFFF)
    let invalid : FpResult → Prop := invalidIn f
    let z := unpack f d
    let ordinary (v : FpValue) : Prop := (∃ n, v = .zero n) ∨ ∃ n m e, v = .normal n m e
    let zero (v : FpValue) : Prop := ∃ n, v = .zero n
    let infinite (v : FpValue) : Prop := ∃ n, v = .inf n
    let number (v : FpValue) : Prop := ordinary v ∨ infinite v
    let exactly (h : FpFormat) (r : FpResult) (v : FpValue) : Prop := r.cond = 0 ∧ unpack h r.bits = v
    (∀ p, x = .inf p → ordinary y →
      exactly f (fpAdd f c x y) (.inf p) ∧ exactly f (fpAdd f c y x) (.inf p) ∧ exactly f (fpSub f c x y) (.inf p) ∧
      exactly f (fpSub f c y x) (.inf !p) ∧ exactly f (fpDiv f false c x y) (.inf (p != y.neg)) ∧
      exactly f (fpDiv f false c y x) (.zero (p != y.neg)) ∧
      ((∀ q, y ≠ .zero q) → exactly f (fpMul f c x y) (.inf (p != y.neg)) ∧
        exactly f (fpMul f c y x) (.inf (p != y.neg)))) ∧
    (∀ p q, x = .inf p → y = .inf q → exactly f (fpMul f c x y) (.inf (p != q))) ∧
    (number x → (fpAbs f a).cond = 0 ∧ (fpNeg f a).cond = 0 ∧
      (∀ i, i < f.fracBits + f.expBits →
        (fpAbs f a).bits.testBit i = a.testBit i ∧ (fpNeg f a).bits.testBit i = a.testBit i) ∧
      (fpAbs f a).bits.testBit (f.fracBits + f.expBits) = false ∧
      (fpNeg f a).bits.testBit (f.fracBits + f.expBits) = !a.testBit (f.fracBits + f.expBits)) ∧
    (∀ minus negate,
      let r := fpMadd f minus negate c z x y
      (screened x ∨ screened y ∨ screened z → r.cond = 0b100000) ∧
      (¬ screened x → ¬ screened y → ¬ screened z → signaling x ∨ signaling y ∨ signaling z → invalid r) ∧
      (number x → number y → infinite x ∨ infinite y →
        (zero x ∨ zero y → number z → invalid r) ∧
        (¬ zero x → ¬ zero y →
          (ordinary z → exactly f r (.inf ((x.neg != y.neg) != negate))) ∧
          (∀ q, z = .inf q → (x.neg != y.neg) = (q != minus) → exactly f r (.inf ((x.neg != y.neg) != negate))) ∧
          (∀ q, z = .inf q → (x.neg != y.neg) ≠ (q != minus) → invalid r))) ∧
      (∀ q, z = .inf q → ordinary x → ordinary y → c.fused = true ∨ (fpMul f c x y).cond = 0 →
        exactly f r (.inf ((q != minus) != negate)))) ∧
    (screened x → (fpToFp g c x).cond = 0b100000) ∧ (signaling x → invalidIn g (fpToFp g c x)) ∧
    (∀ p, x = .inf p → exactly g (fpToFp g c x) (.inf p)) ∧
    (x = .inf false → exactly f (fpSqrt f false c x) (.inf false)) ∧
    (∀ p q m e, x = .zero p → y = .normal q m e → exactly f (fpDiv f false c x y) (.zero (p != q))) ∧
    (screened x ∨ screened y → (fpAdd f c x y).cond = 0b100000 ∧ (fpSub f c x y).cond = 0b100000 ∧
      (fpMul f c x y).cond = 0b100000 ∧ (fpDiv f false c x y).cond = 0b100000) ∧
    (¬ screened x → ¬ screened y → signaling x ∨ signaling y →
      invalid (fpAdd f c x y) ∧ invalid (fpSub f c x y) ∧ invalid (fpMul f c x y) ∧ invalid (fpDiv f false c x y)) ∧
    (screened x → (fpSqrt f false c x).cond = 0b100000 ∧ (fpAbs f a).cond = 0b100000 ∧ (fpNeg f a).cond = 0b100000 ∧
      ∀ w rm, (fpToInt w rm x).cond = 0b100000) ∧
    (signaling x → invalid (fpSqrt f false c x) ∧ invalid (fpAbs f a) ∧ invalid (fpNeg f a)) ∧
    (∀ p q, x = .inf p → y = .inf q →
      (p ≠ q → invalid (fpAdd f c x y)) ∧ (p = q → invalid (fpSub f c x y)) ∧ invalid (fpDiv f false c x y) ∧
      (p = q → exactly f (fpAdd f c x y) (.inf p)) ∧ (p ≠ q → exactly f (fpSub f c x y) (.inf p))) ∧
    (∀ p q, x = .inf p → y = .zero q → invalid (fpMul f c x y) ∧ invalid (fpMul f c y x)) ∧
    (∀ p q, x = .zero p → y = .zero q → invalid (fpDiv f false c x y)) ∧
    (∀ p q m e, x = .normal p m e → y = .zero q →
      (fpDiv f false c x y).cond = 0b001000 ∧ unpack f (fpDiv f false c x y).bits = .inf (p != q)) ∧
    (∀ m e, x = .normal true m e → invalid (fpSqrt f false c x)) ∧
    (x = .inf true → invalid (fpSqrt f false c x)) ∧
    (∀ p, x = .zero p → (fpSqrt f false c x).cond = 0 ∧ unpack f (fpSqrt f false c x).bits = .zero p) ∧
    (∀ p w rm, x = .inf p ∨ x = .nan true p → (fpToInt w rm x).cond = 0b010000 ∧
      (fpToInt w rm x).bits = if p then 2 ^ (w - 1) else 2 ^ (w - 1) - 1) ∧
    (fpDiv f true c x y).cond = 0b100000 ∧ (fpSqrt f true c x).cond = 0b100000
end

