-- ==== Sys2Proof/Laws/Memory.lean ====
section
/-! SUPPORT. The laws of the sparse stores: a read after a write, and the canonical form that every write keeps. -/

namespace Sys2Proof.Machine

variable {β : Type} [DecidableEq β] (d : β)

/-! ### Reading after writing -/

omit [DecidableEq β] in
theorem cellGet_nil (a : Nat) : cellGet d ([] : List (Nat × β)) a = d := rfl

/-- The entries of a canonical store lie above any smaller first key. -/
theorem cellWf_tail {k : Nat} {v : β} {m : List (Nat × β)} (h : cellWf d ((k, v) :: m) = true) :
    cellWf d m = true := by
  simp only [cellWf, Bool.and_eq_true] at h
  exact h.2

theorem cellWf_head_ne {k : Nat} {v : β} {m : List (Nat × β)} (h : cellWf d ((k, v) :: m) = true) : v ≠ d := by
  simp only [cellWf, Bool.and_eq_true, bne_iff_ne, ne_eq] at h
  exact h.1.1

theorem cellWf_head_lt {k : Nat} {v : β} {m : List (Nat × β)} (h : cellWf d ((k, v) :: m) = true)
    {p : Nat × β} (hp : p ∈ m) : k < p.1 := by
  simp only [cellWf, Bool.and_eq_true, List.all_eq_true, decide_eq_true_eq] at h
  exact h.1.2 p hp

omit [DecidableEq β] in
/-- A key below every listed key reads the default. -/
theorem cellGet_of_lt {m : List (Nat × β)} {a : Nat} (h : ∀ p ∈ m, a < p.1) : cellGet d m a = d := by
  induction m with
  | nil => rfl
  | cons p m ih =>
    obtain ⟨k, v⟩ := p
    have hk : a < k := h (k, v) (by simp)
    simp only [cellGet, Nat.ne_of_lt hk, if_false]
    exact ih fun q hq => h q (by simp [hq])

/-- Reading the key just written. -/
theorem cellGet_cellSet_same {m : List (Nat × β)} (hm : cellWf d m = true) (a : Nat) (b : β) :
    cellGet d (cellSet d m a b) a = b := by
  induction m with
  | nil =>
    simp only [cellSet]
    split
    · next h => simp [cellGet, h]
    · simp [cellGet]
  | cons p m ih =>
    obtain ⟨k, v⟩ := p
    have htail : cellWf d m = true := cellWf_tail d hm
    simp only [cellSet]
    split
    · next hlt =>
      split
      · next hb =>
        rw [hb]
        refine cellGet_of_lt d ?_
        intro q hq
        rcases List.mem_cons.mp hq with rfl | hq
        · exact hlt
        · exact Nat.lt_trans hlt (cellWf_head_lt d hm hq)
      · simp [cellGet]
    · split
      · next heq =>
        split
        · next hb =>
          rw [hb, heq]
          exact cellGet_of_lt d fun q hq => cellWf_head_lt d hm hq
        · simp [cellGet]
      · next hne => simpa [cellGet, hne] using ih htail

/-- Writing one key leaves every other key alone. -/
theorem cellGet_cellSet_other {m : List (Nat × β)} {a a' : Nat} (h : a' ≠ a) (b : β) :
    cellGet d (cellSet d m a b) a' = cellGet d m a' := by
  induction m with
  | nil =>
    simp only [cellSet]
    split
    · rfl
    · simp [cellGet, h]
  | cons p m ih =>
    obtain ⟨k, v⟩ := p
    simp only [cellSet]
    split
    · split
      · rfl
      · simp [cellGet, h]
    · split
      · next heq =>
        subst heq
        split
        · simp [cellGet, h]
        · simp [cellGet, h]
      · simp only [cellGet, ih]

/-! ### The canonical form -/

/-- Every key of a store after a write was there before or is the one written. -/
theorem mem_cellSet_key {m : List (Nat × β)} {a : Nat} {b : β} {p : Nat × β} (hp : p ∈ cellSet d m a b) :
    p.1 = a ∨ p ∈ m := by
  induction m with
  | nil =>
    simp only [cellSet] at hp
    split at hp
    · cases hp
    · simp_all
  | cons q m ih =>
    obtain ⟨k, v⟩ := q
    simp only [cellSet] at hp
    split at hp
    · split at hp
      · exact .inr hp
      · rcases List.mem_cons.mp hp with rfl | hp
        · exact .inl rfl
        · exact .inr hp
    · split at hp
      · next heq =>
        split at hp
        · exact .inr (List.mem_cons_of_mem _ hp)
        · rcases List.mem_cons.mp hp with rfl | hp
          · exact .inl rfl
          · exact .inr (List.mem_cons_of_mem _ hp)
      · rcases List.mem_cons.mp hp with rfl | hp
        · exact .inr (by simp)
        · rcases ih hp with h | h
          · exact .inl h
          · exact .inr (List.mem_cons_of_mem _ h)

/-- A write keeps the canonical form. -/
theorem cellSet_wf {m : List (Nat × β)} (hm : cellWf d m = true) (a : Nat) (b : β) :
    cellWf d (cellSet d m a b) = true := by
  induction m with
  | nil =>
    simp only [cellSet]
    split
    · rfl
    · next h => simp [cellWf, h]
  | cons p m ih =>
    obtain ⟨k, v⟩ := p
    have htail : cellWf d m = true := cellWf_tail d hm
    have hv : v ≠ d := cellWf_head_ne d hm
    have hlt : ∀ q ∈ m, k < q.1 := fun q hq => cellWf_head_lt d hm hq
    simp only [cellSet]
    split
    · next hak =>
      split
      · exact hm
      · next hb =>
        rw [cellWf]
        simp only [Bool.and_eq_true, bne_iff_ne, ne_eq, List.all_eq_true, decide_eq_true_eq]
        refine ⟨⟨hb, ?_⟩, hm⟩
        intro q hq
        rcases List.mem_cons.mp hq with rfl | hq
        · exact hak
        · exact Nat.lt_trans hak (hlt q hq)
    · next hnlt =>
      split
      · next heq =>
        subst heq
        split
        · exact htail
        · next hb =>
          simp only [cellWf, Bool.and_eq_true, bne_iff_ne, ne_eq, List.all_eq_true, decide_eq_true_eq]
          exact ⟨⟨hb, hlt⟩, htail⟩
      · next hne =>
        simp only [cellWf, Bool.and_eq_true, bne_iff_ne, ne_eq, List.all_eq_true, decide_eq_true_eq]
        refine ⟨⟨hv, ?_⟩, ih htail⟩
        intro q hq
        rcases mem_cellSet_key d hq with h | h
        · omega
        · exact hlt q h

/-- Filtering keeps the canonical form. -/
theorem cellWf_filter {m : List (Nat × β)} (hm : cellWf d m = true) (p : Nat × β → Bool) :
    cellWf d (m.filter p) = true := by
  induction m with
  | nil => rfl
  | cons q m ih =>
    obtain ⟨k, v⟩ := q
    have htail : cellWf d m = true := cellWf_tail d hm
    rw [List.filter_cons]
    split
    · simp only [cellWf, Bool.and_eq_true, bne_iff_ne, ne_eq, List.all_eq_true, decide_eq_true_eq]
      exact ⟨⟨cellWf_head_ne d hm, fun q hq => cellWf_head_lt d hm (List.mem_of_mem_filter hq)⟩, ih htail⟩
    · exact ih htail

/-! ### Memory as bytes -/

/-- Reading the byte just written. -/
theorem readByte_writeByte_same {m : List Host.Cell} (hm : Memory.wf m = true) (a : Nat) (b : Byte) :
    readByte (writeByte m a b) a = b := cellGet_cellSet_same unwrittenByte hm a b

/-- Writing one byte leaves every other address alone. -/
theorem readByte_writeByte_other (m : List Host.Cell) {a a' : Nat} (h : a' ≠ a) (b : Byte) :
    readByte (writeByte m a b) a' = readByte m a' := cellGet_cellSet_other unwrittenByte h b

/-- Writing one byte keeps the canonical form. -/
theorem writeByte_wf {m : List Host.Cell} (hm : Memory.wf m = true) (a : Nat) (b : Byte) :
    Memory.wf (writeByte m a b) = true := cellSet_wf unwrittenByte hm a b

/-- Writing bytes keeps the canonical form. -/
theorem writeBytes_wf {m : List Host.Cell} (hm : Memory.wf m = true) (a : Nat) (bs : List Byte) :
    Memory.wf (writeBytes m a bs) = true := by
  induction bs generalizing m a with
  | nil => exact hm
  | cons b bs ih => exact ih (writeByte_wf hm a b) (a + 1)

/-- Writing bytes leaves every address outside them alone. -/
theorem readByte_writeBytes_other (m : List Host.Cell) (a : Nat) (bs : List Byte) {a' : Nat}
    (h : a' < a ∨ a + bs.length ≤ a') : readByte (writeBytes m a bs) a' = readByte m a' := by
  induction bs generalizing m a with
  | nil => rfl
  | cons b bs ih =>
    simp only [List.length_cons] at h
    rw [writeBytes, ih (writeByte m a b) (a + 1) (by omega), readByte_writeByte_other m (by omega)]

/-- Reading one of the bytes just written. -/
theorem readByte_writeBytes {m : List Host.Cell} (hm : Memory.wf m = true) (a : Nat) (bs : List Byte) (i : Nat)
    (hi : i < bs.length) : readByte (writeBytes m a bs) (a + i) = bs[i] := by
  induction bs generalizing m a i with
  | nil => cases hi
  | cons b bs ih =>
    cases i with
    | zero =>
      rw [writeBytes, readByte_writeBytes_other _ _ _ (by omega), Nat.add_zero, readByte_writeByte_same hm]
      rfl
    | succ i =>
      rw [writeBytes, show a + (i + 1) = a + 1 + i by omega,
        ih (writeByte_wf hm a b) (a + 1) i (by simpa using hi)]
      rfl

@[simp] theorem readBytes_length (m : List Host.Cell) (a n : Nat) : (readBytes m a n).length = n := by
  simp [readBytes]

/-- Reading back the bytes just written. -/
theorem readBytes_writeBytes {m : List Host.Cell} (hm : Memory.wf m = true) (a : Nat) (bs : List Byte) :
    readBytes (writeBytes m a bs) a bs.length = bs := by
  apply List.ext_getElem
  · simp
  · intro i h1 h2
    simp only [readBytes, List.getElem_map, List.getElem_range]
    exact readByte_writeBytes hm a bs i h2

@[simp] theorem toBytes_length {w : Nat} (v : BitVec w) (n : Nat) : (toBytes v n).length = n := by
  simp [toBytes]

/-- The memory after reset is canonical. -/
theorem reset_memory_wf : Memory.wf State.reset.mem = true ∧ Memory.wf State.reset.rom = true := ⟨rfl, rfl⟩

end Sys2Proof.Machine
end

