-- ==== Sys2Proof/Laws/State.lean ====
section
/-! SUPPORT. What each update of the state leaves in each field: one lemma per field and update. -/

namespace Sys2Proof.Machine

variable (s : State)

/-! ### `setCp0` -/

@[simp] theorem State.setCp0_params (c : Cp0) : (s.setCp0 c).params = s.params := rfl
@[simp] theorem State.setCp0_gpr (c : Cp0) : (s.setCp0 c).gpr = s.gpr := rfl
@[simp] theorem State.setCp0_hi (c : Cp0) : (s.setCp0 c).hi = s.hi := rfl
@[simp] theorem State.setCp0_lo (c : Cp0) : (s.setCp0 c).lo = s.lo := rfl
@[simp] theorem State.setCp0_pc (c : Cp0) : (s.setCp0 c).pc = s.pc := rfl
@[simp] theorem State.setCp0_delay (c : Cp0) : (s.setCp0 c).delay = s.delay := rfl
@[simp] theorem State.setCp0_llbit (c : Cp0) : (s.setCp0 c).llbit = s.llbit := rfl
@[simp] theorem State.setCp0_fpr (c : Cp0) : (s.setCp0 c).fpr = s.fpr := rfl
@[simp] theorem State.setCp0_fcr31 (c : Cp0) : (s.setCp0 c).fcr31 = s.fcr31 := rfl
@[simp] theorem State.setCp0_cp0 (c : Cp0) : (s.setCp0 c).cp0 = c := rfl
@[simp] theorem State.setCp0_tlb (c : Cp0) : (s.setCp0 c).tlb = s.tlb := rfl
@[simp] theorem State.setCp0_itlb (c : Cp0) : (s.setCp0 c).itlb = s.itlb := rfl
@[simp] theorem State.setCp0_icache (c : Cp0) : (s.setCp0 c).icache = s.icache := rfl
@[simp] theorem State.setCp0_dcache (c : Cp0) : (s.setCp0 c).dcache = s.dcache := rfl
@[simp] theorem State.setCp0_scache (c : Cp0) : (s.setCp0 c).scache = s.scache := rfl
@[simp] theorem State.setCp0_gather (c : Cp0) : (s.setCp0 c).gather = s.gather := rfl
@[simp] theorem State.setCp0_windows (c : Cp0) : (s.setCp0 c).windows = s.windows := rfl
@[simp] theorem State.setCp0_ddr (c : Cp0) : (s.setCp0 c).ddr = s.ddr := rfl
@[simp] theorem State.setCp0_io (c : Cp0) : (s.setCp0 c).io = s.io := rfl
@[simp] theorem State.setCp0_pins (c : Cp0) : (s.setCp0 c).pins = s.pins := rfl
@[simp] theorem State.setCp0_mem (c : Cp0) : (s.setCp0 c).mem = s.mem := rfl
@[simp] theorem State.setCp0_rom (c : Cp0) : (s.setCp0 c).rom = s.rom := rfl
@[simp] theorem State.setCp0_busErr (c : Cp0) : (s.setCp0 c).busErr = s.busErr := rfl
@[simp] theorem State.setCp0_busLog (c : Cp0) : (s.setCp0 c).busLog = s.busLog := rfl
@[simp] theorem State.setCp0_events (c : Cp0) : (s.setCp0 c).events = s.events := rfl
@[simp] theorem State.setCp0_irqHeld (c : Cp0) : (s.setCp0 c).irqHeld = s.irqHeld := rfl
@[simp] theorem State.setCp0_stamp (c : Cp0) : (s.setCp0 c).stamp = s.stamp := rfl
@[simp] theorem State.setCp0_taken (c : Cp0) : (s.setCp0 c).taken = s.taken := rfl

/-! ### `setHiLo` -/

@[simp] theorem State.setHiLo_params (h l : Dword) : (s.setHiLo h l).params = s.params := rfl
@[simp] theorem State.setHiLo_gpr (h l : Dword) : (s.setHiLo h l).gpr = s.gpr := rfl
@[simp] theorem State.setHiLo_hi (h l : Dword) : (s.setHiLo h l).hi = h := rfl
@[simp] theorem State.setHiLo_lo (h l : Dword) : (s.setHiLo h l).lo = l := rfl
@[simp] theorem State.setHiLo_pc (h l : Dword) : (s.setHiLo h l).pc = s.pc := rfl
@[simp] theorem State.setHiLo_delay (h l : Dword) : (s.setHiLo h l).delay = s.delay := rfl
@[simp] theorem State.setHiLo_llbit (h l : Dword) : (s.setHiLo h l).llbit = s.llbit := rfl
@[simp] theorem State.setHiLo_fpr (h l : Dword) : (s.setHiLo h l).fpr = s.fpr := rfl
@[simp] theorem State.setHiLo_fcr31 (h l : Dword) : (s.setHiLo h l).fcr31 = s.fcr31 := rfl
@[simp] theorem State.setHiLo_cp0 (h l : Dword) : (s.setHiLo h l).cp0 = s.cp0 := rfl
@[simp] theorem State.setHiLo_tlb (h l : Dword) : (s.setHiLo h l).tlb = s.tlb := rfl
@[simp] theorem State.setHiLo_itlb (h l : Dword) : (s.setHiLo h l).itlb = s.itlb := rfl
@[simp] theorem State.setHiLo_icache (h l : Dword) : (s.setHiLo h l).icache = s.icache := rfl
@[simp] theorem State.setHiLo_dcache (h l : Dword) : (s.setHiLo h l).dcache = s.dcache := rfl
@[simp] theorem State.setHiLo_scache (h l : Dword) : (s.setHiLo h l).scache = s.scache := rfl
@[simp] theorem State.setHiLo_gather (h l : Dword) : (s.setHiLo h l).gather = s.gather := rfl
@[simp] theorem State.setHiLo_windows (h l : Dword) : (s.setHiLo h l).windows = s.windows := rfl
@[simp] theorem State.setHiLo_ddr (h l : Dword) : (s.setHiLo h l).ddr = s.ddr := rfl
@[simp] theorem State.setHiLo_io (h l : Dword) : (s.setHiLo h l).io = s.io := rfl
@[simp] theorem State.setHiLo_pins (h l : Dword) : (s.setHiLo h l).pins = s.pins := rfl
@[simp] theorem State.setHiLo_mem (h l : Dword) : (s.setHiLo h l).mem = s.mem := rfl
@[simp] theorem State.setHiLo_rom (h l : Dword) : (s.setHiLo h l).rom = s.rom := rfl
@[simp] theorem State.setHiLo_busErr (h l : Dword) : (s.setHiLo h l).busErr = s.busErr := rfl
@[simp] theorem State.setHiLo_busLog (h l : Dword) : (s.setHiLo h l).busLog = s.busLog := rfl
@[simp] theorem State.setHiLo_events (h l : Dword) : (s.setHiLo h l).events = s.events := rfl
@[simp] theorem State.setHiLo_irqHeld (h l : Dword) : (s.setHiLo h l).irqHeld = s.irqHeld := rfl
@[simp] theorem State.setHiLo_stamp (h l : Dword) : (s.setHiLo h l).stamp = s.stamp := rfl
@[simp] theorem State.setHiLo_taken (h l : Dword) : (s.setHiLo h l).taken = s.taken := rfl

/-! ### `setFcr31` -/

@[simp] theorem State.setFcr31_params (v : Word) : (s.setFcr31 v).params = s.params := rfl
@[simp] theorem State.setFcr31_gpr (v : Word) : (s.setFcr31 v).gpr = s.gpr := rfl
@[simp] theorem State.setFcr31_hi (v : Word) : (s.setFcr31 v).hi = s.hi := rfl
@[simp] theorem State.setFcr31_lo (v : Word) : (s.setFcr31 v).lo = s.lo := rfl
@[simp] theorem State.setFcr31_pc (v : Word) : (s.setFcr31 v).pc = s.pc := rfl
@[simp] theorem State.setFcr31_delay (v : Word) : (s.setFcr31 v).delay = s.delay := rfl
@[simp] theorem State.setFcr31_llbit (v : Word) : (s.setFcr31 v).llbit = s.llbit := rfl
@[simp] theorem State.setFcr31_fpr (v : Word) : (s.setFcr31 v).fpr = s.fpr := rfl
@[simp] theorem State.setFcr31_fcr31 (v : Word) : (s.setFcr31 v).fcr31 = v := rfl
@[simp] theorem State.setFcr31_cp0 (v : Word) : (s.setFcr31 v).cp0 = s.cp0 := rfl
@[simp] theorem State.setFcr31_tlb (v : Word) : (s.setFcr31 v).tlb = s.tlb := rfl
@[simp] theorem State.setFcr31_itlb (v : Word) : (s.setFcr31 v).itlb = s.itlb := rfl
@[simp] theorem State.setFcr31_icache (v : Word) : (s.setFcr31 v).icache = s.icache := rfl
@[simp] theorem State.setFcr31_dcache (v : Word) : (s.setFcr31 v).dcache = s.dcache := rfl
@[simp] theorem State.setFcr31_scache (v : Word) : (s.setFcr31 v).scache = s.scache := rfl
@[simp] theorem State.setFcr31_gather (v : Word) : (s.setFcr31 v).gather = s.gather := rfl
@[simp] theorem State.setFcr31_windows (v : Word) : (s.setFcr31 v).windows = s.windows := rfl
@[simp] theorem State.setFcr31_ddr (v : Word) : (s.setFcr31 v).ddr = s.ddr := rfl
@[simp] theorem State.setFcr31_io (v : Word) : (s.setFcr31 v).io = s.io := rfl
@[simp] theorem State.setFcr31_pins (v : Word) : (s.setFcr31 v).pins = s.pins := rfl
@[simp] theorem State.setFcr31_mem (v : Word) : (s.setFcr31 v).mem = s.mem := rfl
@[simp] theorem State.setFcr31_rom (v : Word) : (s.setFcr31 v).rom = s.rom := rfl
@[simp] theorem State.setFcr31_busErr (v : Word) : (s.setFcr31 v).busErr = s.busErr := rfl
@[simp] theorem State.setFcr31_busLog (v : Word) : (s.setFcr31 v).busLog = s.busLog := rfl
@[simp] theorem State.setFcr31_events (v : Word) : (s.setFcr31 v).events = s.events := rfl
@[simp] theorem State.setFcr31_irqHeld (v : Word) : (s.setFcr31 v).irqHeld = s.irqHeld := rfl
@[simp] theorem State.setFcr31_stamp (v : Word) : (s.setFcr31 v).stamp = s.stamp := rfl
@[simp] theorem State.setFcr31_taken (v : Word) : (s.setFcr31 v).taken = s.taken := rfl

/-! ### `setLlbit` -/

@[simp] theorem State.setLlbit_params (b : Bool) : (s.setLlbit b).params = s.params := rfl
@[simp] theorem State.setLlbit_gpr (b : Bool) : (s.setLlbit b).gpr = s.gpr := rfl
@[simp] theorem State.setLlbit_hi (b : Bool) : (s.setLlbit b).hi = s.hi := rfl
@[simp] theorem State.setLlbit_lo (b : Bool) : (s.setLlbit b).lo = s.lo := rfl
@[simp] theorem State.setLlbit_pc (b : Bool) : (s.setLlbit b).pc = s.pc := rfl
@[simp] theorem State.setLlbit_delay (b : Bool) : (s.setLlbit b).delay = s.delay := rfl
@[simp] theorem State.setLlbit_llbit (b : Bool) : (s.setLlbit b).llbit = b := rfl
@[simp] theorem State.setLlbit_fpr (b : Bool) : (s.setLlbit b).fpr = s.fpr := rfl
@[simp] theorem State.setLlbit_fcr31 (b : Bool) : (s.setLlbit b).fcr31 = s.fcr31 := rfl
@[simp] theorem State.setLlbit_cp0 (b : Bool) : (s.setLlbit b).cp0 = s.cp0 := rfl
@[simp] theorem State.setLlbit_tlb (b : Bool) : (s.setLlbit b).tlb = s.tlb := rfl
@[simp] theorem State.setLlbit_itlb (b : Bool) : (s.setLlbit b).itlb = s.itlb := rfl
@[simp] theorem State.setLlbit_icache (b : Bool) : (s.setLlbit b).icache = s.icache := rfl
@[simp] theorem State.setLlbit_dcache (b : Bool) : (s.setLlbit b).dcache = s.dcache := rfl
@[simp] theorem State.setLlbit_scache (b : Bool) : (s.setLlbit b).scache = s.scache := rfl
@[simp] theorem State.setLlbit_gather (b : Bool) : (s.setLlbit b).gather = s.gather := rfl
@[simp] theorem State.setLlbit_windows (b : Bool) : (s.setLlbit b).windows = s.windows := rfl
@[simp] theorem State.setLlbit_ddr (b : Bool) : (s.setLlbit b).ddr = s.ddr := rfl
@[simp] theorem State.setLlbit_io (b : Bool) : (s.setLlbit b).io = s.io := rfl
@[simp] theorem State.setLlbit_pins (b : Bool) : (s.setLlbit b).pins = s.pins := rfl
@[simp] theorem State.setLlbit_mem (b : Bool) : (s.setLlbit b).mem = s.mem := rfl
@[simp] theorem State.setLlbit_rom (b : Bool) : (s.setLlbit b).rom = s.rom := rfl
@[simp] theorem State.setLlbit_busErr (b : Bool) : (s.setLlbit b).busErr = s.busErr := rfl
@[simp] theorem State.setLlbit_busLog (b : Bool) : (s.setLlbit b).busLog = s.busLog := rfl
@[simp] theorem State.setLlbit_events (b : Bool) : (s.setLlbit b).events = s.events := rfl
@[simp] theorem State.setLlbit_irqHeld (b : Bool) : (s.setLlbit b).irqHeld = s.irqHeld := rfl
@[simp] theorem State.setLlbit_stamp (b : Bool) : (s.setLlbit b).stamp = s.stamp := rfl
@[simp] theorem State.setLlbit_taken (b : Bool) : (s.setLlbit b).taken = s.taken := rfl

/-! ### `advance` -/

@[simp] theorem State.advance_params : (s.advance).params = s.params := rfl
@[simp] theorem State.advance_gpr : (s.advance).gpr = s.gpr := rfl
@[simp] theorem State.advance_hi : (s.advance).hi = s.hi := rfl
@[simp] theorem State.advance_lo : (s.advance).lo = s.lo := rfl
@[simp] theorem State.advance_pc : (s.advance).pc = s.delay.getD (s.pc + 4) := rfl
@[simp] theorem State.advance_delay : (s.advance).delay = none := rfl
@[simp] theorem State.advance_llbit : (s.advance).llbit = s.llbit := rfl
@[simp] theorem State.advance_fpr : (s.advance).fpr = s.fpr := rfl
@[simp] theorem State.advance_fcr31 : (s.advance).fcr31 = s.fcr31 := rfl
@[simp] theorem State.advance_cp0 : (s.advance).cp0 = s.cp0 := rfl
@[simp] theorem State.advance_tlb : (s.advance).tlb = s.tlb := rfl
@[simp] theorem State.advance_itlb : (s.advance).itlb = s.itlb := rfl
@[simp] theorem State.advance_icache : (s.advance).icache = s.icache := rfl
@[simp] theorem State.advance_dcache : (s.advance).dcache = s.dcache := rfl
@[simp] theorem State.advance_scache : (s.advance).scache = s.scache := rfl
@[simp] theorem State.advance_gather : (s.advance).gather = s.gather := rfl
@[simp] theorem State.advance_windows : (s.advance).windows = s.windows := rfl
@[simp] theorem State.advance_ddr : (s.advance).ddr = s.ddr := rfl
@[simp] theorem State.advance_io : (s.advance).io = s.io := rfl
@[simp] theorem State.advance_pins : (s.advance).pins = s.pins := rfl
@[simp] theorem State.advance_mem : (s.advance).mem = s.mem := rfl
@[simp] theorem State.advance_rom : (s.advance).rom = s.rom := rfl
@[simp] theorem State.advance_busErr : (s.advance).busErr = s.busErr := rfl
@[simp] theorem State.advance_busLog : (s.advance).busLog = s.busLog := rfl
@[simp] theorem State.advance_events : (s.advance).events = s.events := rfl
@[simp] theorem State.advance_irqHeld : (s.advance).irqHeld = s.irqHeld := rfl
@[simp] theorem State.advance_stamp : (s.advance).stamp = s.stamp := rfl
@[simp] theorem State.advance_taken : (s.advance).taken = s.taken := rfl

/-! ### `branchTo` -/

@[simp] theorem State.branchTo_params (a : Dword) : (s.branchTo a).params = s.params := rfl
@[simp] theorem State.branchTo_gpr (a : Dword) : (s.branchTo a).gpr = s.gpr := rfl
@[simp] theorem State.branchTo_hi (a : Dword) : (s.branchTo a).hi = s.hi := rfl
@[simp] theorem State.branchTo_lo (a : Dword) : (s.branchTo a).lo = s.lo := rfl
@[simp] theorem State.branchTo_pc (a : Dword) : (s.branchTo a).pc = s.pc + 4 := rfl
@[simp] theorem State.branchTo_delay (a : Dword) : (s.branchTo a).delay = some a := rfl
@[simp] theorem State.branchTo_llbit (a : Dword) : (s.branchTo a).llbit = s.llbit := rfl
@[simp] theorem State.branchTo_fpr (a : Dword) : (s.branchTo a).fpr = s.fpr := rfl
@[simp] theorem State.branchTo_fcr31 (a : Dword) : (s.branchTo a).fcr31 = s.fcr31 := rfl
@[simp] theorem State.branchTo_cp0 (a : Dword) : (s.branchTo a).cp0 = s.cp0 := rfl
@[simp] theorem State.branchTo_tlb (a : Dword) : (s.branchTo a).tlb = s.tlb := rfl
@[simp] theorem State.branchTo_itlb (a : Dword) : (s.branchTo a).itlb = s.itlb := rfl
@[simp] theorem State.branchTo_icache (a : Dword) : (s.branchTo a).icache = s.icache := rfl
@[simp] theorem State.branchTo_dcache (a : Dword) : (s.branchTo a).dcache = s.dcache := rfl
@[simp] theorem State.branchTo_scache (a : Dword) : (s.branchTo a).scache = s.scache := rfl
@[simp] theorem State.branchTo_gather (a : Dword) : (s.branchTo a).gather = s.gather := rfl
@[simp] theorem State.branchTo_windows (a : Dword) : (s.branchTo a).windows = s.windows := rfl
@[simp] theorem State.branchTo_ddr (a : Dword) : (s.branchTo a).ddr = s.ddr := rfl
@[simp] theorem State.branchTo_io (a : Dword) : (s.branchTo a).io = s.io := rfl
@[simp] theorem State.branchTo_pins (a : Dword) : (s.branchTo a).pins = s.pins := rfl
@[simp] theorem State.branchTo_mem (a : Dword) : (s.branchTo a).mem = s.mem := rfl
@[simp] theorem State.branchTo_rom (a : Dword) : (s.branchTo a).rom = s.rom := rfl
@[simp] theorem State.branchTo_busErr (a : Dword) : (s.branchTo a).busErr = s.busErr := rfl
@[simp] theorem State.branchTo_busLog (a : Dword) : (s.branchTo a).busLog = s.busLog := rfl
@[simp] theorem State.branchTo_events (a : Dword) : (s.branchTo a).events = s.events := rfl
@[simp] theorem State.branchTo_irqHeld (a : Dword) : (s.branchTo a).irqHeld = s.irqHeld := rfl
@[simp] theorem State.branchTo_stamp (a : Dword) : (s.branchTo a).stamp = s.stamp := rfl
@[simp] theorem State.branchTo_taken (a : Dword) : (s.branchTo a).taken = s.taken := rfl

/-! ### `branchNotTaken` -/

@[simp] theorem State.branchNotTaken_params : (s.branchNotTaken).params = s.params := rfl
@[simp] theorem State.branchNotTaken_gpr : (s.branchNotTaken).gpr = s.gpr := rfl
@[simp] theorem State.branchNotTaken_hi : (s.branchNotTaken).hi = s.hi := rfl
@[simp] theorem State.branchNotTaken_lo : (s.branchNotTaken).lo = s.lo := rfl
@[simp] theorem State.branchNotTaken_pc : (s.branchNotTaken).pc = s.pc + 4 := rfl
@[simp] theorem State.branchNotTaken_delay : (s.branchNotTaken).delay = some (s.pc + 8) := rfl
@[simp] theorem State.branchNotTaken_llbit : (s.branchNotTaken).llbit = s.llbit := rfl
@[simp] theorem State.branchNotTaken_fpr : (s.branchNotTaken).fpr = s.fpr := rfl
@[simp] theorem State.branchNotTaken_fcr31 : (s.branchNotTaken).fcr31 = s.fcr31 := rfl
@[simp] theorem State.branchNotTaken_cp0 : (s.branchNotTaken).cp0 = s.cp0 := rfl
@[simp] theorem State.branchNotTaken_tlb : (s.branchNotTaken).tlb = s.tlb := rfl
@[simp] theorem State.branchNotTaken_itlb : (s.branchNotTaken).itlb = s.itlb := rfl
@[simp] theorem State.branchNotTaken_icache : (s.branchNotTaken).icache = s.icache := rfl
@[simp] theorem State.branchNotTaken_dcache : (s.branchNotTaken).dcache = s.dcache := rfl
@[simp] theorem State.branchNotTaken_scache : (s.branchNotTaken).scache = s.scache := rfl
@[simp] theorem State.branchNotTaken_gather : (s.branchNotTaken).gather = s.gather := rfl
@[simp] theorem State.branchNotTaken_windows : (s.branchNotTaken).windows = s.windows := rfl
@[simp] theorem State.branchNotTaken_ddr : (s.branchNotTaken).ddr = s.ddr := rfl
@[simp] theorem State.branchNotTaken_io : (s.branchNotTaken).io = s.io := rfl
@[simp] theorem State.branchNotTaken_pins : (s.branchNotTaken).pins = s.pins := rfl
@[simp] theorem State.branchNotTaken_mem : (s.branchNotTaken).mem = s.mem := rfl
@[simp] theorem State.branchNotTaken_rom : (s.branchNotTaken).rom = s.rom := rfl
@[simp] theorem State.branchNotTaken_busErr : (s.branchNotTaken).busErr = s.busErr := rfl
@[simp] theorem State.branchNotTaken_busLog : (s.branchNotTaken).busLog = s.busLog := rfl
@[simp] theorem State.branchNotTaken_events : (s.branchNotTaken).events = s.events := rfl
@[simp] theorem State.branchNotTaken_irqHeld : (s.branchNotTaken).irqHeld = s.irqHeld := rfl
@[simp] theorem State.branchNotTaken_stamp : (s.branchNotTaken).stamp = s.stamp := rfl
@[simp] theorem State.branchNotTaken_taken : (s.branchNotTaken).taken = s.taken := rfl

/-! ### `skipDelaySlot` -/

@[simp] theorem State.skipDelaySlot_params : (s.skipDelaySlot).params = s.params := rfl
@[simp] theorem State.skipDelaySlot_gpr : (s.skipDelaySlot).gpr = s.gpr := rfl
@[simp] theorem State.skipDelaySlot_hi : (s.skipDelaySlot).hi = s.hi := rfl
@[simp] theorem State.skipDelaySlot_lo : (s.skipDelaySlot).lo = s.lo := rfl
@[simp] theorem State.skipDelaySlot_pc : (s.skipDelaySlot).pc = s.pc + 8 := rfl
@[simp] theorem State.skipDelaySlot_delay : (s.skipDelaySlot).delay = none := rfl
@[simp] theorem State.skipDelaySlot_llbit : (s.skipDelaySlot).llbit = s.llbit := rfl
@[simp] theorem State.skipDelaySlot_fpr : (s.skipDelaySlot).fpr = s.fpr := rfl
@[simp] theorem State.skipDelaySlot_fcr31 : (s.skipDelaySlot).fcr31 = s.fcr31 := rfl
@[simp] theorem State.skipDelaySlot_cp0 : (s.skipDelaySlot).cp0 = s.cp0 := rfl
@[simp] theorem State.skipDelaySlot_tlb : (s.skipDelaySlot).tlb = s.tlb := rfl
@[simp] theorem State.skipDelaySlot_itlb : (s.skipDelaySlot).itlb = s.itlb := rfl
@[simp] theorem State.skipDelaySlot_icache : (s.skipDelaySlot).icache = s.icache := rfl
@[simp] theorem State.skipDelaySlot_dcache : (s.skipDelaySlot).dcache = s.dcache := rfl
@[simp] theorem State.skipDelaySlot_scache : (s.skipDelaySlot).scache = s.scache := rfl
@[simp] theorem State.skipDelaySlot_gather : (s.skipDelaySlot).gather = s.gather := rfl
@[simp] theorem State.skipDelaySlot_windows : (s.skipDelaySlot).windows = s.windows := rfl
@[simp] theorem State.skipDelaySlot_ddr : (s.skipDelaySlot).ddr = s.ddr := rfl
@[simp] theorem State.skipDelaySlot_io : (s.skipDelaySlot).io = s.io := rfl
@[simp] theorem State.skipDelaySlot_pins : (s.skipDelaySlot).pins = s.pins := rfl
@[simp] theorem State.skipDelaySlot_mem : (s.skipDelaySlot).mem = s.mem := rfl
@[simp] theorem State.skipDelaySlot_rom : (s.skipDelaySlot).rom = s.rom := rfl
@[simp] theorem State.skipDelaySlot_busErr : (s.skipDelaySlot).busErr = s.busErr := rfl
@[simp] theorem State.skipDelaySlot_busLog : (s.skipDelaySlot).busLog = s.busLog := rfl
@[simp] theorem State.skipDelaySlot_events : (s.skipDelaySlot).events = s.events := rfl
@[simp] theorem State.skipDelaySlot_irqHeld : (s.skipDelaySlot).irqHeld = s.irqHeld := rfl
@[simp] theorem State.skipDelaySlot_stamp : (s.skipDelaySlot).stamp = s.stamp := rfl
@[simp] theorem State.skipDelaySlot_taken : (s.skipDelaySlot).taken = s.taken := rfl

/-! ### `setFpr` -/

@[simp] theorem State.setFpr_params (n : Reg) (f : Fpr) : (s.setFpr n f).params = s.params := rfl
@[simp] theorem State.setFpr_gpr (n : Reg) (f : Fpr) : (s.setFpr n f).gpr = s.gpr := rfl
@[simp] theorem State.setFpr_hi (n : Reg) (f : Fpr) : (s.setFpr n f).hi = s.hi := rfl
@[simp] theorem State.setFpr_lo (n : Reg) (f : Fpr) : (s.setFpr n f).lo = s.lo := rfl
@[simp] theorem State.setFpr_pc (n : Reg) (f : Fpr) : (s.setFpr n f).pc = s.pc := rfl
@[simp] theorem State.setFpr_delay (n : Reg) (f : Fpr) : (s.setFpr n f).delay = s.delay := rfl
@[simp] theorem State.setFpr_llbit (n : Reg) (f : Fpr) : (s.setFpr n f).llbit = s.llbit := rfl
@[simp] theorem State.setFpr_fpr (n : Reg) (f : Fpr) : (s.setFpr n f).fpr = s.fpr.set n.toNat f := rfl
@[simp] theorem State.setFpr_fcr31 (n : Reg) (f : Fpr) : (s.setFpr n f).fcr31 = s.fcr31 := rfl
@[simp] theorem State.setFpr_cp0 (n : Reg) (f : Fpr) : (s.setFpr n f).cp0 = s.cp0 := rfl
@[simp] theorem State.setFpr_tlb (n : Reg) (f : Fpr) : (s.setFpr n f).tlb = s.tlb := rfl
@[simp] theorem State.setFpr_itlb (n : Reg) (f : Fpr) : (s.setFpr n f).itlb = s.itlb := rfl
@[simp] theorem State.setFpr_icache (n : Reg) (f : Fpr) : (s.setFpr n f).icache = s.icache := rfl
@[simp] theorem State.setFpr_dcache (n : Reg) (f : Fpr) : (s.setFpr n f).dcache = s.dcache := rfl
@[simp] theorem State.setFpr_scache (n : Reg) (f : Fpr) : (s.setFpr n f).scache = s.scache := rfl
@[simp] theorem State.setFpr_gather (n : Reg) (f : Fpr) : (s.setFpr n f).gather = s.gather := rfl
@[simp] theorem State.setFpr_windows (n : Reg) (f : Fpr) : (s.setFpr n f).windows = s.windows := rfl
@[simp] theorem State.setFpr_ddr (n : Reg) (f : Fpr) : (s.setFpr n f).ddr = s.ddr := rfl
@[simp] theorem State.setFpr_io (n : Reg) (f : Fpr) : (s.setFpr n f).io = s.io := rfl
@[simp] theorem State.setFpr_pins (n : Reg) (f : Fpr) : (s.setFpr n f).pins = s.pins := rfl
@[simp] theorem State.setFpr_mem (n : Reg) (f : Fpr) : (s.setFpr n f).mem = s.mem := rfl
@[simp] theorem State.setFpr_rom (n : Reg) (f : Fpr) : (s.setFpr n f).rom = s.rom := rfl
@[simp] theorem State.setFpr_busErr (n : Reg) (f : Fpr) : (s.setFpr n f).busErr = s.busErr := rfl
@[simp] theorem State.setFpr_busLog (n : Reg) (f : Fpr) : (s.setFpr n f).busLog = s.busLog := rfl
@[simp] theorem State.setFpr_events (n : Reg) (f : Fpr) : (s.setFpr n f).events = s.events := rfl
@[simp] theorem State.setFpr_irqHeld (n : Reg) (f : Fpr) : (s.setFpr n f).irqHeld = s.irqHeld := rfl
@[simp] theorem State.setFpr_stamp (n : Reg) (f : Fpr) : (s.setFpr n f).stamp = s.stamp := rfl
@[simp] theorem State.setFpr_taken (n : Reg) (f : Fpr) : (s.setFpr n f).taken = s.taken := rfl

/-! ### `setReg` -/

@[simp] theorem State.setReg_params (n : Fin 64) (v : Word) : (s.setReg n v).params = s.params := rfl
@[simp] theorem State.setReg_gpr (n : Fin 64) (v : Word) : (s.setReg n v).gpr = s.gpr := rfl
@[simp] theorem State.setReg_hi (n : Fin 64) (v : Word) : (s.setReg n v).hi = s.hi := rfl
@[simp] theorem State.setReg_lo (n : Fin 64) (v : Word) : (s.setReg n v).lo = s.lo := rfl
@[simp] theorem State.setReg_pc (n : Fin 64) (v : Word) : (s.setReg n v).pc = s.pc := rfl
@[simp] theorem State.setReg_delay (n : Fin 64) (v : Word) : (s.setReg n v).delay = s.delay := rfl
@[simp] theorem State.setReg_llbit (n : Fin 64) (v : Word) : (s.setReg n v).llbit = s.llbit := rfl
@[simp] theorem State.setReg_fpr (n : Fin 64) (v : Word) : (s.setReg n v).fpr = s.fpr := rfl
@[simp] theorem State.setReg_fcr31 (n : Fin 64) (v : Word) : (s.setReg n v).fcr31 = s.fcr31 := rfl
@[simp] theorem State.setReg_cp0 (n : Fin 64) (v : Word) : (s.setReg n v).cp0 = s.cp0 := rfl
@[simp] theorem State.setReg_tlb (n : Fin 64) (v : Word) : (s.setReg n v).tlb = s.tlb := rfl
@[simp] theorem State.setReg_itlb (n : Fin 64) (v : Word) : (s.setReg n v).itlb = s.itlb := rfl
@[simp] theorem State.setReg_icache (n : Fin 64) (v : Word) : (s.setReg n v).icache = s.icache := rfl
@[simp] theorem State.setReg_dcache (n : Fin 64) (v : Word) : (s.setReg n v).dcache = s.dcache := rfl
@[simp] theorem State.setReg_scache (n : Fin 64) (v : Word) : (s.setReg n v).scache = s.scache := rfl
@[simp] theorem State.setReg_gather (n : Fin 64) (v : Word) : (s.setReg n v).gather = s.gather := rfl
@[simp] theorem State.setReg_windows (n : Fin 64) (v : Word) : (s.setReg n v).windows = s.windows := rfl
@[simp] theorem State.setReg_ddr (n : Fin 64) (v : Word) : (s.setReg n v).ddr = s.ddr := rfl
@[simp] theorem State.setReg_io (n : Fin 64) (v : Word) : (s.setReg n v).io = { s.io with regs := s.io.regs.set n v } := rfl
@[simp] theorem State.setReg_pins (n : Fin 64) (v : Word) : (s.setReg n v).pins = s.pins := rfl
@[simp] theorem State.setReg_mem (n : Fin 64) (v : Word) : (s.setReg n v).mem = s.mem := rfl
@[simp] theorem State.setReg_rom (n : Fin 64) (v : Word) : (s.setReg n v).rom = s.rom := rfl
@[simp] theorem State.setReg_busErr (n : Fin 64) (v : Word) : (s.setReg n v).busErr = s.busErr := rfl
@[simp] theorem State.setReg_busLog (n : Fin 64) (v : Word) : (s.setReg n v).busLog = s.busLog := rfl
@[simp] theorem State.setReg_events (n : Fin 64) (v : Word) : (s.setReg n v).events = s.events := rfl
@[simp] theorem State.setReg_irqHeld (n : Fin 64) (v : Word) : (s.setReg n v).irqHeld = s.irqHeld := rfl
@[simp] theorem State.setReg_stamp (n : Fin 64) (v : Word) : (s.setReg n v).stamp = s.stamp := rfl
@[simp] theorem State.setReg_taken (n : Fin 64) (v : Word) : (s.setReg n v).taken = s.taken := rfl

/-! ### `setHeader` -/

@[simp] theorem State.setHeader_params (n : Fin 64) (v : Word) : (s.setHeader n v).params = s.params := rfl
@[simp] theorem State.setHeader_gpr (n : Fin 64) (v : Word) : (s.setHeader n v).gpr = s.gpr := rfl
@[simp] theorem State.setHeader_hi (n : Fin 64) (v : Word) : (s.setHeader n v).hi = s.hi := rfl
@[simp] theorem State.setHeader_lo (n : Fin 64) (v : Word) : (s.setHeader n v).lo = s.lo := rfl
@[simp] theorem State.setHeader_pc (n : Fin 64) (v : Word) : (s.setHeader n v).pc = s.pc := rfl
@[simp] theorem State.setHeader_delay (n : Fin 64) (v : Word) : (s.setHeader n v).delay = s.delay := rfl
@[simp] theorem State.setHeader_llbit (n : Fin 64) (v : Word) : (s.setHeader n v).llbit = s.llbit := rfl
@[simp] theorem State.setHeader_fpr (n : Fin 64) (v : Word) : (s.setHeader n v).fpr = s.fpr := rfl
@[simp] theorem State.setHeader_fcr31 (n : Fin 64) (v : Word) : (s.setHeader n v).fcr31 = s.fcr31 := rfl
@[simp] theorem State.setHeader_cp0 (n : Fin 64) (v : Word) : (s.setHeader n v).cp0 = s.cp0 := rfl
@[simp] theorem State.setHeader_tlb (n : Fin 64) (v : Word) : (s.setHeader n v).tlb = s.tlb := rfl
@[simp] theorem State.setHeader_itlb (n : Fin 64) (v : Word) : (s.setHeader n v).itlb = s.itlb := rfl
@[simp] theorem State.setHeader_icache (n : Fin 64) (v : Word) : (s.setHeader n v).icache = s.icache := rfl
@[simp] theorem State.setHeader_dcache (n : Fin 64) (v : Word) : (s.setHeader n v).dcache = s.dcache := rfl
@[simp] theorem State.setHeader_scache (n : Fin 64) (v : Word) : (s.setHeader n v).scache = s.scache := rfl
@[simp] theorem State.setHeader_gather (n : Fin 64) (v : Word) : (s.setHeader n v).gather = s.gather := rfl
@[simp] theorem State.setHeader_windows (n : Fin 64) (v : Word) : (s.setHeader n v).windows = s.windows := rfl
@[simp] theorem State.setHeader_ddr (n : Fin 64) (v : Word) : (s.setHeader n v).ddr = s.ddr := rfl
@[simp] theorem State.setHeader_io (n : Fin 64) (v : Word) : (s.setHeader n v).io = { s.io with header := s.io.header.set n v } := rfl
@[simp] theorem State.setHeader_pins (n : Fin 64) (v : Word) : (s.setHeader n v).pins = s.pins := rfl
@[simp] theorem State.setHeader_mem (n : Fin 64) (v : Word) : (s.setHeader n v).mem = s.mem := rfl
@[simp] theorem State.setHeader_rom (n : Fin 64) (v : Word) : (s.setHeader n v).rom = s.rom := rfl
@[simp] theorem State.setHeader_busErr (n : Fin 64) (v : Word) : (s.setHeader n v).busErr = s.busErr := rfl
@[simp] theorem State.setHeader_busLog (n : Fin 64) (v : Word) : (s.setHeader n v).busLog = s.busLog := rfl
@[simp] theorem State.setHeader_events (n : Fin 64) (v : Word) : (s.setHeader n v).events = s.events := rfl
@[simp] theorem State.setHeader_irqHeld (n : Fin 64) (v : Word) : (s.setHeader n v).irqHeld = s.irqHeld := rfl
@[simp] theorem State.setHeader_stamp (n : Fin 64) (v : Word) : (s.setHeader n v).stamp = s.stamp := rfl
@[simp] theorem State.setHeader_taken (n : Fin 64) (v : Word) : (s.setHeader n v).taken = s.taken := rfl

/-! ### `log` -/

@[simp] theorem State.log_params (r : BusRequest) : (s.log r).params = s.params := rfl
@[simp] theorem State.log_gpr (r : BusRequest) : (s.log r).gpr = s.gpr := rfl
@[simp] theorem State.log_hi (r : BusRequest) : (s.log r).hi = s.hi := rfl
@[simp] theorem State.log_lo (r : BusRequest) : (s.log r).lo = s.lo := rfl
@[simp] theorem State.log_pc (r : BusRequest) : (s.log r).pc = s.pc := rfl
@[simp] theorem State.log_delay (r : BusRequest) : (s.log r).delay = s.delay := rfl
@[simp] theorem State.log_llbit (r : BusRequest) : (s.log r).llbit = s.llbit := rfl
@[simp] theorem State.log_fpr (r : BusRequest) : (s.log r).fpr = s.fpr := rfl
@[simp] theorem State.log_fcr31 (r : BusRequest) : (s.log r).fcr31 = s.fcr31 := rfl
@[simp] theorem State.log_cp0 (r : BusRequest) : (s.log r).cp0 = s.cp0 := rfl
@[simp] theorem State.log_tlb (r : BusRequest) : (s.log r).tlb = s.tlb := rfl
@[simp] theorem State.log_itlb (r : BusRequest) : (s.log r).itlb = s.itlb := rfl
@[simp] theorem State.log_icache (r : BusRequest) : (s.log r).icache = s.icache := rfl
@[simp] theorem State.log_dcache (r : BusRequest) : (s.log r).dcache = s.dcache := rfl
@[simp] theorem State.log_scache (r : BusRequest) : (s.log r).scache = s.scache := rfl
@[simp] theorem State.log_gather (r : BusRequest) : (s.log r).gather = s.gather := rfl
@[simp] theorem State.log_windows (r : BusRequest) : (s.log r).windows = s.windows := rfl
@[simp] theorem State.log_ddr (r : BusRequest) : (s.log r).ddr = s.ddr := rfl
@[simp] theorem State.log_io (r : BusRequest) : (s.log r).io = s.io := rfl
@[simp] theorem State.log_pins (r : BusRequest) : (s.log r).pins = s.pins := rfl
@[simp] theorem State.log_mem (r : BusRequest) : (s.log r).mem = s.mem := rfl
@[simp] theorem State.log_rom (r : BusRequest) : (s.log r).rom = s.rom := rfl
@[simp] theorem State.log_busErr (r : BusRequest) : (s.log r).busErr = s.busErr := rfl
@[simp] theorem State.log_busLog (r : BusRequest) : (s.log r).busLog = r :: s.busLog := rfl
@[simp] theorem State.log_events (r : BusRequest) : (s.log r).events = s.events := rfl
@[simp] theorem State.log_irqHeld (r : BusRequest) : (s.log r).irqHeld = s.irqHeld := rfl
@[simp] theorem State.log_stamp (r : BusRequest) : (s.log r).stamp = s.stamp := rfl
@[simp] theorem State.log_taken (r : BusRequest) : (s.log r).taken = s.taken := rfl

/-! ### `setDdrCtl` -/

@[simp] theorem State.setDdrCtl_params (n : Fin 29) (v : Dword) : (s.setDdrCtl n v).params = s.params := rfl
@[simp] theorem State.setDdrCtl_gpr (n : Fin 29) (v : Dword) : (s.setDdrCtl n v).gpr = s.gpr := rfl
@[simp] theorem State.setDdrCtl_hi (n : Fin 29) (v : Dword) : (s.setDdrCtl n v).hi = s.hi := rfl
@[simp] theorem State.setDdrCtl_lo (n : Fin 29) (v : Dword) : (s.setDdrCtl n v).lo = s.lo := rfl
@[simp] theorem State.setDdrCtl_pc (n : Fin 29) (v : Dword) : (s.setDdrCtl n v).pc = s.pc := rfl
@[simp] theorem State.setDdrCtl_delay (n : Fin 29) (v : Dword) : (s.setDdrCtl n v).delay = s.delay := rfl
@[simp] theorem State.setDdrCtl_llbit (n : Fin 29) (v : Dword) : (s.setDdrCtl n v).llbit = s.llbit := rfl
@[simp] theorem State.setDdrCtl_fpr (n : Fin 29) (v : Dword) : (s.setDdrCtl n v).fpr = s.fpr := rfl
@[simp] theorem State.setDdrCtl_fcr31 (n : Fin 29) (v : Dword) : (s.setDdrCtl n v).fcr31 = s.fcr31 := rfl
@[simp] theorem State.setDdrCtl_cp0 (n : Fin 29) (v : Dword) : (s.setDdrCtl n v).cp0 = s.cp0 := rfl
@[simp] theorem State.setDdrCtl_tlb (n : Fin 29) (v : Dword) : (s.setDdrCtl n v).tlb = s.tlb := rfl
@[simp] theorem State.setDdrCtl_itlb (n : Fin 29) (v : Dword) : (s.setDdrCtl n v).itlb = s.itlb := rfl
@[simp] theorem State.setDdrCtl_icache (n : Fin 29) (v : Dword) : (s.setDdrCtl n v).icache = s.icache := rfl
@[simp] theorem State.setDdrCtl_dcache (n : Fin 29) (v : Dword) : (s.setDdrCtl n v).dcache = s.dcache := rfl
@[simp] theorem State.setDdrCtl_scache (n : Fin 29) (v : Dword) : (s.setDdrCtl n v).scache = s.scache := rfl
@[simp] theorem State.setDdrCtl_gather (n : Fin 29) (v : Dword) : (s.setDdrCtl n v).gather = s.gather := rfl
@[simp] theorem State.setDdrCtl_windows (n : Fin 29) (v : Dword) : (s.setDdrCtl n v).windows = s.windows := rfl
@[simp] theorem State.setDdrCtl_ddr (n : Fin 29) (v : Dword) : (s.setDdrCtl n v).ddr = { s.ddr with ctl := s.ddr.ctl.set n v } := rfl
@[simp] theorem State.setDdrCtl_io (n : Fin 29) (v : Dword) : (s.setDdrCtl n v).io = s.io := rfl
@[simp] theorem State.setDdrCtl_pins (n : Fin 29) (v : Dword) : (s.setDdrCtl n v).pins = s.pins := rfl
@[simp] theorem State.setDdrCtl_mem (n : Fin 29) (v : Dword) : (s.setDdrCtl n v).mem = s.mem := rfl
@[simp] theorem State.setDdrCtl_rom (n : Fin 29) (v : Dword) : (s.setDdrCtl n v).rom = s.rom := rfl
@[simp] theorem State.setDdrCtl_busErr (n : Fin 29) (v : Dword) : (s.setDdrCtl n v).busErr = s.busErr := rfl
@[simp] theorem State.setDdrCtl_busLog (n : Fin 29) (v : Dword) : (s.setDdrCtl n v).busLog = s.busLog := rfl
@[simp] theorem State.setDdrCtl_events (n : Fin 29) (v : Dword) : (s.setDdrCtl n v).events = s.events := rfl
@[simp] theorem State.setDdrCtl_irqHeld (n : Fin 29) (v : Dword) : (s.setDdrCtl n v).irqHeld = s.irqHeld := rfl
@[simp] theorem State.setDdrCtl_stamp (n : Fin 29) (v : Dword) : (s.setDdrCtl n v).stamp = s.stamp := rfl
@[simp] theorem State.setDdrCtl_taken (n : Fin 29) (v : Dword) : (s.setDdrCtl n v).taken = s.taken := rfl

/-! ### `setILine` -/

@[simp] theorem State.setILine_params (k : Nat) (l : ILine) : (s.setILine k l).params = s.params := rfl
@[simp] theorem State.setILine_gpr (k : Nat) (l : ILine) : (s.setILine k l).gpr = s.gpr := rfl
@[simp] theorem State.setILine_hi (k : Nat) (l : ILine) : (s.setILine k l).hi = s.hi := rfl
@[simp] theorem State.setILine_lo (k : Nat) (l : ILine) : (s.setILine k l).lo = s.lo := rfl
@[simp] theorem State.setILine_pc (k : Nat) (l : ILine) : (s.setILine k l).pc = s.pc := rfl
@[simp] theorem State.setILine_delay (k : Nat) (l : ILine) : (s.setILine k l).delay = s.delay := rfl
@[simp] theorem State.setILine_llbit (k : Nat) (l : ILine) : (s.setILine k l).llbit = s.llbit := rfl
@[simp] theorem State.setILine_fpr (k : Nat) (l : ILine) : (s.setILine k l).fpr = s.fpr := rfl
@[simp] theorem State.setILine_fcr31 (k : Nat) (l : ILine) : (s.setILine k l).fcr31 = s.fcr31 := rfl
@[simp] theorem State.setILine_cp0 (k : Nat) (l : ILine) : (s.setILine k l).cp0 = s.cp0 := rfl
@[simp] theorem State.setILine_tlb (k : Nat) (l : ILine) : (s.setILine k l).tlb = s.tlb := rfl
@[simp] theorem State.setILine_itlb (k : Nat) (l : ILine) : (s.setILine k l).itlb = s.itlb := rfl
@[simp] theorem State.setILine_icache (k : Nat) (l : ILine) : (s.setILine k l).icache = cellSet ILine.empty s.icache k l := rfl
@[simp] theorem State.setILine_dcache (k : Nat) (l : ILine) : (s.setILine k l).dcache = s.dcache := rfl
@[simp] theorem State.setILine_scache (k : Nat) (l : ILine) : (s.setILine k l).scache = s.scache := rfl
@[simp] theorem State.setILine_gather (k : Nat) (l : ILine) : (s.setILine k l).gather = s.gather := rfl
@[simp] theorem State.setILine_windows (k : Nat) (l : ILine) : (s.setILine k l).windows = s.windows := rfl
@[simp] theorem State.setILine_ddr (k : Nat) (l : ILine) : (s.setILine k l).ddr = s.ddr := rfl
@[simp] theorem State.setILine_io (k : Nat) (l : ILine) : (s.setILine k l).io = s.io := rfl
@[simp] theorem State.setILine_pins (k : Nat) (l : ILine) : (s.setILine k l).pins = s.pins := rfl
@[simp] theorem State.setILine_mem (k : Nat) (l : ILine) : (s.setILine k l).mem = s.mem := rfl
@[simp] theorem State.setILine_rom (k : Nat) (l : ILine) : (s.setILine k l).rom = s.rom := rfl
@[simp] theorem State.setILine_busErr (k : Nat) (l : ILine) : (s.setILine k l).busErr = s.busErr := rfl
@[simp] theorem State.setILine_busLog (k : Nat) (l : ILine) : (s.setILine k l).busLog = s.busLog := rfl
@[simp] theorem State.setILine_events (k : Nat) (l : ILine) : (s.setILine k l).events = s.events := rfl
@[simp] theorem State.setILine_irqHeld (k : Nat) (l : ILine) : (s.setILine k l).irqHeld = s.irqHeld := rfl
@[simp] theorem State.setILine_stamp (k : Nat) (l : ILine) : (s.setILine k l).stamp = s.stamp := rfl
@[simp] theorem State.setILine_taken (k : Nat) (l : ILine) : (s.setILine k l).taken = s.taken := rfl

/-! ### `setDLine` -/

@[simp] theorem State.setDLine_params (k : Nat) (l : DLine) : (s.setDLine k l).params = s.params := rfl
@[simp] theorem State.setDLine_gpr (k : Nat) (l : DLine) : (s.setDLine k l).gpr = s.gpr := rfl
@[simp] theorem State.setDLine_hi (k : Nat) (l : DLine) : (s.setDLine k l).hi = s.hi := rfl
@[simp] theorem State.setDLine_lo (k : Nat) (l : DLine) : (s.setDLine k l).lo = s.lo := rfl
@[simp] theorem State.setDLine_pc (k : Nat) (l : DLine) : (s.setDLine k l).pc = s.pc := rfl
@[simp] theorem State.setDLine_delay (k : Nat) (l : DLine) : (s.setDLine k l).delay = s.delay := rfl
@[simp] theorem State.setDLine_llbit (k : Nat) (l : DLine) : (s.setDLine k l).llbit = s.llbit := rfl
@[simp] theorem State.setDLine_fpr (k : Nat) (l : DLine) : (s.setDLine k l).fpr = s.fpr := rfl
@[simp] theorem State.setDLine_fcr31 (k : Nat) (l : DLine) : (s.setDLine k l).fcr31 = s.fcr31 := rfl
@[simp] theorem State.setDLine_cp0 (k : Nat) (l : DLine) : (s.setDLine k l).cp0 = s.cp0 := rfl
@[simp] theorem State.setDLine_tlb (k : Nat) (l : DLine) : (s.setDLine k l).tlb = s.tlb := rfl
@[simp] theorem State.setDLine_itlb (k : Nat) (l : DLine) : (s.setDLine k l).itlb = s.itlb := rfl
@[simp] theorem State.setDLine_icache (k : Nat) (l : DLine) : (s.setDLine k l).icache = s.icache := rfl
@[simp] theorem State.setDLine_dcache (k : Nat) (l : DLine) : (s.setDLine k l).dcache = cellSet DLine.empty s.dcache k l := rfl
@[simp] theorem State.setDLine_scache (k : Nat) (l : DLine) : (s.setDLine k l).scache = s.scache := rfl
@[simp] theorem State.setDLine_gather (k : Nat) (l : DLine) : (s.setDLine k l).gather = s.gather := rfl
@[simp] theorem State.setDLine_windows (k : Nat) (l : DLine) : (s.setDLine k l).windows = s.windows := rfl
@[simp] theorem State.setDLine_ddr (k : Nat) (l : DLine) : (s.setDLine k l).ddr = s.ddr := rfl
@[simp] theorem State.setDLine_io (k : Nat) (l : DLine) : (s.setDLine k l).io = s.io := rfl
@[simp] theorem State.setDLine_pins (k : Nat) (l : DLine) : (s.setDLine k l).pins = s.pins := rfl
@[simp] theorem State.setDLine_mem (k : Nat) (l : DLine) : (s.setDLine k l).mem = s.mem := rfl
@[simp] theorem State.setDLine_rom (k : Nat) (l : DLine) : (s.setDLine k l).rom = s.rom := rfl
@[simp] theorem State.setDLine_busErr (k : Nat) (l : DLine) : (s.setDLine k l).busErr = s.busErr := rfl
@[simp] theorem State.setDLine_busLog (k : Nat) (l : DLine) : (s.setDLine k l).busLog = s.busLog := rfl
@[simp] theorem State.setDLine_events (k : Nat) (l : DLine) : (s.setDLine k l).events = s.events := rfl
@[simp] theorem State.setDLine_irqHeld (k : Nat) (l : DLine) : (s.setDLine k l).irqHeld = s.irqHeld := rfl
@[simp] theorem State.setDLine_stamp (k : Nat) (l : DLine) : (s.setDLine k l).stamp = s.stamp := rfl
@[simp] theorem State.setDLine_taken (k : Nat) (l : DLine) : (s.setDLine k l).taken = s.taken := rfl

/-! ### `setSLine` -/

@[simp] theorem State.setSLine_params (k : Nat) (l : SLine) : (s.setSLine k l).params = s.params := rfl
@[simp] theorem State.setSLine_gpr (k : Nat) (l : SLine) : (s.setSLine k l).gpr = s.gpr := rfl
@[simp] theorem State.setSLine_hi (k : Nat) (l : SLine) : (s.setSLine k l).hi = s.hi := rfl
@[simp] theorem State.setSLine_lo (k : Nat) (l : SLine) : (s.setSLine k l).lo = s.lo := rfl
@[simp] theorem State.setSLine_pc (k : Nat) (l : SLine) : (s.setSLine k l).pc = s.pc := rfl
@[simp] theorem State.setSLine_delay (k : Nat) (l : SLine) : (s.setSLine k l).delay = s.delay := rfl
@[simp] theorem State.setSLine_llbit (k : Nat) (l : SLine) : (s.setSLine k l).llbit = s.llbit := rfl
@[simp] theorem State.setSLine_fpr (k : Nat) (l : SLine) : (s.setSLine k l).fpr = s.fpr := rfl
@[simp] theorem State.setSLine_fcr31 (k : Nat) (l : SLine) : (s.setSLine k l).fcr31 = s.fcr31 := rfl
@[simp] theorem State.setSLine_cp0 (k : Nat) (l : SLine) : (s.setSLine k l).cp0 = s.cp0 := rfl
@[simp] theorem State.setSLine_tlb (k : Nat) (l : SLine) : (s.setSLine k l).tlb = s.tlb := rfl
@[simp] theorem State.setSLine_itlb (k : Nat) (l : SLine) : (s.setSLine k l).itlb = s.itlb := rfl
@[simp] theorem State.setSLine_icache (k : Nat) (l : SLine) : (s.setSLine k l).icache = s.icache := rfl
@[simp] theorem State.setSLine_dcache (k : Nat) (l : SLine) : (s.setSLine k l).dcache = s.dcache := rfl
@[simp] theorem State.setSLine_scache (k : Nat) (l : SLine) : (s.setSLine k l).scache = cellSet SLine.empty s.scache k l := rfl
@[simp] theorem State.setSLine_gather (k : Nat) (l : SLine) : (s.setSLine k l).gather = s.gather := rfl
@[simp] theorem State.setSLine_windows (k : Nat) (l : SLine) : (s.setSLine k l).windows = s.windows := rfl
@[simp] theorem State.setSLine_ddr (k : Nat) (l : SLine) : (s.setSLine k l).ddr = s.ddr := rfl
@[simp] theorem State.setSLine_io (k : Nat) (l : SLine) : (s.setSLine k l).io = s.io := rfl
@[simp] theorem State.setSLine_pins (k : Nat) (l : SLine) : (s.setSLine k l).pins = s.pins := rfl
@[simp] theorem State.setSLine_mem (k : Nat) (l : SLine) : (s.setSLine k l).mem = s.mem := rfl
@[simp] theorem State.setSLine_rom (k : Nat) (l : SLine) : (s.setSLine k l).rom = s.rom := rfl
@[simp] theorem State.setSLine_busErr (k : Nat) (l : SLine) : (s.setSLine k l).busErr = s.busErr := rfl
@[simp] theorem State.setSLine_busLog (k : Nat) (l : SLine) : (s.setSLine k l).busLog = s.busLog := rfl
@[simp] theorem State.setSLine_events (k : Nat) (l : SLine) : (s.setSLine k l).events = s.events := rfl
@[simp] theorem State.setSLine_irqHeld (k : Nat) (l : SLine) : (s.setSLine k l).irqHeld = s.irqHeld := rfl
@[simp] theorem State.setSLine_stamp (k : Nat) (l : SLine) : (s.setSLine k l).stamp = s.stamp := rfl
@[simp] theorem State.setSLine_taken (k : Nat) (l : SLine) : (s.setSLine k l).taken = s.taken := rfl

/-! ### `setTlb` -/

@[simp] theorem State.setTlb_params (i : BitVec 6) (e : TlbEntry) : (s.setTlb i e).params = s.params := rfl
@[simp] theorem State.setTlb_gpr (i : BitVec 6) (e : TlbEntry) : (s.setTlb i e).gpr = s.gpr := rfl
@[simp] theorem State.setTlb_hi (i : BitVec 6) (e : TlbEntry) : (s.setTlb i e).hi = s.hi := rfl
@[simp] theorem State.setTlb_lo (i : BitVec 6) (e : TlbEntry) : (s.setTlb i e).lo = s.lo := rfl
@[simp] theorem State.setTlb_pc (i : BitVec 6) (e : TlbEntry) : (s.setTlb i e).pc = s.pc := rfl
@[simp] theorem State.setTlb_delay (i : BitVec 6) (e : TlbEntry) : (s.setTlb i e).delay = s.delay := rfl
@[simp] theorem State.setTlb_llbit (i : BitVec 6) (e : TlbEntry) : (s.setTlb i e).llbit = s.llbit := rfl
@[simp] theorem State.setTlb_fpr (i : BitVec 6) (e : TlbEntry) : (s.setTlb i e).fpr = s.fpr := rfl
@[simp] theorem State.setTlb_fcr31 (i : BitVec 6) (e : TlbEntry) : (s.setTlb i e).fcr31 = s.fcr31 := rfl
@[simp] theorem State.setTlb_cp0 (i : BitVec 6) (e : TlbEntry) : (s.setTlb i e).cp0 = s.cp0 := rfl
@[simp] theorem State.setTlb_tlb (i : BitVec 6) (e : TlbEntry) : (s.setTlb i e).tlb = s.tlb.set i.toNat e := rfl
@[simp] theorem State.setTlb_itlb (i : BitVec 6) (e : TlbEntry) : (s.setTlb i e).itlb = s.itlb := rfl
@[simp] theorem State.setTlb_icache (i : BitVec 6) (e : TlbEntry) : (s.setTlb i e).icache = s.icache := rfl
@[simp] theorem State.setTlb_dcache (i : BitVec 6) (e : TlbEntry) : (s.setTlb i e).dcache = s.dcache := rfl
@[simp] theorem State.setTlb_scache (i : BitVec 6) (e : TlbEntry) : (s.setTlb i e).scache = s.scache := rfl
@[simp] theorem State.setTlb_gather (i : BitVec 6) (e : TlbEntry) : (s.setTlb i e).gather = s.gather := rfl
@[simp] theorem State.setTlb_windows (i : BitVec 6) (e : TlbEntry) : (s.setTlb i e).windows = s.windows := rfl
@[simp] theorem State.setTlb_ddr (i : BitVec 6) (e : TlbEntry) : (s.setTlb i e).ddr = s.ddr := rfl
@[simp] theorem State.setTlb_io (i : BitVec 6) (e : TlbEntry) : (s.setTlb i e).io = s.io := rfl
@[simp] theorem State.setTlb_pins (i : BitVec 6) (e : TlbEntry) : (s.setTlb i e).pins = s.pins := rfl
@[simp] theorem State.setTlb_mem (i : BitVec 6) (e : TlbEntry) : (s.setTlb i e).mem = s.mem := rfl
@[simp] theorem State.setTlb_rom (i : BitVec 6) (e : TlbEntry) : (s.setTlb i e).rom = s.rom := rfl
@[simp] theorem State.setTlb_busErr (i : BitVec 6) (e : TlbEntry) : (s.setTlb i e).busErr = s.busErr := rfl
@[simp] theorem State.setTlb_busLog (i : BitVec 6) (e : TlbEntry) : (s.setTlb i e).busLog = s.busLog := rfl
@[simp] theorem State.setTlb_events (i : BitVec 6) (e : TlbEntry) : (s.setTlb i e).events = s.events := rfl
@[simp] theorem State.setTlb_irqHeld (i : BitVec 6) (e : TlbEntry) : (s.setTlb i e).irqHeld = s.irqHeld := rfl
@[simp] theorem State.setTlb_stamp (i : BitVec 6) (e : TlbEntry) : (s.setTlb i e).stamp = s.stamp := rfl
@[simp] theorem State.setTlb_taken (i : BitVec 6) (e : TlbEntry) : (s.setTlb i e).taken = s.taken := rfl

/-! ### `emptyItlb` -/

@[simp] theorem State.emptyItlb_params : (s.emptyItlb).params = s.params := rfl
@[simp] theorem State.emptyItlb_gpr : (s.emptyItlb).gpr = s.gpr := rfl
@[simp] theorem State.emptyItlb_hi : (s.emptyItlb).hi = s.hi := rfl
@[simp] theorem State.emptyItlb_lo : (s.emptyItlb).lo = s.lo := rfl
@[simp] theorem State.emptyItlb_pc : (s.emptyItlb).pc = s.pc := rfl
@[simp] theorem State.emptyItlb_delay : (s.emptyItlb).delay = s.delay := rfl
@[simp] theorem State.emptyItlb_llbit : (s.emptyItlb).llbit = s.llbit := rfl
@[simp] theorem State.emptyItlb_fpr : (s.emptyItlb).fpr = s.fpr := rfl
@[simp] theorem State.emptyItlb_fcr31 : (s.emptyItlb).fcr31 = s.fcr31 := rfl
@[simp] theorem State.emptyItlb_cp0 : (s.emptyItlb).cp0 = s.cp0 := rfl
@[simp] theorem State.emptyItlb_tlb : (s.emptyItlb).tlb = s.tlb := rfl
@[simp] theorem State.emptyItlb_itlb : (s.emptyItlb).itlb = Vector.replicate 16 none := rfl
@[simp] theorem State.emptyItlb_icache : (s.emptyItlb).icache = s.icache := rfl
@[simp] theorem State.emptyItlb_dcache : (s.emptyItlb).dcache = s.dcache := rfl
@[simp] theorem State.emptyItlb_scache : (s.emptyItlb).scache = s.scache := rfl
@[simp] theorem State.emptyItlb_gather : (s.emptyItlb).gather = s.gather := rfl
@[simp] theorem State.emptyItlb_windows : (s.emptyItlb).windows = s.windows := rfl
@[simp] theorem State.emptyItlb_ddr : (s.emptyItlb).ddr = s.ddr := rfl
@[simp] theorem State.emptyItlb_io : (s.emptyItlb).io = s.io := rfl
@[simp] theorem State.emptyItlb_pins : (s.emptyItlb).pins = s.pins := rfl
@[simp] theorem State.emptyItlb_mem : (s.emptyItlb).mem = s.mem := rfl
@[simp] theorem State.emptyItlb_rom : (s.emptyItlb).rom = s.rom := rfl
@[simp] theorem State.emptyItlb_busErr : (s.emptyItlb).busErr = s.busErr := rfl
@[simp] theorem State.emptyItlb_busLog : (s.emptyItlb).busLog = s.busLog := rfl
@[simp] theorem State.emptyItlb_events : (s.emptyItlb).events = s.events := rfl
@[simp] theorem State.emptyItlb_irqHeld : (s.emptyItlb).irqHeld = s.irqHeld := rfl
@[simp] theorem State.emptyItlb_stamp : (s.emptyItlb).stamp = s.stamp := rfl
@[simp] theorem State.emptyItlb_taken : (s.emptyItlb).taken = s.taken := rfl

/-! ### `takeException` -/

@[simp] theorem takeException_params (e : Exc) : (takeException e s).params = s.params := rfl
@[simp] theorem takeException_gpr (e : Exc) : (takeException e s).gpr = s.gpr := rfl
@[simp] theorem takeException_hi (e : Exc) : (takeException e s).hi = s.hi := rfl
@[simp] theorem takeException_lo (e : Exc) : (takeException e s).lo = s.lo := rfl
@[simp] theorem takeException_pc (e : Exc) : (takeException e s).pc = e.vector s := rfl
@[simp] theorem takeException_delay (e : Exc) : (takeException e s).delay = none := rfl
@[simp] theorem takeException_llbit (e : Exc) : (takeException e s).llbit = s.llbit := rfl
@[simp] theorem takeException_fpr (e : Exc) : (takeException e s).fpr = s.fpr := rfl
@[simp] theorem takeException_fcr31 (e : Exc) : (takeException e s).fcr31 = s.fcr31 := rfl
@[simp] theorem takeException_tlb (e : Exc) : (takeException e s).tlb = s.tlb := rfl
@[simp] theorem takeException_itlb (e : Exc) : (takeException e s).itlb = s.itlb := rfl
@[simp] theorem takeException_icache (e : Exc) : (takeException e s).icache = s.icache := rfl
@[simp] theorem takeException_dcache (e : Exc) : (takeException e s).dcache = s.dcache := rfl
@[simp] theorem takeException_scache (e : Exc) : (takeException e s).scache = s.scache := rfl
@[simp] theorem takeException_gather (e : Exc) : (takeException e s).gather = s.gather := rfl
@[simp] theorem takeException_windows (e : Exc) : (takeException e s).windows = s.windows := rfl
@[simp] theorem takeException_ddr (e : Exc) : (takeException e s).ddr = s.ddr := rfl
@[simp] theorem takeException_io (e : Exc) : (takeException e s).io = s.io := rfl
@[simp] theorem takeException_pins (e : Exc) : (takeException e s).pins = s.pins := rfl
@[simp] theorem takeException_mem (e : Exc) : (takeException e s).mem = s.mem := rfl
@[simp] theorem takeException_rom (e : Exc) : (takeException e s).rom = s.rom := rfl
@[simp] theorem takeException_busErr (e : Exc) : (takeException e s).busErr = s.busErr := rfl
@[simp] theorem takeException_busLog (e : Exc) : (takeException e s).busLog = s.busLog := rfl
@[simp] theorem takeException_events (e : Exc) : (takeException e s).events = s.events := rfl
@[simp] theorem takeException_irqHeld (e : Exc) : (takeException e s).irqHeld = s.irqHeld := rfl
@[simp] theorem takeException_stamp (e : Exc) : (takeException e s).stamp = s.stamp := rfl
@[simp] theorem takeException_taken (e : Exc) : (takeException e s).taken = some e := rfl

/-! ### `returnFromException` -/

@[simp] theorem returnFromException_params : (returnFromException s).params = s.params := rfl
@[simp] theorem returnFromException_gpr : (returnFromException s).gpr = s.gpr := rfl
@[simp] theorem returnFromException_hi : (returnFromException s).hi = s.hi := rfl
@[simp] theorem returnFromException_lo : (returnFromException s).lo = s.lo := rfl
@[simp] theorem returnFromException_delay : (returnFromException s).delay = none := rfl
@[simp] theorem returnFromException_llbit : (returnFromException s).llbit = false := rfl
@[simp] theorem returnFromException_fpr : (returnFromException s).fpr = s.fpr := rfl
@[simp] theorem returnFromException_fcr31 : (returnFromException s).fcr31 = s.fcr31 := rfl
@[simp] theorem returnFromException_tlb : (returnFromException s).tlb = s.tlb := rfl
@[simp] theorem returnFromException_itlb : (returnFromException s).itlb = s.itlb := rfl
@[simp] theorem returnFromException_icache : (returnFromException s).icache = s.icache := rfl
@[simp] theorem returnFromException_dcache : (returnFromException s).dcache = s.dcache := rfl
@[simp] theorem returnFromException_scache : (returnFromException s).scache = s.scache := rfl
@[simp] theorem returnFromException_gather : (returnFromException s).gather = s.gather := rfl
@[simp] theorem returnFromException_windows : (returnFromException s).windows = s.windows := rfl
@[simp] theorem returnFromException_ddr : (returnFromException s).ddr = s.ddr := rfl
@[simp] theorem returnFromException_io : (returnFromException s).io = s.io := rfl
@[simp] theorem returnFromException_pins : (returnFromException s).pins = s.pins := rfl
@[simp] theorem returnFromException_mem : (returnFromException s).mem = s.mem := rfl
@[simp] theorem returnFromException_rom : (returnFromException s).rom = s.rom := rfl
@[simp] theorem returnFromException_busErr : (returnFromException s).busErr = s.busErr := rfl
@[simp] theorem returnFromException_busLog : (returnFromException s).busLog = s.busLog := rfl
@[simp] theorem returnFromException_events : (returnFromException s).events = s.events := rfl
@[simp] theorem returnFromException_irqHeld : (returnFromException s).irqHeld = s.irqHeld := rfl
@[simp] theorem returnFromException_stamp : (returnFromException s).stamp = s.stamp := rfl
@[simp] theorem returnFromException_taken : (returnFromException s).taken = s.taken := rfl

/-! ### `writeGpr`, `writeS`, `writeD`: the other fields -/

@[simp] theorem State.writeGpr_params (r : Reg) (v : Dword) : (s.writeGpr r v).params = s.params := by
  unfold State.writeGpr; split <;> rfl
@[simp] theorem State.writeGpr_hi (r : Reg) (v : Dword) : (s.writeGpr r v).hi = s.hi := by
  unfold State.writeGpr; split <;> rfl
@[simp] theorem State.writeGpr_lo (r : Reg) (v : Dword) : (s.writeGpr r v).lo = s.lo := by
  unfold State.writeGpr; split <;> rfl
@[simp] theorem State.writeGpr_pc (r : Reg) (v : Dword) : (s.writeGpr r v).pc = s.pc := by
  unfold State.writeGpr; split <;> rfl
@[simp] theorem State.writeGpr_delay (r : Reg) (v : Dword) : (s.writeGpr r v).delay = s.delay := by
  unfold State.writeGpr; split <;> rfl
@[simp] theorem State.writeGpr_llbit (r : Reg) (v : Dword) : (s.writeGpr r v).llbit = s.llbit := by
  unfold State.writeGpr; split <;> rfl
@[simp] theorem State.writeGpr_fpr (r : Reg) (v : Dword) : (s.writeGpr r v).fpr = s.fpr := by
  unfold State.writeGpr; split <;> rfl
@[simp] theorem State.writeGpr_fcr31 (r : Reg) (v : Dword) : (s.writeGpr r v).fcr31 = s.fcr31 := by
  unfold State.writeGpr; split <;> rfl
@[simp] theorem State.writeGpr_cp0 (r : Reg) (v : Dword) : (s.writeGpr r v).cp0 = s.cp0 := by
  unfold State.writeGpr; split <;> rfl
@[simp] theorem State.writeGpr_tlb (r : Reg) (v : Dword) : (s.writeGpr r v).tlb = s.tlb := by
  unfold State.writeGpr; split <;> rfl
@[simp] theorem State.writeGpr_itlb (r : Reg) (v : Dword) : (s.writeGpr r v).itlb = s.itlb := by
  unfold State.writeGpr; split <;> rfl
@[simp] theorem State.writeGpr_icache (r : Reg) (v : Dword) : (s.writeGpr r v).icache = s.icache := by
  unfold State.writeGpr; split <;> rfl
@[simp] theorem State.writeGpr_dcache (r : Reg) (v : Dword) : (s.writeGpr r v).dcache = s.dcache := by
  unfold State.writeGpr; split <;> rfl
@[simp] theorem State.writeGpr_scache (r : Reg) (v : Dword) : (s.writeGpr r v).scache = s.scache := by
  unfold State.writeGpr; split <;> rfl
@[simp] theorem State.writeGpr_gather (r : Reg) (v : Dword) : (s.writeGpr r v).gather = s.gather := by
  unfold State.writeGpr; split <;> rfl
@[simp] theorem State.writeGpr_windows (r : Reg) (v : Dword) : (s.writeGpr r v).windows = s.windows := by
  unfold State.writeGpr; split <;> rfl
@[simp] theorem State.writeGpr_ddr (r : Reg) (v : Dword) : (s.writeGpr r v).ddr = s.ddr := by
  unfold State.writeGpr; split <;> rfl
@[simp] theorem State.writeGpr_io (r : Reg) (v : Dword) : (s.writeGpr r v).io = s.io := by
  unfold State.writeGpr; split <;> rfl
@[simp] theorem State.writeGpr_pins (r : Reg) (v : Dword) : (s.writeGpr r v).pins = s.pins := by
  unfold State.writeGpr; split <;> rfl
@[simp] theorem State.writeGpr_mem (r : Reg) (v : Dword) : (s.writeGpr r v).mem = s.mem := by
  unfold State.writeGpr; split <;> rfl
@[simp] theorem State.writeGpr_rom (r : Reg) (v : Dword) : (s.writeGpr r v).rom = s.rom := by
  unfold State.writeGpr; split <;> rfl
@[simp] theorem State.writeGpr_busErr (r : Reg) (v : Dword) : (s.writeGpr r v).busErr = s.busErr := by
  unfold State.writeGpr; split <;> rfl
@[simp] theorem State.writeGpr_busLog (r : Reg) (v : Dword) : (s.writeGpr r v).busLog = s.busLog := by
  unfold State.writeGpr; split <;> rfl
@[simp] theorem State.writeGpr_events (r : Reg) (v : Dword) : (s.writeGpr r v).events = s.events := by
  unfold State.writeGpr; split <;> rfl
@[simp] theorem State.writeGpr_irqHeld (r : Reg) (v : Dword) : (s.writeGpr r v).irqHeld = s.irqHeld := by
  unfold State.writeGpr; split <;> rfl
@[simp] theorem State.writeGpr_stamp (r : Reg) (v : Dword) : (s.writeGpr r v).stamp = s.stamp := by
  unfold State.writeGpr; split <;> rfl
@[simp] theorem State.writeGpr_taken (r : Reg) (v : Dword) : (s.writeGpr r v).taken = s.taken := by
  unfold State.writeGpr; split <;> rfl

@[simp] theorem State.writeS_params (n : Reg) (v : Word) : (s.writeS n v).params = s.params := by
  unfold State.writeS; repeat (first | rfl | split)
@[simp] theorem State.writeS_gpr (n : Reg) (v : Word) : (s.writeS n v).gpr = s.gpr := by
  unfold State.writeS; repeat (first | rfl | split)
@[simp] theorem State.writeS_hi (n : Reg) (v : Word) : (s.writeS n v).hi = s.hi := by
  unfold State.writeS; repeat (first | rfl | split)
@[simp] theorem State.writeS_lo (n : Reg) (v : Word) : (s.writeS n v).lo = s.lo := by
  unfold State.writeS; repeat (first | rfl | split)
@[simp] theorem State.writeS_pc (n : Reg) (v : Word) : (s.writeS n v).pc = s.pc := by
  unfold State.writeS; repeat (first | rfl | split)
@[simp] theorem State.writeS_delay (n : Reg) (v : Word) : (s.writeS n v).delay = s.delay := by
  unfold State.writeS; repeat (first | rfl | split)
@[simp] theorem State.writeS_llbit (n : Reg) (v : Word) : (s.writeS n v).llbit = s.llbit := by
  unfold State.writeS; repeat (first | rfl | split)
@[simp] theorem State.writeS_fcr31 (n : Reg) (v : Word) : (s.writeS n v).fcr31 = s.fcr31 := by
  unfold State.writeS; repeat (first | rfl | split)
@[simp] theorem State.writeS_cp0 (n : Reg) (v : Word) : (s.writeS n v).cp0 = s.cp0 := by
  unfold State.writeS; repeat (first | rfl | split)
@[simp] theorem State.writeS_tlb (n : Reg) (v : Word) : (s.writeS n v).tlb = s.tlb := by
  unfold State.writeS; repeat (first | rfl | split)
@[simp] theorem State.writeS_itlb (n : Reg) (v : Word) : (s.writeS n v).itlb = s.itlb := by
  unfold State.writeS; repeat (first | rfl | split)
@[simp] theorem State.writeS_icache (n : Reg) (v : Word) : (s.writeS n v).icache = s.icache := by
  unfold State.writeS; repeat (first | rfl | split)
@[simp] theorem State.writeS_dcache (n : Reg) (v : Word) : (s.writeS n v).dcache = s.dcache := by
  unfold State.writeS; repeat (first | rfl | split)
@[simp] theorem State.writeS_scache (n : Reg) (v : Word) : (s.writeS n v).scache = s.scache := by
  unfold State.writeS; repeat (first | rfl | split)
@[simp] theorem State.writeS_gather (n : Reg) (v : Word) : (s.writeS n v).gather = s.gather := by
  unfold State.writeS; repeat (first | rfl | split)
@[simp] theorem State.writeS_windows (n : Reg) (v : Word) : (s.writeS n v).windows = s.windows := by
  unfold State.writeS; repeat (first | rfl | split)
@[simp] theorem State.writeS_ddr (n : Reg) (v : Word) : (s.writeS n v).ddr = s.ddr := by
  unfold State.writeS; repeat (first | rfl | split)
@[simp] theorem State.writeS_io (n : Reg) (v : Word) : (s.writeS n v).io = s.io := by
  unfold State.writeS; repeat (first | rfl | split)
@[simp] theorem State.writeS_pins (n : Reg) (v : Word) : (s.writeS n v).pins = s.pins := by
  unfold State.writeS; repeat (first | rfl | split)
@[simp] theorem State.writeS_mem (n : Reg) (v : Word) : (s.writeS n v).mem = s.mem := by
  unfold State.writeS; repeat (first | rfl | split)
@[simp] theorem State.writeS_rom (n : Reg) (v : Word) : (s.writeS n v).rom = s.rom := by
  unfold State.writeS; repeat (first | rfl | split)
@[simp] theorem State.writeS_busErr (n : Reg) (v : Word) : (s.writeS n v).busErr = s.busErr := by
  unfold State.writeS; repeat (first | rfl | split)
@[simp] theorem State.writeS_busLog (n : Reg) (v : Word) : (s.writeS n v).busLog = s.busLog := by
  unfold State.writeS; repeat (first | rfl | split)
@[simp] theorem State.writeS_events (n : Reg) (v : Word) : (s.writeS n v).events = s.events := by
  unfold State.writeS; repeat (first | rfl | split)
@[simp] theorem State.writeS_irqHeld (n : Reg) (v : Word) : (s.writeS n v).irqHeld = s.irqHeld := by
  unfold State.writeS; repeat (first | rfl | split)
@[simp] theorem State.writeS_stamp (n : Reg) (v : Word) : (s.writeS n v).stamp = s.stamp := by
  unfold State.writeS; repeat (first | rfl | split)
@[simp] theorem State.writeS_taken (n : Reg) (v : Word) : (s.writeS n v).taken = s.taken := by
  unfold State.writeS; repeat (first | rfl | split)

@[simp] theorem State.writeD_params (n : Reg) (v : Dword) : (s.writeD n v).params = s.params := by
  unfold State.writeD; split <;> rfl
@[simp] theorem State.writeD_gpr (n : Reg) (v : Dword) : (s.writeD n v).gpr = s.gpr := by
  unfold State.writeD; split <;> rfl
@[simp] theorem State.writeD_hi (n : Reg) (v : Dword) : (s.writeD n v).hi = s.hi := by
  unfold State.writeD; split <;> rfl
@[simp] theorem State.writeD_lo (n : Reg) (v : Dword) : (s.writeD n v).lo = s.lo := by
  unfold State.writeD; split <;> rfl
@[simp] theorem State.writeD_pc (n : Reg) (v : Dword) : (s.writeD n v).pc = s.pc := by
  unfold State.writeD; split <;> rfl
@[simp] theorem State.writeD_delay (n : Reg) (v : Dword) : (s.writeD n v).delay = s.delay := by
  unfold State.writeD; split <;> rfl
@[simp] theorem State.writeD_llbit (n : Reg) (v : Dword) : (s.writeD n v).llbit = s.llbit := by
  unfold State.writeD; split <;> rfl
@[simp] theorem State.writeD_fcr31 (n : Reg) (v : Dword) : (s.writeD n v).fcr31 = s.fcr31 := by
  unfold State.writeD; split <;> rfl
@[simp] theorem State.writeD_cp0 (n : Reg) (v : Dword) : (s.writeD n v).cp0 = s.cp0 := by
  unfold State.writeD; split <;> rfl
@[simp] theorem State.writeD_tlb (n : Reg) (v : Dword) : (s.writeD n v).tlb = s.tlb := by
  unfold State.writeD; split <;> rfl
@[simp] theorem State.writeD_itlb (n : Reg) (v : Dword) : (s.writeD n v).itlb = s.itlb := by
  unfold State.writeD; split <;> rfl
@[simp] theorem State.writeD_icache (n : Reg) (v : Dword) : (s.writeD n v).icache = s.icache := by
  unfold State.writeD; split <;> rfl
@[simp] theorem State.writeD_dcache (n : Reg) (v : Dword) : (s.writeD n v).dcache = s.dcache := by
  unfold State.writeD; split <;> rfl
@[simp] theorem State.writeD_scache (n : Reg) (v : Dword) : (s.writeD n v).scache = s.scache := by
  unfold State.writeD; split <;> rfl
@[simp] theorem State.writeD_gather (n : Reg) (v : Dword) : (s.writeD n v).gather = s.gather := by
  unfold State.writeD; split <;> rfl
@[simp] theorem State.writeD_windows (n : Reg) (v : Dword) : (s.writeD n v).windows = s.windows := by
  unfold State.writeD; split <;> rfl
@[simp] theorem State.writeD_ddr (n : Reg) (v : Dword) : (s.writeD n v).ddr = s.ddr := by
  unfold State.writeD; split <;> rfl
@[simp] theorem State.writeD_io (n : Reg) (v : Dword) : (s.writeD n v).io = s.io := by
  unfold State.writeD; split <;> rfl
@[simp] theorem State.writeD_pins (n : Reg) (v : Dword) : (s.writeD n v).pins = s.pins := by
  unfold State.writeD; split <;> rfl
@[simp] theorem State.writeD_mem (n : Reg) (v : Dword) : (s.writeD n v).mem = s.mem := by
  unfold State.writeD; split <;> rfl
@[simp] theorem State.writeD_rom (n : Reg) (v : Dword) : (s.writeD n v).rom = s.rom := by
  unfold State.writeD; split <;> rfl
@[simp] theorem State.writeD_busErr (n : Reg) (v : Dword) : (s.writeD n v).busErr = s.busErr := by
  unfold State.writeD; split <;> rfl
@[simp] theorem State.writeD_busLog (n : Reg) (v : Dword) : (s.writeD n v).busLog = s.busLog := by
  unfold State.writeD; split <;> rfl
@[simp] theorem State.writeD_events (n : Reg) (v : Dword) : (s.writeD n v).events = s.events := by
  unfold State.writeD; split <;> rfl
@[simp] theorem State.writeD_irqHeld (n : Reg) (v : Dword) : (s.writeD n v).irqHeld = s.irqHeld := by
  unfold State.writeD; split <;> rfl
@[simp] theorem State.writeD_stamp (n : Reg) (v : Dword) : (s.writeD n v).stamp = s.stamp := by
  unfold State.writeD; split <;> rfl
@[simp] theorem State.writeD_taken (n : Reg) (v : Dword) : (s.writeD n v).taken = s.taken := by
  unfold State.writeD; split <;> rfl

end Sys2Proof.Machine
end

