-- ==== Sys2Proof/Laws/Ops.lean ====
section
/-! SUPPORT. The shared operations, each with one lemma that says all it can do: results and their ends, registers,
the shapes of the families. -/

namespace Sys2Proof.Machine

variable {α β : Type}

/-! ### Results -/

@[simp] theorem Res.bind_ok (a : α) (s : State) (k : α → State → Res β) : (Res.ok a s).bind k = k a s := rfl
@[simp] theorem Res.bind_raise (e : Exc) (s : State) (k : α → State → Res β) :
    (Res.raise e s : Res α).bind k = .raise e s := rfl
@[simp] theorem Res.bind_fault (f : Fault) (k : α → State → Res β) : (Res.fault f : Res α).bind k = .fault f := rfl
@[simp] theorem Res.bind_refuse (r : Refusal) (k : α → State → Res β) :
    (Res.refuse r : Res α).bind k = .refuse r := rfl

/-- A bound computation succeeds exactly when both parts do. -/
theorem Res.bind_eq_ok {r : Res α} {k : α → State → Res β} {b : β} {t : State} :
    r.bind k = .ok b t ↔ ∃ a s, r = .ok a s ∧ k a s = .ok b t := by
  cases r <;> simp

/-- A bound computation raises what one of its parts raises. -/
theorem Res.bind_eq_raise {r : Res α} {k : α → State → Res β} {e : Exc} {t : State} :
    r.bind k = .raise e t ↔ r = .raise e t ∨ ∃ a s, r = .ok a s ∧ k a s = .raise e t := by
  cases r <;> simp

@[simp] theorem Res.precise_ok (a : α) (t s : State) : (Res.ok a t).precise s = .ok a t := rfl
@[simp] theorem Res.precise_raise (e : Exc) (t s : State) : (Res.raise e t : Res α).precise s = .raise e s := rfl
@[simp] theorem Res.precise_fault (f : Fault) (s : State) : (Res.fault f : Res α).precise s = .fault f := rfl
@[simp] theorem Res.precise_refuse (r : Refusal) (s : State) : (Res.refuse r : Res α).precise s = .refuse r := rfl

theorem Res.precise_eq_ok {r : Res α} {s t : State} {a : α} : r.precise s = .ok a t ↔ r = .ok a t := by
  cases r <;> simp [Res.precise]

/-- An exception of a precise computation is taken from the given state. -/
theorem Res.precise_eq_raise {r : Res α} {s t : State} {e : Exc} (h : r.precise s = .raise e t) :
    t = s ∧ ∃ u, r = .raise e u := by
  cases r with
  | raise e' u =>
    simp only [Res.precise_raise, Res.raise.injEq] at h
    exact ⟨h.2.symm, u, by rw [h.1]⟩
  | ok a u => cases h
  | fault f => cases h
  | refuse x => cases h

/-- What an instruction that is no control transfer ends in: it did its work and goes on, or it took an exception. -/
theorem Res.finish_eq_next {r : Res Unit} {t : State} (h : r.finish = .next t) :
    (∃ s, r = .ok () s ∧ t = s.advance) ∨ ∃ e s, r = .raise e s ∧ t = takeException e s := by
  cases r with
  | ok a s => exact .inl ⟨s, rfl, by simpa [Res.finish, Res.outcome] using h.symm⟩
  | raise e s => exact .inr ⟨e, s, rfl, by simpa [Res.finish, Res.outcome] using h.symm⟩
  | fault f => simp [Res.finish, Res.outcome] at h
  | refuse x => simp [Res.finish, Res.outcome] at h

@[simp] theorem Res.finish_ok (s : State) : (Res.ok () s).finish = .next s.advance := rfl
@[simp] theorem Res.finish_raise (e : Exc) (s : State) : (Res.raise e s).finish = .next (takeException e s) := rfl
@[simp] theorem Res.finish_fault (f : Fault) : (Res.fault f).finish = .fault f := rfl
@[simp] theorem Res.finish_refuse (r : Refusal) : (Res.refuse r).finish = .refused r := rfl

/-! ### What a computation keeps -/

/-- Every state that a computation reaches has a property. -/
def Res.Keeps (P : State → Prop) : Res α → Prop
  | .ok _ s => P s
  | .raise _ s => P s
  | .fault _ => True
  | .refuse _ => True

theorem Res.Keeps.bind {P : State → Prop} {r : Res α} {k : α → State → Res β} (hr : r.Keeps P)
    (hk : ∀ a s, P s → (k a s).Keeps P) : (r.bind k).Keeps P := by
  cases r with
  | ok a s => exact hk a s hr
  | raise e s => exact hr
  | fault f => trivial
  | refuse x => trivial

theorem Res.Keeps.precise {P : State → Prop} {r : Res α} {s : State} (hr : r.Keeps P) (hs : P s) :
    (r.precise s).Keeps P := by
  cases r with
  | ok a t => exact hr
  | raise e t => exact hs
  | fault f => trivial
  | refuse x => trivial

/-- The next state of an instruction whose result keeps a property has it, if going on and taking an exception do. -/
theorem Res.Keeps.finish {P : State → Prop} {r : Res Unit} (hr : r.Keeps P) (ha : ∀ s, P s → P s.advance)
    (he : ∀ e s, P s → P (takeException e s)) {t : State} (h : r.finish = .next t) : P t := by
  rcases Res.finish_eq_next h with ⟨s, rfl, rfl⟩ | ⟨e, s, rfl, rfl⟩
  · exact ha s hr
  · exact he e s hr

/-! ### General registers (R21) -/

@[simp] theorem State.readGpr_zero (s : State) : s.readGpr 0 = 0 := rfl

@[simp] theorem State.writeGpr_zero (s : State) (v : Dword) : s.writeGpr 0 v = s := rfl

/-- A register after a write of a register: r0 reads zero, the one written its new value, the others their old one. -/
theorem State.readGpr_writeGpr (s : State) (r q : Reg) (v : Dword) :
    (s.writeGpr r v).readGpr q = if q = r ∧ r ≠ 0 then v else s.readGpr q := by
  unfold State.readGpr State.writeGpr
  by_cases hr : r = 0
  · have hn : ¬ (q = r ∧ r ≠ 0) := fun h => h.2 hr
    rw [if_pos hr, if_neg hn]
  · rw [if_neg hr]
    by_cases hq : q = 0
    · have hn : ¬ (q = r ∧ r ≠ 0) := fun h => hr (h.1.symm.trans hq)
      rw [if_pos hq, if_neg hn, if_pos hq]
    · rw [if_neg hq, if_neg hq]
      by_cases h : q = r
      · subst h
        rw [if_pos ⟨rfl, hr⟩]
        exact Vector.getElem_set_self ..
      · have hn : r.toNat ≠ q.toNat := fun hh => h (BitVec.eq_of_toNat_eq hh.symm)
        rw [if_neg (fun hh => h hh.1)]
        exact Vector.getElem_set_ne r.isLt q.isLt hn

@[simp] theorem State.readGpr_writeGpr_same (s : State) {r : Reg} (h : r ≠ 0) (v : Dword) :
    (s.writeGpr r v).readGpr r = v := by
  rw [State.readGpr_writeGpr, if_pos ⟨rfl, h⟩]

theorem State.readGpr_writeGpr_other (s : State) {r q : Reg} (h : q ≠ r) (v : Dword) :
    (s.writeGpr r v).readGpr q = s.readGpr q := by
  simp [State.readGpr_writeGpr, h]

/-- Reading a general register depends on the registers alone. -/
theorem State.readGpr_congr {s t : State} (h : t.gpr = s.gpr) (r : Reg) : t.readGpr r = s.readGpr r := by
  simp [State.readGpr, h]

@[simp] theorem State.readGpr_advance (s : State) (r : Reg) : s.advance.readGpr r = s.readGpr r := rfl
@[simp] theorem State.readGpr_setLlbit (s : State) (b : Bool) (r : Reg) : (s.setLlbit b).readGpr r = s.readGpr r := rfl
@[simp] theorem State.readGpr_branchTo (s : State) (a : Dword) (r : Reg) : (s.branchTo a).readGpr r = s.readGpr r := rfl
@[simp] theorem State.readGpr_takeException (s : State) (e : Exc) (r : Reg) :
    (takeException e s).readGpr r = s.readGpr r := rfl

/-- Writing a register keeps the storage behind r0. -/
theorem State.writeGpr_zeroth (s : State) (r : Reg) (v : Dword) : (s.writeGpr r v).gpr[0] = s.gpr[0] := by
  unfold State.writeGpr
  split
  · rfl
  · next h =>
    have hn : r.toNat ≠ 0 := fun hh => h (BitVec.eq_of_toNat_eq (by simpa using hh))
    simp [hn]

/-! ### Integer shapes -/

/-- A result goes to its register, the state goes on. -/
theorem writeResult_eq (s : State) (rd : Reg) (v : Dword) : writeResult s rd v = .next (s.writeGpr rd v).advance := rfl

/-- The end of an instruction that may overflow. -/
theorem writeOrOverflow_eq_next {s t : State} {rd : Reg} {v : Option Dword} (h : writeOrOverflow s rd v = .next t) :
    (∃ x, v = some x ∧ t = (s.writeGpr rd x).advance) ∨ (v = none ∧ t = takeException .overflow s) := by
  cases v with
  | some x => exact .inl ⟨x, rfl, by simpa [writeOrOverflow, writeResult, complete] using h.symm⟩
  | none => exact .inr ⟨rfl, by simpa [writeOrOverflow, raiseExc] using h.symm⟩

/-- A trap instruction raises its exception or goes on. -/
theorem trapIf_eq_next {s t : State} {c : Bool} (h : trapIf s c = .next t) :
    (c = true ∧ t = takeException .trap s) ∨ (c = false ∧ t = s.advance) := by
  cases c with
  | true => exact .inl ⟨rfl, by simpa [trapIf, raiseExc] using h.symm⟩
  | false => exact .inr ⟨rfl, by simpa [trapIf, complete] using h.symm⟩

/-! ### Control transfers -/

/-- A jump completes outside a delay slot and nowhere else. -/
theorem jump_eq_next {s t : State} {a : Dword} : jump s a = .next t ↔ s.delay = none ∧ t = s.branchTo a := by
  unfold jump outsideDelaySlot
  cases s.delay <;> simp [eq_comm]

/-- A branch completes outside a delay slot and nowhere else. -/
theorem branch_eq_next {s t : State} {c : Bool} {a : Dword} :
    branch s c a = .next t ↔ s.delay = none ∧ t = if c then s.branchTo a else s.branchNotTaken := by
  unfold branch outsideDelaySlot
  cases s.delay <;> simp [eq_comm]

/-- A likely branch completes outside a delay slot and nowhere else. -/
theorem branchLikely_eq_next {s t : State} {c : Bool} {a : Dword} :
    branchLikely s c a = .next t ↔ s.delay = none ∧ t = if c then s.branchTo a else s.skipDelaySlot := by
  unfold branchLikely outsideDelaySlot
  cases s.delay <;> simp [eq_comm]

/-! ### Coprocessor usability -/

/-- What the check of coprocessor 1 answers. -/
theorem checkCp1_cases (s : State) :
    (s.cu 1 = true ∧ checkCp1 s = .ok () s) ∨
      (s.cu 1 = false ∧ checkCp1 s = .raise (.coprocessorUnusable 1) s) := by
  unfold checkCp1
  cases h : s.cu 1 <;> simp

/-- What the check of coprocessor 0 answers. -/
theorem checkCp0_cases (s : State) :
    ((s.cu 0 = true ∨ s.mode = some .kernel) ∧ checkCp0 s = .ok () s) ∨
      (s.cu 0 = false ∧ (s.mode = some .supervisor ∨ s.mode = some .user) ∧
        checkCp0 s = .raise (.coprocessorUnusable 0) s) ∨
      (s.cu 0 = false ∧ s.mode = none ∧ checkCp0 s = .refuse .undefinedMode) := by
  unfold checkCp0
  cases h : s.cu 0
  · rcases hm : s.mode with _ | _ | _ | _ <;> simp
  · simp

/-- A coprocessor 1 instruction takes the exception or does its work. -/
theorem fpInstruction_eq (s : State) (k : State → Res Unit) :
    fpInstruction s k = if s.cu 1 then (k s).finish else .next (takeException (.coprocessorUnusable 1) s) := by
  unfold fpInstruction checkCp1
  cases s.cu 1 <;> simp

/-- A coprocessor 0 instruction in a mode that may run it does its work. -/
theorem cp0Instruction_usable {s : State} (h : s.cu 0 = true ∨ s.mode = some .kernel) (k : State → Res Unit) :
    cp0Instruction s k = (k s).finish := by
  rcases checkCp0_cases s with ⟨_, hc⟩ | ⟨h0, hm, _⟩ | ⟨h0, hm, _⟩
  · simp [cp0Instruction, hc]
  · rcases h with h | h
    · simp [h] at h0
    · rcases hm with hm | hm <;> simp [h] at hm
  · rcases h with h | h
    · simp [h] at h0
    · simp [h] at hm

/-! ### The end of a floating-point operation (R484) -/

/-- The exception, with Cause written and nothing else; or Cause, Flags and the result. -/
theorem fpEnd_eq (s : State) (c : Conditions) (write : State → State) :
    fpEnd s c write =
      if trapsWith c s.fpEnables then .raise .floatingPoint (s.setFcr31 (withCause s.fcr31 c))
      else .ok () (write (s.setFcr31 (withFlags (withCause s.fcr31 c) c))) := rfl

/-! ### Loads and stores -/

/-- What a load can do: nothing for r0; the value to the register; an exception. -/
theorem load_eq_next {s t : State} {rt : Reg} {va : Dword} {n : Nat} {extend : Dword → Dword}
    (h : load s rt va n extend = .next t) :
    (rt = 0 ∧ t = s.advance) ∨
      (rt ≠ 0 ∧ ∃ v u, memRead s va n = .ok v u ∧ t = (u.writeGpr rt (extend v)).advance) ∨
      (rt ≠ 0 ∧ ∃ e u, memRead s va n = .raise e u ∧ t = takeException e u) := by
  unfold load at h
  split at h
  · next h0 => exact .inl ⟨h0, by simpa [complete] using h.symm⟩
  · next h0 =>
    refine .inr ?_
    rcases Res.finish_eq_next h with ⟨u, hu, rfl⟩ | ⟨e, u, hu, rfl⟩
    · rw [Res.bind_eq_ok] at hu
      obtain ⟨v, w, hr, hw⟩ := hu
      refine .inl ⟨h0, v, w, hr, ?_⟩
      cases hw
      rfl
    · rw [Res.bind_eq_raise] at hu
      rcases hu with hu | ⟨v, w, _, hw⟩
      · exact .inr ⟨h0, e, u, hu, rfl⟩
      · cases hw

/-- What a partial load can do. -/
theorem loadPart_eq_next {s t : State} {rt : Reg} {p : Part} {merge : Dword → Dword → Dword}
    (h : loadPart s rt p merge = .next t) :
    (rt = 0 ∧ t = s.advance) ∨
      (rt ≠ 0 ∧ ∃ v u, memReadPart s p.va p.first p.count = .ok v u ∧
        t = (u.writeGpr rt (merge v (u.readGpr rt))).advance) ∨
      (rt ≠ 0 ∧ ∃ e u, memReadPart s p.va p.first p.count = .raise e u ∧ t = takeException e u) := by
  unfold loadPart at h
  split at h
  · next h0 => exact .inl ⟨h0, by simpa [complete] using h.symm⟩
  · next h0 =>
    refine .inr ?_
    rcases Res.finish_eq_next h with ⟨u, hu, rfl⟩ | ⟨e, u, hu, rfl⟩
    · rw [Res.bind_eq_ok] at hu
      obtain ⟨v, w, hr, hw⟩ := hu
      refine .inl ⟨h0, v, w, hr, ?_⟩
      cases hw
      rfl
    · rw [Res.bind_eq_raise] at hu
      rcases hu with hu | ⟨v, w, _, hw⟩
      · exact .inr ⟨h0, e, u, hu, rfl⟩
      · cases hw

/-! ### Taking an exception (R630) -/

@[simp] theorem takeException_status (e : Exc) (s : State) :
    (takeException e s).cp0.status = s.cp0.status ||| 0x2 := by
  unfold takeException Exc.recordAddress
  cases e.badAddress <;> cases e.tlbAddress <;> rfl

@[simp] theorem takeException_epc (e : Exc) (s : State) : (takeException e s).cp0.epc = s.epcAfterException := rfl

@[simp] theorem takeException_excCode (e : Exc) (s : State) : (takeException e s).cp0.cause.excCode = e.code := rfl

@[simp] theorem takeException_random (e : Exc) (s : State) : (takeException e s).cp0.random = s.cp0.random := by
  unfold takeException Exc.recordAddress
  cases e.badAddress <;> cases e.tlbAddress <;> rfl

@[simp] theorem takeException_wired (e : Exc) (s : State) : (takeException e s).cp0.wired = s.cp0.wired := by
  unfold takeException Exc.recordAddress
  cases e.badAddress <;> cases e.tlbAddress <;> rfl

end Sys2Proof.Machine
end

