-- ==== Sys2Proof/Laws/Canonical.lean ====
section
/-! SUPPORT. Every memory operation keeps the canonical form of memory, BOOT_ROM and the caches. -/

namespace Sys2Proof.Machine

variable {s : State}

/-! ### Single updates -/

theorem State.canonical.withMem (h : s.canonical) {m : List Host.Cell} (hm : Memory.wf m = true) :
    State.canonical { s with mem := m } := ⟨hm, h.2⟩

theorem State.canonical.withRom (h : s.canonical) {m : List Host.Cell} (hm : Memory.wf m = true) :
    State.canonical { s with rom := m } := ⟨h.1, hm, h.2.2⟩

theorem State.canonical.setILine (h : s.canonical) (k : Nat) (l : ILine) : (s.setILine k l).canonical :=
  ⟨h.1, h.2.1, cellSet_wf _ h.2.2.1 k l, h.2.2.2⟩

theorem State.canonical.setDLine (h : s.canonical) (k : Nat) (l : DLine) : (s.setDLine k l).canonical :=
  ⟨h.1, h.2.1, h.2.2.1, cellSet_wf _ h.2.2.2.1 k l, h.2.2.2.2⟩

theorem State.canonical.setSLine (h : s.canonical) (k : Nat) (l : SLine) : (s.setSLine k l).canonical :=
  ⟨h.1, h.2.1, h.2.2.1, h.2.2.2.1, cellSet_wf _ h.2.2.2.2.1 k l, h.2.2.2.2.2⟩

theorem State.canonical.writeGpr (h : s.canonical) (r : Reg) (v : Dword) : (s.writeGpr r v).canonical := by
  simpa only [State.canonical, State.writeGpr_mem, State.writeGpr_rom, State.writeGpr_icache,
    State.writeGpr_dcache, State.writeGpr_scache, State.writeGpr_ddr] using h

/-- A state with the same stores is canonical too. -/
theorem State.canonical.congr {t : State} (h : s.canonical) (hm : t.mem = s.mem) (hr : t.rom = s.rom)
    (hi : t.icache = s.icache) (hd : t.dcache = s.dcache) (hs : t.scache = s.scache)
    (hf : t.ddr.flips = s.ddr.flips) : t.canonical := by
  simpa only [State.canonical, hm, hr, hi, hd, hs, hf] using h

theorem State.canonical.withFlips (h : s.canonical) {f : List (Nat × BitVec 72)} (hf : cellWf 0 f = true) :
    State.canonical { s with ddr := { s.ddr with flips := f } } :=
  ⟨h.1, h.2.1, h.2.2.1, h.2.2.2.1, h.2.2.2.2.1, hf⟩

/-- Another state of the DDR2 controller with the same bit errors. -/
theorem State.canonical.withDdr (h : s.canonical) {d : Ddr} (hd : d.flips = s.ddr.flips) :
    State.canonical { s with ddr := d } := h.congr rfl rfl rfl rfl rfl hd

/-! ### Folds over lines -/

/-- A fold of updates that each keep a property keeps it. -/
theorem foldl_keeps {σ γ : Type} {P : σ → Prop} (f : σ → γ → σ) (hf : ∀ s c, P s → P (f s c)) (l : List γ) {s : σ}
    (h : P s) : P (l.foldl f s) := by
  induction l generalizing s with
  | nil => exact h
  | cons c l ih => exact ih (hf s c h)

/-! ### The DDR2 controller -/

theorem ddrField_canonical (h : s.canonical) (n : Fin 29) (m v : Dword) : (s.ddrField n m v).canonical :=
  h.congr rfl rfl rfl rfl rfl rfl

theorem ddrReport_canonical (h : s.canonical) (c : Nat) : (s.ddrReport c).canonical := h.congr rfl rfl rfl rfl rfl rfl

theorem ddrOutOfRange_canonical (h : s.canonical) (a n : Nat) : (s.ddrOutOfRange a n).canonical :=
  ddrReport_canonical
    (ddrField_canonical (ddrField_canonical (ddrField_canonical (ddrField_canonical h _ _ _) _ _ _) _ _ _) _ _ _) _

theorem ddrInitDone_canonical (h : s.canonical) : s.ddrInitDone.canonical := by
  unfold State.ddrInitDone State.ddrDllLock State.ddrDelayElements
  exact (ddrField_canonical (ddrField_canonical (ddrField_canonical h _ _ _) _ _ _) _ _ _).withDdr rfl

theorem ddrStart_canonical (h : s.canonical) : s.ddrStart.canonical := by
  unfold State.ddrStart
  split
  · exact ddrInitDone_canonical h
  · exact h.congr rfl rfl rfl rfl rfl rfl

/-- A write leaves the bit errors in canonical form. -/
theorem clearFlips_wf {m : List (Nat × BitVec 72)} (hm : cellWf 0 m = true) (a n : Nat) :
    cellWf 0 (clearFlips m a n) = true := by
  unfold clearFlips
  induction m with
  | nil => rfl
  | cons q m ih =>
    obtain ⟨k, v⟩ := q
    rw [List.map_cons, List.filter_cons]
    split
    · next hv =>
      simp only [cellWf, Bool.and_eq_true, List.all_eq_true, decide_eq_true_eq]
      refine ⟨⟨hv, fun p hp => ?_⟩, ih (cellWf_tail 0 hm)⟩
      obtain ⟨r, hr, rfl⟩ := List.mem_map.mp (List.mem_of_mem_filter hp)
      exact cellWf_head_lt 0 (p := r) hm hr
    · exact ih (cellWf_tail 0 hm)

theorem reportCorrectable_canonical (h : s.canonical) (d : Nat) : (s.reportCorrectable d).canonical :=
  ddrReport_canonical
    (ddrField_canonical (ddrField_canonical (ddrField_canonical (ddrField_canonical h _ _ _) _ _ _) _ _ _) _ _ _) _

theorem reportUncorrectable_canonical (h : s.canonical) (d : Nat) : (s.reportUncorrectable d).canonical := by
  unfold State.reportUncorrectable
  exact (ddrReport_canonical (ddrField_canonical (ddrField_canonical (ddrField_canonical (ddrField_canonical
    (ddrField_canonical (ddrField_canonical h _ _ _) _ _ _) _ _ _) _ _ _) _ _ _) _ _ _) _).withDdr rfl

theorem reportErrors_canonical (h : s.canonical) (a n : Nat) : (s.reportErrors a n).canonical := by
  unfold State.reportErrors
  split
  · refine foldl_keeps (P := State.canonical) _ ?_ _ h
    intro t d ht
    unfold State.reportDoubleword
    split
    · exact ht
    · exact reportCorrectable_canonical ht d
    · exact reportUncorrectable_canonical ht d
  · exact h

theorem ddrMemRead_canonical (h : s.canonical) (a n : Nat) : (s.ddrMemRead a n).2.canonical := by
  unfold State.ddrMemRead
  split
  · exact ddrOutOfRange_canonical h a n
  · split
    · exact h
    · exact reportErrors_canonical h a n

theorem ddrMemWrite_canonical (h : s.canonical) (a : Nat) (bs : List Byte) : (s.ddrMemWrite a bs).canonical := by
  unfold State.ddrMemWrite
  split
  · exact ddrOutOfRange_canonical h a _
  · split
    · exact h
    · exact (h.withMem (writeBytes_wf h.1 a bs)).withFlips (clearFlips_wf h.2.2.2.2.2 a _)

/-! ### The I/O controller -/

theorem loseDirtyLines_canonical (h : s.canonical) : s.loseDirtyLines.canonical := by
  unfold State.loseDirtyLines
  refine ⟨?_, h.2.1, h.2.2.1, h.2.2.2.1, cellWf_filter _ h.2.2.2.2.1 _, h.2.2.2.2.2⟩
  refine foldl_keeps (P := fun m => Memory.wf m = true) _ ?_ _ h.1
  intro m p hm
  simp only []
  split
  · exact writeBytes_wf hm _ _
  · exact hm

theorem writeReg_canonical (h : s.canonical) (n : Fin 64) (lanes v : Word) : (s.writeReg n lanes v).canonical := by
  have h1 : (s.setReg n ((s.reg n &&& ~~~(regWritable n.val &&& lanes)) |||
      (v &&& (regWritable n.val &&& lanes)))).canonical := h.congr rfl rfl rfl rfl rfl rfl
  unfold State.writeReg
  simp only []
  split
  · exact h.congr rfl rfl rfl rfl rfl rfl
  · exact h.congr rfl rfl rfl rfl rfl rfl
  · split
    · exact h1.congr rfl rfl rfl rfl rfl rfl
    · exact h1
  · split
    · exact loseDirtyLines_canonical h1
    · exact h1
  · exact h1

theorem pciRead_canonical (h : s.canonical) (addr n : Nat) (r : BusRequest) :
    (pciRead s addr n r).Keeps State.canonical := by
  unfold pciRead
  simp only []
  split
  · exact h.congr rfl rfl rfl rfl rfl rfl
  · exact h.congr rfl rfl rfl rfl rfl rfl
  · split
    · trivial
    · exact h.congr rfl rfl rfl rfl rfl rfl

theorem ioRead_canonical (h : s.canonical) (a n : Nat) : (ioRead s a n).Keeps State.canonical := by
  unfold ioRead
  split
  · exact h
  · exact h
  · split
    · trivial
    · exact pciRead_canonical h _ _ _
  · split
    · trivial
    · exact h.congr rfl rfl rfl rfl rfl rfl
  · exact h
  · split
    · exact pciRead_canonical h _ _ _
    · trivial
  · split
    · exact h
    · trivial
  · split
    · exact h
    · trivial
  · split
    · exact pciRead_canonical h _ _ _
    · trivial
  · trivial

theorem ioWrite_canonical (h : s.canonical) (a : Nat) (bs : List Byte) :
    (ioWrite s a bs).Keeps State.canonical := by
  have hl : ∀ r, (s.log r).canonical := fun r => h.congr rfl rfl rfl rfl rfl rfl
  unfold ioWrite
  simp only []
  split
  · exact h
  · exact hl _
  · exact hl _
  · exact hl _
  · exact hl _
  · split
    · exact hl _
    · trivial
  · split
    · exact h.congr rfl rfl rfl rfl rfl rfl
    · trivial
  · split
    · exact writeReg_canonical h _ _ _
    · trivial
  · split
    · exact hl _
    · trivial
  · trivial

/-! ### Accesses at the DDR2 controller -/

theorem ddrCtlWrite_canonical (h : s.canonical) (n : Fin 29) (v : Dword) : (s.ddrCtlWrite n v).canonical := by
  have h1 : (s.ddrField n (ddrWritable n.val) v).canonical := ddrField_canonical h _ _ _
  unfold State.ddrCtlWrite
  simp only []
  split
  · split
    · exact ddrStart_canonical h1
    · exact h1
  · exact h1.congr rfl rfl rfl rfl rfl rfl
  · exact ddrField_canonical h1 _ _ _
  · exact h1

/-- A write in the configuration port writes one register, or nothing (R771). -/
theorem ddrSlotWrite_cases (s : State) (a : Nat) (bs : List Byte) :
    s.ddrSlotWrite a bs = s ∨ ∃ r, s.ddrSlotWrite a bs = s.ddrCtlWrite r (ofBytes 64 bs) := by
  unfold State.ddrSlotWrite
  generalize ddrPortSlot a = slot
  cases slot with
  | none => exact .inl rfl
  | some r => exact .inr ⟨r, rfl⟩

theorem ddrSlotWrite_canonical (h : s.canonical) (a : Nat) (bs : List Byte) : (s.ddrSlotWrite a bs).canonical := by
  rcases ddrSlotWrite_cases s a bs with hs | ⟨r, hs⟩ <;> rw [hs]
  · exact h
  · exact ddrCtlWrite_canonical h r _

theorem masterOnly_canonical (h : s.canonical) {r : Res Unit} (hr : r.Keeps State.canonical) :
    (masterOnly s r).Keeps State.canonical := by
  cases r with
  | ok _ t => exact hr
  | raise e t => exact hr
  | fault _ => exact h
  | refuse _ => exact hr

theorem dmaWriteIo_canonical (h : s.canonical) (a : Nat) (bs : List Byte) :
    (dmaWriteIo s a bs).Keeps State.canonical := by
  have part : ∀ (t : State), t.canonical → ∀ a bs, (masterOnly t (ioWrite t a bs)).Keeps State.canonical :=
    fun t ht a bs => masterOnly_canonical ht (ioWrite_canonical ht a bs)
  unfold dmaWriteIo
  simp only []
  split
  · exact (part s h _ _).bind fun _ t ht => part t ht _ _
  · exact part s h _ _

theorem serveBeat_canonical (h : s.canonical) (b : DmaBeat) : (serveBeat s b).Keeps State.canonical := by
  cases b with
  | read b a n => exact (ddrMemRead_canonical h a n).congr rfl rfl rfl rfl rfl rfl
  | write a bs => exact ddrMemWrite_canonical h a bs
  | portWrite a bs => exact ddrSlotWrite_canonical h a bs
  | ioWrite a bs => exact dmaWriteIo_canonical h a bs

theorem serveBeats_canonical (h : s.canonical) (bs : List DmaBeat) : (serveBeats s bs).Keeps State.canonical := by
  induction bs generalizing s with
  | nil => exact h.congr rfl rfl rfl rfl rfl rfl
  | cons b bs ih =>
    unfold serveBeats
    split
    · exact h.congr rfl rfl rfl rfl rfl rfl
    · exact (serveBeat_canonical h b).bind fun _ _ ht => ih ht

theorem arriveBeat_canonical (h : s.canonical) (b : DmaBeat) : (arriveBeat s b).Keeps State.canonical := by
  unfold arriveBeat
  split
  · exact h.congr rfl rfl rfl rfl rfl rfl
  · exact (serveBeat_canonical h b).bind fun _ _ ht => serveBeats_canonical ht _

theorem ddrPortAccessRead_canonical (h : s.canonical) (a n : Nat) :
    (ddrPortAccessRead s a n).Keeps State.canonical := by
  unfold ddrPortAccessRead
  split
  · split
    · exact h
    · exact h
  · trivial

theorem ddrPortAccessWrite_canonical (h : s.canonical) (a : Nat) (bs : List Byte) :
    (ddrPortAccessWrite s a bs).Keeps State.canonical := by
  unfold ddrPortAccessWrite
  split
  · exact serveBeats_canonical (ddrSlotWrite_canonical h a bs) _
  · trivial

theorem ddrRead_canonical (h : s.canonical) (a n : Nat) : (ddrRead s a n).Keeps State.canonical := by
  unfold ddrRead
  split
  · exact ddrPortAccessRead_canonical h a n
  · split
    · trivial
    · exact ddrMemRead_canonical h a n

theorem ddrWrite_canonical (h : s.canonical) (a : Nat) (bs : List Byte) :
    (ddrWrite s a bs).Keeps State.canonical := by
  unfold ddrWrite
  split
  · exact ddrPortAccessWrite_canonical h a bs
  · split
    · trivial
    · exact ddrMemWrite_canonical h a bs

/-! ### DMA -/

/-- The beats of a write keep what each beat keeps. -/
theorem dmaWriteBeats_keeps {P : State → Prop} (hb : ∀ s a bs, P s → (dmaWriteBeat s a bs).Keeps P) (fuel : Nat)
    (h : P s) (addr : Nat) (bs : List Byte) : (dmaWriteBeats s addr bs fuel).Keeps P := by
  induction fuel generalizing s addr bs with
  | zero => exact h
  | succ fuel ih =>
    unfold dmaWriteBeats
    split
    · exact h
    · exact (hb s _ _ h).bind fun _ _ ht => ih ht _ _

theorem acceptDma_canonical (h : s.canonical) (a : Dword) : (s.acceptDma a).canonical := by
  unfold State.acceptDma
  split
  · exact h.congr rfl rfl rfl rfl rfl rfl
  · exact h

theorem dmaWriteBeat_canonical (h : s.canonical) (addr : Nat) (bs : List Byte) :
    (dmaWriteBeat s addr bs).Keeps State.canonical := by
  have h1 := acceptDma_canonical h (BitVec.ofNat 64 addr)
  unfold dmaWriteBeat
  simp only []
  split
  · exact h
  · split
    · unfold dmaWriteDdr
      split
      · split
        · exact arriveBeat_canonical h1 _
        · trivial
      · exact arriveBeat_canonical h1 _
    · exact arriveBeat_canonical h1 _
    · trivial
    · exact h1

theorem dmaWrite_canonical (h : s.canonical) (addr : Nat) (bs : List Byte) :
    (dmaWrite s addr bs).Keeps State.canonical :=
  dmaWriteBeats_keeps (fun _ a bs ht => dmaWriteBeat_canonical ht a bs) _ h addr bs

theorem cpuIoWrite_canonical (h : s.canonical) (a : Nat) (bs : List Byte) :
    (cpuIoWrite s a bs).Keeps State.canonical := by
  unfold cpuIoWrite
  refine (ioWrite_canonical h a bs).bind fun _ t ht => ?_
  split
  · exact dmaWrite_canonical ht _ _
  · exact ht

/-! ### Physical accesses -/

theorem physRead_canonical (h : s.canonical) (pa : BitVec 40) (n : Nat) :
    (physRead s pa n).Keeps State.canonical := by
  unfold physRead
  split
  · split
    · exact h
    · trivial
  · exact ddrRead_canonical h _ _
  · exact ioRead_canonical h _ _
  · exact h
  · trivial

theorem physWrite_canonical (h : s.canonical) (pa : BitVec 40) (bs : List Byte) :
    (physWrite s pa bs).Keeps State.canonical := by
  unfold physWrite
  split
  · split
    · exact h
    · trivial
  · exact ddrWrite_canonical h _ _
  · exact cpuIoWrite_canonical h _ _
  · exact h
  · trivial

/-! ### The caches -/

theorem invalidateI_canonical (h : s.canonical) (k : Nat) : (s.invalidateI k).canonical := h.setILine _ _

theorem invalidateD_canonical (h : s.canonical) (k : Nat) : (s.invalidateD k).canonical := h.setDLine _ _

theorem writeBackData_canonical (h : s.canonical) (k : Nat) : (writeBackData s k).Keeps State.canonical := by
  unfold writeBackData
  simp only []
  split
  · exact h
  · split
    · exact h.setSLine _ _
    · exact physWrite_canonical h _ _

theorem evictData_canonical (h : s.canonical) (k : Nat) : (evictData s k).Keeps State.canonical :=
  (writeBackData_canonical h k).bind fun _ _ ht => invalidateD_canonical ht k

theorem dropInstructionLines_canonical (h : s.canonical) (pa : BitVec 40) :
    (s.dropInstructionLines pa).canonical := by
  unfold State.dropInstructionLines
  refine foldl_keeps (P := State.canonical) _ ?_ _ h
  intro t k ht
  split
  · exact invalidateI_canonical ht k
  · exact ht

theorem dropDataLines_canonical (h : s.canonical) (pa : BitVec 40) (merge : Bool) (key : Nat) :
    (s.dropDataLines pa merge key).canonical := by
  unfold State.dropDataLines
  refine foldl_keeps (P := State.canonical) _ ?_ _ h
  intro t k ht
  simp only []
  split
  · split
    · exact invalidateD_canonical (ht.setSLine _ _) k
    · exact invalidateD_canonical ht k
  · exact ht

theorem evictSecondary_canonical (h : s.canonical) (k : Nat) (wb : Bool) :
    (evictSecondary s k wb).Keeps State.canonical := by
  unfold evictSecondary
  split
  · exact h
  · have h1 := dropDataLines_canonical (dropInstructionLines_canonical h ((s.sLine k).address k))
      ((s.sLine k).address k) wb k
    simp only []
    split
    · exact physWrite_canonical (h1.setSLine _ _) _ _
    · exact h1.setSLine _ _

theorem readLine_canonical (h : s.canonical) (pa : BitVec 40) (f : Bool) :
    (readLine s pa f).Keeps State.canonical := by
  unfold readLine
  split
  · exact h
  · exact (physRead_canonical h _ _).bind fun _ _ ht => ht

theorem secondaryLine_canonical (h : s.canonical) (pa : BitVec 40) (f : Bool) :
    (secondaryLine s pa f).Keeps State.canonical := by
  unfold secondaryLine
  split
  · exact h
  · split
    · exact (readLine_canonical h _ _).bind fun _ _ ht => ht
    · exact (evictSecondary_canonical h _ _).bind fun _ _ ht =>
        (readLine_canonical ht _ _).bind fun _ _ hu => hu.setSLine _ _

theorem dataLine_canonical (h : s.canonical) (va : Dword) (pa : BitVec 40) :
    (dataLine s va pa).Keeps State.canonical := by
  unfold dataLine
  split
  · exact h
  · exact (evictData_canonical h _).bind fun _ _ ht =>
      (secondaryLine_canonical ht _ _).bind fun _ _ hu => hu.setDLine _ _

theorem instructionLine_canonical (h : s.canonical) (va : Dword) (pa : BitVec 40) :
    (instructionLine s va pa).Keeps State.canonical := by
  unfold instructionLine
  split
  · exact h
  · exact (secondaryLine_canonical h _ _).bind fun _ _ ht => ht.setILine _ _

theorem readCached_canonical (h : s.canonical) (va : Dword) (pa : BitVec 40) (n : Nat) :
    (readCached s va pa n).Keeps State.canonical :=
  (dataLine_canonical h va pa).bind fun _ _ ht => ht

theorem writeCached_canonical (h : s.canonical) (va : Dword) (pa : BitVec 40) (bs : List Byte) :
    (writeCached s va pa bs).Keeps State.canonical :=
  (dataLine_canonical h va pa).bind fun _ _ ht => ht.setDLine _ _

theorem fetchCached_canonical (h : s.canonical) (va : Dword) (pa : BitVec 40) :
    (fetchCached s va pa).Keeps State.canonical :=
  (instructionLine_canonical h va pa).bind fun _ _ ht => ht

/-! ### The gather buffer -/

theorem physWriteEach_canonical (h : s.canonical) (pa : BitVec 40) (bs : List Byte) :
    (physWriteEach s pa bs).Keeps State.canonical := by
  induction bs generalizing s pa with
  | nil => exact h
  | cons b bs ih => exact (physWrite_canonical h pa [b]).bind fun _ _ ht => ih ht (pa + 1)

theorem flushGather_canonical (h : s.canonical) : (flushGather s).Keeps State.canonical := by
  unfold flushGather
  split
  · exact h
  · next g _ =>
    have h1 : State.canonical { s with gather := none } := h
    simp only []
    split
    · exact physWrite_canonical h1 _ _
    · exact physWriteEach_canonical h1 _ _

theorem keepGather_canonical (h : s.canonical) (g : Gather) : (keepGather s g).Keeps State.canonical := by
  have h1 : State.canonical { s with gather := some g } := h
  unfold keepGather
  simp only []
  split
  · exact flushGather_canonical h1
  · exact h1

theorem gatherStore_canonical (h : s.canonical) (pa : BitVec 40) (bs : List Byte) :
    (gatherStore s pa bs).Keeps State.canonical := by
  unfold gatherStore
  split
  · split
    · exact keepGather_canonical h _
    · exact (flushGather_canonical h).bind fun _ _ ht => keepGather_canonical ht _
  · exact keepGather_canonical h _

/-! ### Data accesses -/

theorem dataRead_canonical (h : s.canonical) (c : BitVec 3) (va : Dword) (pa : BitVec 40) (n : Nat) :
    (dataRead s c va pa n).Keeps State.canonical := by
  unfold dataRead
  split
  · exact readCached_canonical h _ _ _
  · refine (flushGather_canonical h).bind fun _ t ht => ?_
    split
    · exact ht
    · exact physRead_canonical ht _ _

theorem dataWrite_canonical (h : s.canonical) (c : BitVec 3) (va : Dword) (pa : BitVec 40) (bs : List Byte) :
    (dataWrite s c va pa bs).Keeps State.canonical := by
  unfold dataWrite
  split
  · exact writeCached_canonical h _ _ _
  · split
    · exact gatherStore_canonical h _ _
    · exact (flushGather_canonical h).bind fun _ _ ht => physWrite_canonical ht _ _

theorem checkPage_canonical (h : s.canonical) (k : Access) (va : Dword) (p : TlbPage) (n : Nat) :
    (checkPage s k va p n).Keeps State.canonical := by
  unfold checkPage
  repeat' split
  all_goals exact h

theorem translate_canonical (h : s.canonical) (k : Access) (va : Dword) :
    (translate s k va).Keeps State.canonical := by
  unfold translate
  split
  · trivial
  · split
    · exact h
    · exact h
    · split
      · unfold translateFetch
        split
        · unfold translateMapped
          split
          · exact h
          · trivial
          · exact checkPage_canonical h _ _ _ _
        · split
          · exact checkPage_canonical h _ _ _ _
          · split
            · exact h
            · trivial
            · exact (checkPage_canonical h _ _ _ _).bind fun _ _ ht => ht
      · unfold translateMapped
        split
        · exact h
        · trivial
        · exact checkPage_canonical h _ _ _ _

theorem dataAddress_canonical (h : s.canonical) (st : Bool) (va : Dword) :
    (dataAddress s st va).Keeps State.canonical := by
  unfold dataAddress
  refine (translate_canonical h _ va).bind fun _ t ht => ?_
  split <;> exact ht

theorem alignedAddress_canonical (h : s.canonical) (st : Bool) (va : Dword) (n : Nat) :
    (alignedAddress s st va n).Keeps State.canonical := by
  unfold alignedAddress
  split
  · exact dataAddress_canonical h st va
  · exact h

theorem memRead_canonical (h : s.canonical) (va : Dword) (n : Nat) : (memRead s va n).Keeps State.canonical :=
  Res.Keeps.precise ((alignedAddress_canonical h _ _ _).bind fun _ _ ht =>
    Res.Keeps.bind (dataRead_canonical ht _ _ _ _) fun _ _ hu => hu) h

theorem memWrite_canonical (h : s.canonical) (va : Dword) (n : Nat) (v : Dword) :
    (memWrite s va n v).Keeps State.canonical :=
  ((alignedAddress_canonical h _ _ _).bind fun _ _ ht => dataWrite_canonical ht _ _ _ _).precise h

theorem memReadPart_canonical (h : s.canonical) (va first : Dword) (n : Nat) :
    (memReadPart s va first n).Keeps State.canonical :=
  Res.Keeps.precise ((dataAddress_canonical h _ _).bind fun _ _ ht =>
    Res.Keeps.bind (dataRead_canonical ht _ _ _ _) fun _ _ hu => hu) h

theorem memWritePart_canonical (h : s.canonical) (va first : Dword) (n : Nat) (v : Dword) :
    (memWritePart s va first n v).Keeps State.canonical :=
  ((dataAddress_canonical h _ _).bind fun _ _ ht => dataWrite_canonical ht _ _ _ _).precise h

theorem memWriteConditional_canonical (h : s.canonical) (va : Dword) (n : Nat) (v : Dword) :
    (memWriteConditional s va n v).Keeps State.canonical := by
  unfold memWriteConditional
  refine Res.Keeps.precise ((alignedAddress_canonical h _ _ _).bind fun _ t ht => ?_) h
  split
  · exact dataWrite_canonical ht _ _ _ _
  · exact ht

theorem fetch_canonical (h : s.canonical) : (fetch s).Keeps State.canonical := by
  unfold fetch
  refine Res.Keeps.precise (Res.Keeps.bind ?_ fun r t ht => Res.Keeps.bind ?_ fun _ u hu => hu) h
  · split
    · exact translate_canonical h _ _
    · exact h
  · unfold fetchWord
    split
    · exact fetchCached_canonical ht _ _
    · refine (flushGather_canonical ht).bind fun _ u hu => ?_
      split
      · exact hu
      · exact (physRead_canonical hu _ _).bind fun _ _ hv => hv

end Sys2Proof.Machine
end

