-- ==== Sys2Proof/Laws/Decode.lean ====
section
/-! SUPPORT. The fields of a word written in each format: what the decoder reads back. -/

namespace Sys2Proof

/-- A slice of the upper part of an appended bit vector. -/
theorem extract_append_high {w v n k : Nat} (x : BitVec w) (y : BitVec v) (h : v ≤ k) :
    (x ++ y).extractLsb' k n = x.extractLsb' (k - v) n := BitVec.extractLsb'_append_eq_of_le h

/-- A slice of the lower part of an appended bit vector. -/
theorem extract_append_low {w v n k : Nat} (x : BitVec w) (y : BitVec v) (h : k + n ≤ v) :
    (x ++ y).extractLsb' k n = y.extractLsb' k n := BitVec.extractLsb'_append_eq_of_add_le h

/-! ### `iType` -/

@[simp] theorem opOf_iType (op : BitVec 6) (rs : BitVec 5) (rt : BitVec 5) (imm : BitVec 16) :
    opOf (iType op rs rt imm) = op := by
  show (op ++ rs ++ rt ++ imm : BitVec (6 + 5 + 5 + 16)).extractLsb' 26 6 = _
  simp (disch := decide) only [extract_append_high]
  exact BitVec.extractLsb'_eq_self

@[simp] theorem rsOf_iType (op : BitVec 6) (rs : BitVec 5) (rt : BitVec 5) (imm : BitVec 16) :
    rsOf (iType op rs rt imm) = rs := by
  show (op ++ rs ++ rt ++ imm : BitVec (6 + 5 + 5 + 16)).extractLsb' 21 5 = _
  simp (disch := decide) only [extract_append_high, extract_append_low]
  exact BitVec.extractLsb'_eq_self

@[simp] theorem rtOf_iType (op : BitVec 6) (rs : BitVec 5) (rt : BitVec 5) (imm : BitVec 16) :
    rtOf (iType op rs rt imm) = rt := by
  show (op ++ rs ++ rt ++ imm : BitVec (6 + 5 + 5 + 16)).extractLsb' 16 5 = _
  simp (disch := decide) only [extract_append_high, extract_append_low]
  exact BitVec.extractLsb'_eq_self

@[simp] theorem immOf_iType (op : BitVec 6) (rs : BitVec 5) (rt : BitVec 5) (imm : BitVec 16) :
    immOf (iType op rs rt imm) = imm := by
  show (op ++ rs ++ rt ++ imm : BitVec (6 + 5 + 5 + 16)).extractLsb' 0 16 = _
  simp (disch := decide) only [extract_append_low]
  exact BitVec.extractLsb'_eq_self

/-! ### `jType` -/

@[simp] theorem opOf_jType (op : BitVec 6) (target : BitVec 26) :
    opOf (jType op target) = op := by
  show (op ++ target : BitVec (6 + 26)).extractLsb' 26 6 = _
  simp (disch := decide) only [extract_append_high]
  exact BitVec.extractLsb'_eq_self

@[simp] theorem targetOf_jType (op : BitVec 6) (target : BitVec 26) :
    targetOf (jType op target) = target := by
  show (op ++ target : BitVec (6 + 26)).extractLsb' 0 26 = _
  simp (disch := decide) only [extract_append_low]
  exact BitVec.extractLsb'_eq_self

/-! ### `rType` -/

@[simp] theorem opOf_rType (op : BitVec 6) (rs : BitVec 5) (rt : BitVec 5) (rd : BitVec 5) (sa : BitVec 5) (funct : BitVec 6) :
    opOf (rType op rs rt rd sa funct) = op := by
  show (op ++ rs ++ rt ++ rd ++ sa ++ funct : BitVec (6 + 5 + 5 + 5 + 5 + 6)).extractLsb' 26 6 = _
  simp (disch := decide) only [extract_append_high]
  exact BitVec.extractLsb'_eq_self

@[simp] theorem rsOf_rType (op : BitVec 6) (rs : BitVec 5) (rt : BitVec 5) (rd : BitVec 5) (sa : BitVec 5) (funct : BitVec 6) :
    rsOf (rType op rs rt rd sa funct) = rs := by
  show (op ++ rs ++ rt ++ rd ++ sa ++ funct : BitVec (6 + 5 + 5 + 5 + 5 + 6)).extractLsb' 21 5 = _
  simp (disch := decide) only [extract_append_high, extract_append_low]
  exact BitVec.extractLsb'_eq_self

@[simp] theorem rtOf_rType (op : BitVec 6) (rs : BitVec 5) (rt : BitVec 5) (rd : BitVec 5) (sa : BitVec 5) (funct : BitVec 6) :
    rtOf (rType op rs rt rd sa funct) = rt := by
  show (op ++ rs ++ rt ++ rd ++ sa ++ funct : BitVec (6 + 5 + 5 + 5 + 5 + 6)).extractLsb' 16 5 = _
  simp (disch := decide) only [extract_append_high, extract_append_low]
  exact BitVec.extractLsb'_eq_self

@[simp] theorem rdOf_rType (op : BitVec 6) (rs : BitVec 5) (rt : BitVec 5) (rd : BitVec 5) (sa : BitVec 5) (funct : BitVec 6) :
    rdOf (rType op rs rt rd sa funct) = rd := by
  show (op ++ rs ++ rt ++ rd ++ sa ++ funct : BitVec (6 + 5 + 5 + 5 + 5 + 6)).extractLsb' 11 5 = _
  simp (disch := decide) only [extract_append_high, extract_append_low]
  exact BitVec.extractLsb'_eq_self

@[simp] theorem saOf_rType (op : BitVec 6) (rs : BitVec 5) (rt : BitVec 5) (rd : BitVec 5) (sa : BitVec 5) (funct : BitVec 6) :
    saOf (rType op rs rt rd sa funct) = sa := by
  show (op ++ rs ++ rt ++ rd ++ sa ++ funct : BitVec (6 + 5 + 5 + 5 + 5 + 6)).extractLsb' 6 5 = _
  simp (disch := decide) only [extract_append_high, extract_append_low]
  exact BitVec.extractLsb'_eq_self

@[simp] theorem functOf_rType (op : BitVec 6) (rs : BitVec 5) (rt : BitVec 5) (rd : BitVec 5) (sa : BitVec 5) (funct : BitVec 6) :
    functOf (rType op rs rt rd sa funct) = funct := by
  show (op ++ rs ++ rt ++ rd ++ sa ++ funct : BitVec (6 + 5 + 5 + 5 + 5 + 6)).extractLsb' 0 6 = _
  simp (disch := decide) only [extract_append_low]
  exact BitVec.extractLsb'_eq_self

/-! ### `codeType` -/

@[simp] theorem opOf_codeType (op : BitVec 6) (code : BitVec 20) (funct : BitVec 6) :
    opOf (codeType op code funct) = op := by
  show (op ++ code ++ funct : BitVec (6 + 20 + 6)).extractLsb' 26 6 = _
  simp (disch := decide) only [extract_append_high]
  exact BitVec.extractLsb'_eq_self

@[simp] theorem codeOf_codeType (op : BitVec 6) (code : BitVec 20) (funct : BitVec 6) :
    codeOf (codeType op code funct) = code := by
  show (op ++ code ++ funct : BitVec (6 + 20 + 6)).extractLsb' 6 20 = _
  simp (disch := decide) only [extract_append_high, extract_append_low]
  exact BitVec.extractLsb'_eq_self

@[simp] theorem functOf_codeType (op : BitVec 6) (code : BitVec 20) (funct : BitVec 6) :
    functOf (codeType op code funct) = funct := by
  show (op ++ code ++ funct : BitVec (6 + 20 + 6)).extractLsb' 0 6 = _
  simp (disch := decide) only [extract_append_low]
  exact BitVec.extractLsb'_eq_self

/-! ### `trapType` -/

@[simp] theorem opOf_trapType (op : BitVec 6) (rs : BitVec 5) (rt : BitVec 5) (code : BitVec 10) (funct : BitVec 6) :
    opOf (trapType op rs rt code funct) = op := by
  show (op ++ rs ++ rt ++ code ++ funct : BitVec (6 + 5 + 5 + 10 + 6)).extractLsb' 26 6 = _
  simp (disch := decide) only [extract_append_high]
  exact BitVec.extractLsb'_eq_self

@[simp] theorem rsOf_trapType (op : BitVec 6) (rs : BitVec 5) (rt : BitVec 5) (code : BitVec 10) (funct : BitVec 6) :
    rsOf (trapType op rs rt code funct) = rs := by
  show (op ++ rs ++ rt ++ code ++ funct : BitVec (6 + 5 + 5 + 10 + 6)).extractLsb' 21 5 = _
  simp (disch := decide) only [extract_append_high, extract_append_low]
  exact BitVec.extractLsb'_eq_self

@[simp] theorem rtOf_trapType (op : BitVec 6) (rs : BitVec 5) (rt : BitVec 5) (code : BitVec 10) (funct : BitVec 6) :
    rtOf (trapType op rs rt code funct) = rt := by
  show (op ++ rs ++ rt ++ code ++ funct : BitVec (6 + 5 + 5 + 10 + 6)).extractLsb' 16 5 = _
  simp (disch := decide) only [extract_append_high, extract_append_low]
  exact BitVec.extractLsb'_eq_self

@[simp] theorem trapCodeOf_trapType (op : BitVec 6) (rs : BitVec 5) (rt : BitVec 5) (code : BitVec 10) (funct : BitVec 6) :
    trapCodeOf (trapType op rs rt code funct) = code := by
  show (op ++ rs ++ rt ++ code ++ funct : BitVec (6 + 5 + 5 + 10 + 6)).extractLsb' 6 10 = _
  simp (disch := decide) only [extract_append_high, extract_append_low]
  exact BitVec.extractLsb'_eq_self

@[simp] theorem functOf_trapType (op : BitVec 6) (rs : BitVec 5) (rt : BitVec 5) (code : BitVec 10) (funct : BitVec 6) :
    functOf (trapType op rs rt code funct) = funct := by
  show (op ++ rs ++ rt ++ code ++ funct : BitVec (6 + 5 + 5 + 10 + 6)).extractLsb' 0 6 = _
  simp (disch := decide) only [extract_append_low]
  exact BitVec.extractLsb'_eq_self

/-! ### A word is made of its fields -/

theorem iType_fields (w : Word) : iType (opOf w) (rsOf w) (rtOf w) (immOf w) = w := by
  unfold iType opOf rsOf rtOf immOf
  apply BitVec.eq_of_getLsbD_eq
  intro i hi
  simp only [BitVec.getLsbD_append, BitVec.getLsbD_extractLsb']
  split
  · next h => simp [h]
  · next h =>
    split
    · next h => simp [h, show 16 + (i - 16) = i by omega]
    · next h =>
      split
      · next h => simp [h, show 21 + (i - 16 - 5) = i by omega]
      · next h =>
        simp [show i - 16 - 5 - 5 < 6 by omega, show 26 + (i - 16 - 5 - 5) = i by omega]

theorem jType_fields (w : Word) : jType (opOf w) (targetOf w) = w := by
  unfold jType opOf targetOf
  apply BitVec.eq_of_getLsbD_eq
  intro i hi
  simp only [BitVec.getLsbD_append, BitVec.getLsbD_extractLsb']
  split
  · next h => simp [h]
  · next h =>
    simp [show i - 26 < 6 by omega, show 26 + (i - 26) = i by omega]

theorem rType_fields (w : Word) : rType (opOf w) (rsOf w) (rtOf w) (rdOf w) (saOf w) (functOf w) = w := by
  unfold rType opOf rsOf rtOf rdOf saOf functOf
  apply BitVec.eq_of_getLsbD_eq
  intro i hi
  simp only [BitVec.getLsbD_append, BitVec.getLsbD_extractLsb']
  split
  · next h => simp [h]
  · next h =>
    split
    · next h => simp [h, show 6 + (i - 6) = i by omega]
    · next h =>
      split
      · next h => simp [h, show 11 + (i - 6 - 5) = i by omega]
      · next h =>
        split
        · next h => simp [h, show 16 + (i - 6 - 5 - 5) = i by omega]
        · next h =>
          split
          · next h => simp [h, show 21 + (i - 6 - 5 - 5 - 5) = i by omega]
          · next h =>
            simp [show i - 6 - 5 - 5 - 5 - 5 < 6 by omega, show 26 + (i - 6 - 5 - 5 - 5 - 5) = i by omega]

theorem codeType_fields (w : Word) : codeType (opOf w) (codeOf w) (functOf w) = w := by
  unfold codeType opOf codeOf functOf
  apply BitVec.eq_of_getLsbD_eq
  intro i hi
  simp only [BitVec.getLsbD_append, BitVec.getLsbD_extractLsb']
  split
  · next h => simp [h]
  · next h =>
    split
    · next h => simp [h, show 6 + (i - 6) = i by omega]
    · next h =>
      simp [show i - 6 - 20 < 6 by omega, show 26 + (i - 6 - 20) = i by omega]

theorem trapType_fields (w : Word) : trapType (opOf w) (rsOf w) (rtOf w) (trapCodeOf w) (functOf w) = w := by
  unfold trapType opOf rsOf rtOf trapCodeOf functOf
  apply BitVec.eq_of_getLsbD_eq
  intro i hi
  simp only [BitVec.getLsbD_append, BitVec.getLsbD_extractLsb']
  split
  · next h => simp [h]
  · next h =>
    split
    · next h => simp [h, show 6 + (i - 6) = i by omega]
    · next h =>
      split
      · next h => simp [h, show 16 + (i - 6 - 10) = i by omega]
      · next h =>
        split
        · next h => simp [h, show 21 + (i - 6 - 10 - 5) = i by omega]
        · next h =>
          simp [show i - 6 - 10 - 5 - 5 < 6 by omega, show 26 + (i - 6 - 10 - 5 - 5) = i by omega]

/-! ### Runs of fields that must be zero (R182) -/

theorem low11_rType (op : BitVec 6) (rs rt rd : Reg) (sa : BitVec 5) (funct : BitVec 6) :
    (rType op rs rt rd sa funct).extractLsb' 0 11 = sa ++ funct := by
  unfold rType
  apply BitVec.eq_of_getLsbD_eq
  intro i hi
  simp only [BitVec.getLsbD_extractLsb', BitVec.getLsbD_append, hi]
  have h : i - 6 < 5 := by omega
  simp [h]

theorem middle15_rType (op : BitVec 6) (rs rt rd : Reg) (sa : BitVec 5) (funct : BitVec 6) :
    (rType op rs rt rd sa funct).extractLsb' 6 15 = rt ++ rd ++ sa := by
  unfold rType
  apply BitVec.eq_of_getLsbD_eq
  intro i hi
  simp only [BitVec.getLsbD_extractLsb', BitVec.getLsbD_append, hi]
  have h1 : ¬ 6 + i < 6 := by omega
  have h2 : 6 + i - 6 = i := by omega
  simp only [h1, h2]
  have h3 : i - 5 - 5 < 5 := by omega
  simp [h3]

end Sys2Proof
end

