-- ==== Sys2Proof/Laws/Devices.lean ====
section
/-! SUPPORT. What the DDR2 memory does while it has no bit error and nothing waits, what the beats of DMA keep, the
state after reset field by field, and the parameters at their defaults. -/

namespace Sys2Proof.Machine

variable {s : State}

/-! ### Memory without bit errors (R786) -/

theorem flipsAt_of_no_flips (h : s.ddr.flips = []) (d : Nat) : s.flipsAt d = 0 := by
  simp [State.flipsAt, h, cellGet]

theorem flipCount_of_no_flips (h : s.ddr.flips = []) (d : Nat) : s.flipCount d = 0 := by
  simp [State.flipCount, flipsAt_of_no_flips h]

theorem dramByte_of_no_flips (h : s.ddr.flips = []) (a : Nat) : s.dramByte a = readByte s.mem a := by
  simp [State.dramByte, State.deliveredFlips, flipsAt_of_no_flips h]

theorem reportErrors_of_no_flips (h : s.ddr.flips = []) (a n : Nat) : s.reportErrors a n = s := by
  have hd : ∀ l : List Nat, l.foldl State.reportDoubleword s = s := by
    intro l
    induction l with
    | nil => rfl
    | cons d l ih => rw [List.foldl_cons, show s.reportDoubleword d = s by
        simp [State.reportDoubleword, flipCount_of_no_flips h], ih]
  unfold State.reportErrors
  split
  · exact hd _
  · rfl

/-- A read of initialised memory without bit errors answers its bytes and changes nothing. -/
theorem ddrMemRead_of_no_flips (hs : s.ddr.ready = true) (hf : s.ddr.flips = []) {a : Nat} (ha : a < s.ddrSize)
    (n : Nat) : s.ddrMemRead a n = (readBytes s.mem a n, s) := by
  simp [State.ddrMemRead, Nat.not_le.mpr ha, hs, dramByte_of_no_flips hf, reportErrors_of_no_flips hf, readBytes]

/-- A write of initialised memory without bit errors changes the memory alone. -/
theorem ddrMemWrite_of_no_flips (hs : s.ddr.ready = true) (hf : s.ddr.flips = []) {a : Nat} (ha : a < s.ddrSize)
    (bs : List Byte) : s.ddrMemWrite a bs = { s with mem := writeBytes s.mem a bs } := by
  have hd : { s.ddr with flips := clearFlips s.ddr.flips a bs.length } = s.ddr := by
    have he : clearFlips s.ddr.flips a bs.length = s.ddr.flips := by rw [hf]; rfl
    rw [he]
  unfold State.ddrMemWrite
  rw [if_neg (Nat.not_le.mpr ha), if_neg (by simp [hs]), hd]

/-- With nothing waiting nothing is served. -/
theorem serveWaiting_of_nil (h : s.ddr.waiting = []) : serveWaiting s = .ok () s := by
  have hd : { s.ddr with waiting := [] } = s.ddr := by rw [← h]
  unfold serveWaiting
  rw [h]
  unfold serveBeats
  rw [hd]

/-- While no read waits, or while pcix_ro_en lets writes pass, a write that needs no memory does not wait (R717). -/
theorem beatWaits_of_passing {b : DmaBeat} (hb : b.needsMemory = false)
    (h : s.readWaits = false ∨ s.writesPass = true) : s.beatWaits b = false := by
  rcases h with h | h <;> simp [State.beatWaits, hb, h]

/-- A write does not pass a read that waits while pcix_ro_en is 0 (R717). -/
theorem beatWaits_of_read_waiting {b : DmaBeat} (hb : b.needsMemory = false) (hr : s.readWaits = true)
    (hp : s.writesPass = false) : s.beatWaits b = true := by
  simp [State.beatWaits, hb, hr, hp]

/-! ### DMA (R713) -/

/-- The beats of a read keep what each beat keeps. -/
theorem dmaReadBeats_keeps {P : State → Prop} (hb : ∀ s a n, P s → (dmaReadBeat s a n).Keeps P) (fuel : Nat) (h : P s)
    (addr count : Nat) : (dmaReadBeats s addr count fuel).Keeps P := by
  induction fuel generalizing s addr count with
  | zero => exact h
  | succ fuel ih =>
    unfold dmaReadBeats
    split
    · exact h
    · exact (hb s _ _ h).bind fun _ _ ht => ih ht _ _

/-- A beat of a write that no incoming window takes does nothing. -/
theorem dmaWriteBeat_of_not_incoming {addr : Nat} (h : s.incoming (BitVec.ofNat 64 addr) = false) (bs : List Byte) :
    dmaWriteBeat s addr bs = .ok () s := by
  simp [dmaWriteBeat, h]

/-- A write of a PCI master while no incoming window takes an address does nothing. -/
theorem dmaWrite_of_not_incoming (h : ∀ a, s.incoming a = false) (addr : Nat) (bs : List Byte) :
    dmaWrite s addr bs = .ok () s := by
  unfold dmaWrite
  generalize bs.length = fuel
  induction fuel generalizing addr bs with
  | zero => rfl
  | succ fuel ih =>
    unfold dmaWriteBeats
    split
    · rfl
    · rw [dmaWriteBeat_of_not_incoming (h _)]
      exact ih _ _

/-- Outside PCI memory a write of the CPU at the I/O controller is just that. -/
theorem cpuIoWrite_of_not_pciMem {a : Nat} (h : ∀ addr, s.region a ≠ .pciMem addr) (bs : List Byte) :
    cpuIoWrite s a bs = ioWrite s a bs := by
  unfold cpuIoWrite
  split
  · exact absurd ‹_› (h _)
  · cases ioWrite s a bs <;> rfl

/-- In PCI memory it leaves the chip and comes in where an incoming window takes its bus address (R713). -/
theorem cpuIoWrite_pciMem {a addr : Nat} (h : s.region a = .pciMem addr) (bs : List Byte) :
    cpuIoWrite s a bs = dmaWrite (s.log (.pciMemWrite addr bs)) addr bs := by
  simp [cpuIoWrite, ioWrite, h, Res.bind]

/-! ### The state after reset (R90, R790) -/

@[simp] theorem resetWith_params (p : Config.Params) : (State.resetWith p).params = p := rfl
@[simp] theorem resetWith_pc (p : Config.Params) : (State.resetWith p).pc = 0xFFFFFFFFBFC00000 := rfl
@[simp] theorem resetWith_delay (p : Config.Params) : (State.resetWith p).delay = none := rfl
@[simp] theorem resetWith_cp0 (p : Config.Params) : (State.resetWith p).cp0 = Cp0.reset := rfl
@[simp] theorem resetWith_fcr31 (p : Config.Params) : (State.resetWith p).fcr31 = 0 := rfl
@[simp] theorem resetWith_gpr (p : Config.Params) : (State.resetWith p).gpr = Vector.replicate 32 0 := rfl
@[simp] theorem resetWith_windows (p : Config.Params) : (State.resetWith p).windows = windowsReset := rfl
@[simp] theorem resetWith_ddr (p : Config.Params) : (State.resetWith p).ddr = Ddr.reset := rfl
@[simp] theorem resetWith_io (p : Config.Params) : (State.resetWith p).io = Io.reset p := rfl
@[simp] theorem resetWith_pins (p : Config.Params) : (State.resetWith p).pins = Pins.reset := rfl
@[simp] theorem resetWith_mem (p : Config.Params) : (State.resetWith p).mem = [] := rfl
@[simp] theorem resetWith_rom (p : Config.Params) : (State.resetWith p).rom = [] := rfl
@[simp] theorem resetWith_icache (p : Config.Params) : (State.resetWith p).icache = [] := rfl
@[simp] theorem resetWith_dcache (p : Config.Params) : (State.resetWith p).dcache = [] := rfl
@[simp] theorem resetWith_scache (p : Config.Params) : (State.resetWith p).scache = [] := rfl
@[simp] theorem resetWith_gather (p : Config.Params) : (State.resetWith p).gather = none := rfl
@[simp] theorem resetWith_events (p : Config.Params) : (State.resetWith p).events = [] := rfl
@[simp] theorem resetWith_irqHeld (p : Config.Params) : (State.resetWith p).irqHeld = 0 := rfl

/-! ### The parameters at their defaults -/

@[simp] theorem reset_params : State.reset.params = Config.Params.default := rfl

/-- Without a latency an interrupt is due as soon as its condition holds (R670). -/
theorem interruptDue_of_no_latency (h : s.params.interruptLatency = 0) : s.interruptDue = s.interruptPending := by
  simp [State.interruptDue, h]

/-- Without a table of its own the encodings are those of R186. -/
@[simp] theorem decodeFor_none (w : Word) : decodeFor none w = decode w := rfl

end Sys2Proof.Machine
end

