-- ==== Sys2Proof/Tests/Slice0.lean ====
section
/-! SUPPORT. Tests: the smoke test of WellFormed, the decoding of one written-out word per row of the opcode table, the
worked examples of spec/95_test_vectors.md as single steps on a small state, and for every statement with hypotheses a
state and operands that meet them.  Every expected value is the spec's, not the model's. -/

open Sys2Proof Sys2Proof.Machine

namespace Sys2Proof.Tests

/-! ### WellFormed -/

/-- The general CACHE row holds none of the fifteen operations of Table 8-3, which have rows of their own (R183,
R450). -/
theorem test_wellFormed_refuses_defined_cache_operations :
    (Instr.cache 4 0b00000 8).wellFormed = false ∧ (Instr.cache 4 0b00001 8).wellFormed = false ∧
    (Instr.cache 4 0b00101 8).wellFormed = false ∧ (Instr.cache 4 0b01001 8).wellFormed = false ∧
    (Instr.cache 4 0b10001 8).wellFormed = false ∧ (Instr.cache 4 0b10101 8).wellFormed = false ∧
    (Instr.cache 4 0b11001 8).wellFormed = false ∧ (Instr.cache 4 0b11101 8).wellFormed = false ∧
    (Instr.cache 4 0b00011 8).wellFormed = false ∧ (Instr.cache 4 0b00111 8).wellFormed = false ∧
    (Instr.cache 4 0b01011 8).wellFormed = false ∧ (Instr.cache 4 0b10011 8).wellFormed = false ∧
    (Instr.cache 4 0b10111 8).wellFormed = false ∧ (Instr.cache 4 0b11011 8).wellFormed = false ∧
    (Instr.cache 4 0b11111 8).wellFormed = false := by decide

/-- An operation that Table 8-3 does not hold is the general row's. -/
theorem test_wellFormed_accepts_other_cache_operations : (Instr.cache 4 0b00010 8).wellFormed = true := by decide

/-- The word of a defined operation, put into the general row, does not come back as that row (R183). -/
theorem test_decode_of_ill_formed_cache :
    decode (encode (.cache 4 0b00001 8)) = .ok (.cache_index_writeback_invalidate_d 4 8) := by rfl

/-! ### Decoding -/

/-- Words of spec/40_load_store.md, each written out from its row's opcode and selector fields with distinct operands. -/
theorem test_decode_loads_and_stores :
    decode 0x8089FFF0 = .ok (.lb 4 9 0xfff0) ∧
    decode 0x9089FFF0 = .ok (.lbu 4 9 0xfff0) ∧
    decode 0x8489FFF0 = .ok (.lh 4 9 0xfff0) ∧
    decode 0x9489FFF0 = .ok (.lhu 4 9 0xfff0) ∧
    decode 0x8C89FFF0 = .ok (.lw 4 9 0xfff0) ∧
    decode 0x9C89FFF0 = .ok (.lwu 4 9 0xfff0) ∧
    decode 0xDC89FFF0 = .ok (.ld 4 9 0xfff0) ∧
    decode 0x8889FFF0 = .ok (.lwl 4 9 0xfff0) ∧
    decode 0x9889FFF0 = .ok (.lwr 4 9 0xfff0) ∧
    decode 0xA889FFF0 = .ok (.swl 4 9 0xfff0) ∧
    decode 0xB889FFF0 = .ok (.swr 4 9 0xfff0) ∧
    decode 0x6889FFF0 = .ok (.ldl 4 9 0xfff0) ∧
    decode 0x6C89FFF0 = .ok (.ldr 4 9 0xfff0) ∧
    decode 0xB089FFF0 = .ok (.sdl 4 9 0xfff0) ∧
    decode 0xB489FFF0 = .ok (.sdr 4 9 0xfff0) ∧
    decode 0xA089FFF0 = .ok (.sb 4 9 0xfff0) ∧
    decode 0xA489FFF0 = .ok (.sh 4 9 0xfff0) ∧
    decode 0xAC89FFF0 = .ok (.sw 4 9 0xfff0) ∧
    decode 0xFC89FFF0 = .ok (.sd 4 9 0xfff0) ∧
    decode 0xC089FFF0 = .ok (.ll 4 9 0xfff0) ∧
    decode 0xD089FFF0 = .ok (.lld 4 9 0xfff0) ∧
    decode 0xE089FFF0 = .ok (.sc 4 9 0xfff0) ∧
    decode 0xF089FFF0 = .ok (.scd 4 9 0xfff0) ∧
    decode 0xC486FFF0 = .ok (.lwc1 4 6 0xfff0) ∧
    decode 0xD486FFF0 = .ok (.ldc1 4 6 0xfff0) ∧
    decode 0xE486FFF0 = .ok (.swc1 4 6 0xfff0) ∧
    decode 0xF486FFF0 = .ok (.sdc1 4 6 0xfff0) := by
  refine ⟨rfl, rfl, rfl, rfl, rfl, rfl, rfl, rfl, rfl, rfl, rfl, rfl, rfl, rfl, rfl, rfl, rfl, rfl, rfl, rfl, rfl, rfl, rfl, rfl, rfl, rfl, rfl⟩

/-- Words of spec/41_alu_immediate.md, each written out from its row's opcode and selector fields with distinct operands. -/
theorem test_decode_immediate :
    decode 0x21098001 = .ok (.addi 8 9 0x8001) ∧
    decode 0x61098001 = .ok (.daddi 8 9 0x8001) ∧
    decode 0x25098001 = .ok (.addiu 8 9 0x8001) ∧
    decode 0x65098001 = .ok (.daddiu 8 9 0x8001) ∧
    decode 0x29098001 = .ok (.slti 8 9 0x8001) ∧
    decode 0x2D098001 = .ok (.sltiu 8 9 0x8001) ∧
    decode 0x31098001 = .ok (.andi 8 9 0x8001) ∧
    decode 0x35098001 = .ok (.ori 8 9 0x8001) ∧
    decode 0x39098001 = .ok (.xori 8 9 0x8001) ∧
    decode 0x3C098001 = .ok (.lui 9 0x8001) := by
  refine ⟨rfl, rfl, rfl, rfl, rfl, rfl, rfl, rfl, rfl, rfl⟩

/-- Words of spec/42_alu_register.md, each written out from its row's opcode and selector fields with distinct operands. -/
theorem test_decode_registers :
    decode 0x01095020 = .ok (.add 8 9 10) ∧
    decode 0x01095021 = .ok (.addu 8 9 10) ∧
    decode 0x01095022 = .ok (.sub 8 9 10) ∧
    decode 0x01095023 = .ok (.subu 8 9 10) ∧
    decode 0x0109502C = .ok (.dadd 8 9 10) ∧
    decode 0x0109502D = .ok (.daddu 8 9 10) ∧
    decode 0x0109502E = .ok (.dsub 8 9 10) ∧
    decode 0x0109502F = .ok (.dsubu 8 9 10) ∧
    decode 0x0109502A = .ok (.slt 8 9 10) ∧
    decode 0x0109502B = .ok (.sltu 8 9 10) ∧
    decode 0x01095024 = .ok (.and 8 9 10) ∧
    decode 0x01095025 = .ok (.or 8 9 10) ∧
    decode 0x01095026 = .ok (.xor 8 9 10) ∧
    decode 0x01095027 = .ok (.nor 8 9 10) ∧
    decode 0x0109500A = .ok (.movz 8 9 10) ∧
    decode 0x0109500B = .ok (.movn 8 9 10) := by
  refine ⟨rfl, rfl, rfl, rfl, rfl, rfl, rfl, rfl, rfl, rfl, rfl, rfl, rfl, rfl, rfl, rfl⟩

/-- Words of spec/43_muldiv.md, each written out from its row's opcode and selector fields with distinct operands. -/
theorem test_decode_multiply_divide :
    decode 0x01090018 = .ok (.mult 8 9) ∧
    decode 0x01090019 = .ok (.multu 8 9) ∧
    decode 0x0109001C = .ok (.dmult 8 9) ∧
    decode 0x0109001D = .ok (.dmultu 8 9) ∧
    decode 0x0109001A = .ok (.div 8 9) ∧
    decode 0x0109001B = .ok (.divu 8 9) ∧
    decode 0x0109001E = .ok (.ddiv 8 9) ∧
    decode 0x0109001F = .ok (.ddivu 8 9) ∧
    decode 0x00005010 = .ok (.mfhi 10) ∧
    decode 0x01000011 = .ok (.mthi 8) ∧
    decode 0x00005012 = .ok (.mflo 10) ∧
    decode 0x01000013 = .ok (.mtlo 8) ∧
    decode 0x71095010 = .ok (.multg 8 9 10) ∧
    decode 0x71095012 = .ok (.multug 8 9 10) ∧
    decode 0x71095011 = .ok (.dmultg 8 9 10) ∧
    decode 0x71095013 = .ok (.dmultug 8 9 10) ∧
    decode 0x71095014 = .ok (.divg 8 9 10) ∧
    decode 0x71095016 = .ok (.divug 8 9 10) ∧
    decode 0x71095015 = .ok (.ddivg 8 9 10) ∧
    decode 0x71095017 = .ok (.ddivug 8 9 10) ∧
    decode 0x7109501C = .ok (.modg 8 9 10) ∧
    decode 0x7109501E = .ok (.modug 8 9 10) ∧
    decode 0x7109501D = .ok (.dmodg 8 9 10) ∧
    decode 0x7109501F = .ok (.dmodug 8 9 10) := by
  refine ⟨rfl, rfl, rfl, rfl, rfl, rfl, rfl, rfl, rfl, rfl, rfl, rfl, rfl, rfl, rfl, rfl, rfl, rfl, rfl, rfl, rfl, rfl, rfl, rfl⟩

/-- Words of spec/44_jump_branch.md, each written out from its row's opcode and selector fields with distinct operands. -/
theorem test_decode_jumps_branches :
    decode 0x0AABCDEF = .ok (.j 0x2abcdef) ∧
    decode 0x0EABCDEF = .ok (.jal 0x2abcdef) ∧
    decode 0x010000C8 = .ok (.jr 8 3) ∧
    decode 0x010050C9 = .ok (.jalr 8 10 3) ∧
    decode 0x1109FFF0 = .ok (.beq 8 9 0xfff0) ∧
    decode 0x1509FFF0 = .ok (.bne 8 9 0xfff0) ∧
    decode 0x1900FFF0 = .ok (.blez 8 0xfff0) ∧
    decode 0x1D00FFF0 = .ok (.bgtz 8 0xfff0) ∧
    decode 0x0500FFF0 = .ok (.bltz 8 0xfff0) ∧
    decode 0x0501FFF0 = .ok (.bgez 8 0xfff0) ∧
    decode 0x0510FFF0 = .ok (.bltzal 8 0xfff0) ∧
    decode 0x0511FFF0 = .ok (.bgezal 8 0xfff0) ∧
    decode 0x5109FFF0 = .ok (.beql 8 9 0xfff0) ∧
    decode 0x5509FFF0 = .ok (.bnel 8 9 0xfff0) ∧
    decode 0x5900FFF0 = .ok (.blezl 8 0xfff0) ∧
    decode 0x5D00FFF0 = .ok (.bgtzl 8 0xfff0) ∧
    decode 0x0502FFF0 = .ok (.bltzl 8 0xfff0) ∧
    decode 0x0503FFF0 = .ok (.bgezl 8 0xfff0) ∧
    decode 0x0512FFF0 = .ok (.bltzall 8 0xfff0) ∧
    decode 0x0513FFF0 = .ok (.bgezall 8 0xfff0) := by
  refine ⟨rfl, rfl, rfl, rfl, rfl, rfl, rfl, rfl, rfl, rfl, rfl, rfl, rfl, rfl, rfl, rfl, rfl, rfl, rfl, rfl⟩

/-- Words of spec/45_shift.md, each written out from its row's opcode and selector fields with distinct operands. -/
theorem test_decode_shifts :
    decode 0x00095140 = .ok (.sll 9 10 5) ∧
    decode 0x00095142 = .ok (.srl 9 10 5) ∧
    decode 0x00095143 = .ok (.sra 9 10 5) ∧
    decode 0x00095178 = .ok (.dsll 9 10 5) ∧
    decode 0x0009517A = .ok (.dsrl 9 10 5) ∧
    decode 0x0009517B = .ok (.dsra 9 10 5) ∧
    decode 0x0009517C = .ok (.dsll32 9 10 5) ∧
    decode 0x0009517E = .ok (.dsrl32 9 10 5) ∧
    decode 0x0009517F = .ok (.dsra32 9 10 5) ∧
    decode 0x01095004 = .ok (.sllv 8 9 10) ∧
    decode 0x01095006 = .ok (.srlv 8 9 10) ∧
    decode 0x01095007 = .ok (.srav 8 9 10) ∧
    decode 0x01095014 = .ok (.dsllv 8 9 10) ∧
    decode 0x01095016 = .ok (.dsrlv 8 9 10) ∧
    decode 0x01095017 = .ok (.dsrav 8 9 10) := by
  refine ⟨rfl, rfl, rfl, rfl, rfl, rfl, rfl, rfl, rfl, rfl, rfl, rfl, rfl, rfl, rfl⟩

/-- Words of spec/46_special_trap.md, each written out from its row's opcode and selector fields with distinct operands. -/
theorem test_decode_special :
    decode 0x0000A94C = .ok (.syscall 0x2a5) ∧
    decode 0x0000A94D = .ok (.break_ 0x2a5) ∧
    decode 0x0000044F = .ok (.sync 17) ∧
    decode 0x0109A970 = .ok (.tge 8 9 0x2a5) ∧
    decode 0x0109A971 = .ok (.tgeu 8 9 0x2a5) ∧
    decode 0x0109A972 = .ok (.tlt 8 9 0x2a5) ∧
    decode 0x0109A973 = .ok (.tltu 8 9 0x2a5) ∧
    decode 0x0109A974 = .ok (.teq 8 9 0x2a5) ∧
    decode 0x0109A976 = .ok (.tne 8 9 0x2a5) ∧
    decode 0x05088001 = .ok (.tgei 8 0x8001) ∧
    decode 0x05098001 = .ok (.tgeiu 8 0x8001) ∧
    decode 0x050A8001 = .ok (.tlti 8 0x8001) ∧
    decode 0x050B8001 = .ok (.tltiu 8 0x8001) ∧
    decode 0x050C8001 = .ok (.teqi 8 0x8001) ∧
    decode 0x050E8001 = .ok (.tnei 8 0x8001) := by
  refine ⟨rfl, rfl, rfl, rfl, rfl, rfl, rfl, rfl, rfl, rfl, rfl, rfl, rfl, rfl, rfl⟩

/-- Words of spec/47_cp0_privileged.md, each written out from its row's opcode and selector fields with distinct operands. -/
theorem test_decode_coprocessor0 :
    decode 0x40295000 = .ok (.dmfc0 9 10) ∧
    decode 0x40A95000 = .ok (.dmtc0 9 10) ∧
    decode 0x40095000 = .ok (.mfc0 9 10) ∧
    decode 0x40895000 = .ok (.mtc0 9 10) ∧
    decode 0x42000008 = .ok .tlbp ∧
    decode 0x42000001 = .ok .tlbr ∧
    decode 0x42000002 = .ok .tlbwi ∧
    decode 0x42000006 = .ok .tlbwr ∧
    decode 0x42000018 = .ok .eret ∧
    decode 0xBC82FFF0 = .ok (.cache 4 2 0xfff0) ∧
    decode 0xBC80FFF0 = .ok (.cache_index_invalidate_i 4 0xfff0) ∧
    decode 0xBC81FFF0 = .ok (.cache_index_writeback_invalidate_d 4 0xfff0) ∧
    decode 0xBC85FFF0 = .ok (.cache_index_load_tag_d 4 0xfff0) ∧
    decode 0xBC89FFF0 = .ok (.cache_index_store_tag_d 4 0xfff0) ∧
    decode 0xBC91FFF0 = .ok (.cache_hit_invalidate_d 4 0xfff0) ∧
    decode 0xBC95FFF0 = .ok (.cache_hit_writeback_invalidate_d 4 0xfff0) ∧
    decode 0xBC99FFF0 = .ok (.cache_index_load_data_d 4 0xfff0) ∧
    decode 0xBC9DFFF0 = .ok (.cache_index_store_data_d 4 0xfff0) ∧
    decode 0xBC83FFF0 = .ok (.cache_index_writeback_invalidate_s 4 0xfff0) ∧
    decode 0xBC87FFF0 = .ok (.cache_index_load_tag_s 4 0xfff0) ∧
    decode 0xBC8BFFF0 = .ok (.cache_index_store_tag_s 4 0xfff0) ∧
    decode 0xBC93FFF0 = .ok (.cache_hit_invalidate_s 4 0xfff0) ∧
    decode 0xBC97FFF0 = .ok (.cache_hit_writeback_invalidate_s 4 0xfff0) ∧
    decode 0xBC9BFFF0 = .ok (.cache_index_load_data_s 4 0xfff0) ∧
    decode 0xBC9FFFF0 = .ok (.cache_index_store_data_s 4 0xfff0) := by
  refine ⟨rfl, rfl, rfl, rfl, rfl, rfl, rfl, rfl, rfl, rfl, rfl, rfl, rfl, rfl, rfl, rfl, rfl, rfl, rfl, rfl, rfl, rfl, rfl, rfl, rfl⟩

/-- Words of spec/48_fpu.md, each written out from its row's opcode and selector fields with distinct operands. -/
theorem test_decode_floating_point_1 :
    decode 0x46062080 = .ok (.add_s 6 4 2) ∧
    decode 0x46262080 = .ok (.add_d 6 4 2) ∧
    decode 0x46062081 = .ok (.sub_s 6 4 2) ∧
    decode 0x46262081 = .ok (.sub_d 6 4 2) ∧
    decode 0x46062082 = .ok (.mul_s 6 4 2) ∧
    decode 0x46262082 = .ok (.mul_d 6 4 2) ∧
    decode 0x46062083 = .ok (.div_s 6 4 2) ∧
    decode 0x46262083 = .ok (.div_d 6 4 2) ∧
    decode 0x46002084 = .ok (.sqrt_s 4 2) ∧
    decode 0x46202084 = .ok (.sqrt_d 4 2) ∧
    decode 0x46002085 = .ok (.abs_s 4 2) ∧
    decode 0x46202085 = .ok (.abs_d 4 2) ∧
    decode 0x46002086 = .ok (.mov_s 4 2) ∧
    decode 0x46202086 = .ok (.mov_d 4 2) ∧
    decode 0x46002087 = .ok (.neg_s 4 2) ∧
    decode 0x46202087 = .ok (.neg_d 4 2) ∧
    decode 0x46002088 = .ok (.round_l_s 4 2) ∧
    decode 0x46202088 = .ok (.round_l_d 4 2) ∧
    decode 0x46002089 = .ok (.trunc_l_s 4 2) ∧
    decode 0x46202089 = .ok (.trunc_l_d 4 2) ∧
    decode 0x4600208A = .ok (.ceil_l_s 4 2) ∧
    decode 0x4620208A = .ok (.ceil_l_d 4 2) ∧
    decode 0x4600208B = .ok (.floor_l_s 4 2) ∧
    decode 0x4620208B = .ok (.floor_l_d 4 2) ∧
    decode 0x4600208C = .ok (.round_w_s 4 2) ∧
    decode 0x4620208C = .ok (.round_w_d 4 2) ∧
    decode 0x4600208D = .ok (.trunc_w_s 4 2) ∧
    decode 0x4620208D = .ok (.trunc_w_d 4 2) ∧
    decode 0x4600208E = .ok (.ceil_w_s 4 2) ∧
    decode 0x4620208E = .ok (.ceil_w_d 4 2) := by
  refine ⟨rfl, rfl, rfl, rfl, rfl, rfl, rfl, rfl, rfl, rfl, rfl, rfl, rfl, rfl, rfl, rfl, rfl, rfl, rfl, rfl, rfl, rfl, rfl, rfl, rfl, rfl, rfl, rfl, rfl, rfl⟩

/-- Words of spec/48_fpu.md, each written out from its row's opcode and selector fields with distinct operands. -/
theorem test_decode_floating_point_2 :
    decode 0x4600208F = .ok (.floor_w_s 4 2) ∧
    decode 0x4620208F = .ok (.floor_w_d 4 2) ∧
    decode 0x460020A4 = .ok (.cvt_w_s 4 2) ∧
    decode 0x462020A4 = .ok (.cvt_w_d 4 2) ∧
    decode 0x460020A5 = .ok (.cvt_l_s 4 2) ∧
    decode 0x462020A5 = .ok (.cvt_l_d 4 2) ∧
    decode 0x462020A0 = .ok (.cvt_s_d 4 2) ∧
    decode 0x468020A0 = .ok (.cvt_s_w 4 2) ∧
    decode 0x46A020A0 = .ok (.cvt_s_l 4 2) ∧
    decode 0x460020A1 = .ok (.cvt_d_s 4 2) ∧
    decode 0x468020A1 = .ok (.cvt_d_w 4 2) ∧
    decode 0x46A020A1 = .ok (.cvt_d_l 4 2) ∧
    decode 0x46062030 = .ok (.c_f_s 6 4) ∧
    decode 0x46262030 = .ok (.c_f_d 6 4) ∧
    decode 0x46062031 = .ok (.c_un_s 6 4) ∧
    decode 0x46262031 = .ok (.c_un_d 6 4) ∧
    decode 0x46062032 = .ok (.c_eq_s 6 4) ∧
    decode 0x46262032 = .ok (.c_eq_d 6 4) ∧
    decode 0x46062033 = .ok (.c_ueq_s 6 4) ∧
    decode 0x46262033 = .ok (.c_ueq_d 6 4) ∧
    decode 0x46062034 = .ok (.c_olt_s 6 4) ∧
    decode 0x46262034 = .ok (.c_olt_d 6 4) ∧
    decode 0x46062035 = .ok (.c_ult_s 6 4) ∧
    decode 0x46262035 = .ok (.c_ult_d 6 4) ∧
    decode 0x46062036 = .ok (.c_ole_s 6 4) ∧
    decode 0x46262036 = .ok (.c_ole_d 6 4) ∧
    decode 0x46062037 = .ok (.c_ule_s 6 4) ∧
    decode 0x46262037 = .ok (.c_ule_d 6 4) ∧
    decode 0x46062038 = .ok (.c_sf_s 6 4) ∧
    decode 0x46262038 = .ok (.c_sf_d 6 4) := by
  refine ⟨rfl, rfl, rfl, rfl, rfl, rfl, rfl, rfl, rfl, rfl, rfl, rfl, rfl, rfl, rfl, rfl, rfl, rfl, rfl, rfl, rfl, rfl, rfl, rfl, rfl, rfl, rfl, rfl, rfl, rfl⟩

/-- Words of spec/48_fpu.md, each written out from its row's opcode and selector fields with distinct operands. -/
theorem test_decode_floating_point_3 :
    decode 0x46062039 = .ok (.c_ngle_s 6 4) ∧
    decode 0x46262039 = .ok (.c_ngle_d 6 4) ∧
    decode 0x4606203A = .ok (.c_seq_s 6 4) ∧
    decode 0x4626203A = .ok (.c_seq_d 6 4) ∧
    decode 0x4606203B = .ok (.c_ngl_s 6 4) ∧
    decode 0x4626203B = .ok (.c_ngl_d 6 4) ∧
    decode 0x4606203C = .ok (.c_lt_s 6 4) ∧
    decode 0x4626203C = .ok (.c_lt_d 6 4) ∧
    decode 0x4606203D = .ok (.c_nge_s 6 4) ∧
    decode 0x4626203D = .ok (.c_nge_d 6 4) ∧
    decode 0x4606203E = .ok (.c_le_s 6 4) ∧
    decode 0x4626203E = .ok (.c_le_d 6 4) ∧
    decode 0x4606203F = .ok (.c_ngt_s 6 4) ∧
    decode 0x4626203F = .ok (.c_ngt_d 6 4) ∧
    decode 0x44092000 = .ok (.mfc1 9 4) ∧
    decode 0x44892000 = .ok (.mtc1 9 4) ∧
    decode 0x44292000 = .ok (.dmfc1 9 4) ∧
    decode 0x44A92000 = .ok (.dmtc1 9 4) ∧
    decode 0x44492000 = .ok (.cfc1 9 4) ∧
    decode 0x44C92000 = .ok (.ctc1 9 4) ∧
    decode 0x4500FFF0 = .ok (.bc1f 0xfff0) ∧
    decode 0x4501FFF0 = .ok (.bc1t 0xfff0) ∧
    decode 0x4502FFF0 = .ok (.bc1fl 0xfff0) ∧
    decode 0x4503FFF0 = .ok (.bc1tl 0xfff0) := by
  refine ⟨rfl, rfl, rfl, rfl, rfl, rfl, rfl, rfl, rfl, rfl, rfl, rfl, rfl, rfl, rfl, rfl, rfl, rfl, rfl, rfl, rfl, rfl, rfl, rfl⟩

/-- Words of spec/49_fpu_ps_madd.md, each written out from its row's opcode and selector fields with distinct operands. -/
theorem test_decode_paired_and_madd_1 :
    decode 0x46C62080 = .ok (.add_ps 6 4 2) ∧
    decode 0x46C62081 = .ok (.sub_ps 6 4 2) ∧
    decode 0x46C62082 = .ok (.mul_ps 6 4 2) ∧
    decode 0x46C02085 = .ok (.abs_ps 4 2) ∧
    decode 0x46C02086 = .ok (.mov_ps 4 2) ∧
    decode 0x46C02087 = .ok (.neg_ps 4 2) ∧
    decode 0x46C62030 = .ok (.c_f_ps 6 4) ∧
    decode 0x46C62031 = .ok (.c_un_ps 6 4) ∧
    decode 0x46C62032 = .ok (.c_eq_ps 6 4) ∧
    decode 0x46C62033 = .ok (.c_ueq_ps 6 4) ∧
    decode 0x46C62034 = .ok (.c_olt_ps 6 4) ∧
    decode 0x46C62035 = .ok (.c_ult_ps 6 4) ∧
    decode 0x46C62036 = .ok (.c_ole_ps 6 4) ∧
    decode 0x46C62037 = .ok (.c_ule_ps 6 4) ∧
    decode 0x46C62038 = .ok (.c_sf_ps 6 4) ∧
    decode 0x46C62039 = .ok (.c_ngle_ps 6 4) ∧
    decode 0x46C6203A = .ok (.c_seq_ps 6 4) ∧
    decode 0x46C6203B = .ok (.c_ngl_ps 6 4) ∧
    decode 0x46C6203C = .ok (.c_lt_ps 6 4) ∧
    decode 0x46C6203D = .ok (.c_nge_ps 6 4) ∧
    decode 0x46C6203E = .ok (.c_le_ps 6 4) ∧
    decode 0x46C6203F = .ok (.c_ngt_ps 6 4) ∧
    decode 0x72062098 = .ok (.madd_s 6 4 2) ∧
    decode 0x72262098 = .ok (.madd_d 6 4 2) ∧
    decode 0x71662098 = .ok (.madd_ps 6 4 2) ∧
    decode 0x72062099 = .ok (.msub_s 6 4 2) ∧
    decode 0x72262099 = .ok (.msub_d 6 4 2) ∧
    decode 0x71662099 = .ok (.msub_ps 6 4 2) ∧
    decode 0x7206209A = .ok (.nmadd_s 6 4 2) ∧
    decode 0x7226209A = .ok (.nmadd_d 6 4 2) := by
  refine ⟨rfl, rfl, rfl, rfl, rfl, rfl, rfl, rfl, rfl, rfl, rfl, rfl, rfl, rfl, rfl, rfl, rfl, rfl, rfl, rfl, rfl, rfl, rfl, rfl, rfl, rfl, rfl, rfl, rfl, rfl⟩

/-- Words of spec/49_fpu_ps_madd.md, each written out from its row's opcode and selector fields with distinct operands. -/
theorem test_decode_paired_and_madd_2 :
    decode 0x7166209A = .ok (.nmadd_ps 6 4 2) ∧
    decode 0x7206209B = .ok (.nmsub_s 6 4 2) ∧
    decode 0x7226209B = .ok (.nmsub_d 6 4 2) ∧
    decode 0x7166209B = .ok (.nmsub_ps 6 4 2) := by
  refine ⟨rfl, rfl, rfl, rfl⟩
/-- Words that are no instruction: a nonzero must-be-zero field (V42 row 18), an unused function of SPECIAL, COP1X, COP0,
COP1 and of the multiply-add words (V46 rows 13 and 14, V47 row 20, V48 row 27, V49 row 16), coprocessor 2, and three
bytes. -/
theorem test_decode_rejects :
    decode 0x00221860 = .error .reserved ∧ decode 0x00000035 = .error .reserved ∧
    decode 0x4C000000 = .error .reserved ∧ decode 0x42000003 = .error .reservedCop0 ∧
    decode 0x46000120 = .error .reservedCop1 ∧ decode 0x72841018 = .error .reserved ∧
    decode 0x48000000 = .error .cop2 ∧ decodeBytes [0x00, 0x00, 0x0C] = .error .truncated :=
  ⟨rfl, rfl, rfl, rfl, rfl, rfl, rfl, rfl⟩

/-- The first byte of an instruction in memory is the least significant (R101, R170). -/
theorem test_decode_bytes : decodeBytes [0x01, 0x00, 0x22, 0x20, 0xAA] = .ok (.addi 1 2 1, [0xAA]) := rfl

/-! ### A small state -/

/-- Kernel mode with CU1 = CU0 = 1, as the vectors have it, with initialised DDR2 memory that holds the image M1 at
physical 0x1000, and uncached code and data in CKSEG1. -/
def small : State :=
  { State.reset with
    pc := 0xFFFFFFFFA0004000
    cp0 := { Cp0.reset with status := 0x30000000 }
    ddr :=
      { ready := true, initLeft := none, eccOff := false, flips := [], waiting := []
        ctl := (Ddr.reset.ctl.set 7 0x0000040000030A0B).set 5 0x0000000004050102 }
    mem := [(0x1000, 0x11), (0x1001, 0x22), (0x1002, 0x33), (0x1003, 0x44), (0x1004, 0x55), (0x1005, 0x66),
      (0x1006, 0x77), (0x1007, 0x88), (0x1008, 0x80), (0x1009, 0xFF), (0x100A, 0x34), (0x100B, 0x92), (0x100C, 1),
      (0x100F, 0x80)] }

/-- The state with other values in some general registers. -/
def State.with (s : State) (l : List (Reg × Dword)) : State := l.foldl (fun s p => s.writeGpr p.1 p.2) s

/-- The state with other values in some floating-point registers. -/
def State.withFpr (s : State) (l : List (Reg × Dword)) : State := l.foldl (fun s p => s.setFpr p.1 (Fpr.ofBits p.2)) s

/-- What holds after a step that completes. -/
def after {α : Type} (o : Host.Outcome State Fault Refusal) (f : State → α) : Option α :=
  match o with
  | .next t => some (f t)
  | _ => none

/-- The small state with r1 at the image M1, in the uncached window. -/
def m1 : State := State.with small [(1, 0xFFFFFFFFA0001000)]

/-- The general vector with BEV = 0. -/
def general : Dword := 0xFFFFFFFF80000180

/-! ### Loads and stores (V40) -/

/-- V40 row 1. -/
theorem test_lb :
    after (exec (.lb 1 2 8) m1) (fun t => t.readGpr 2) = some 0xFFFFFFFFFFFFFF80 := by
  rfl

/-- V40 row 2. -/
theorem test_lbu :
    after (exec (.lbu 1 2 8) m1) (fun t => t.readGpr 2) = some 0x80 := by
  rfl

/-- V40 row 3. -/
theorem test_lh :
    after (exec (.lh 1 2 10) m1) (fun t => t.readGpr 2) = some 0xFFFFFFFFFFFF9234 := by
  rfl

/-- V40 row 4. -/
theorem test_lhu :
    after (exec (.lhu 1 2 10) m1) (fun t => t.readGpr 2) = some 0x9234 := by
  rfl

/-- V40 row 5. -/
theorem test_lw :
    after (exec (.lw 1 2 12) m1) (fun t => t.readGpr 2) = some 0xFFFFFFFF80000001 := by
  rfl

/-- V40 row 6. -/
theorem test_lwu :
    after (exec (.lwu 1 2 12) m1) (fun t => t.readGpr 2) = some 0x80000001 := by
  rfl

/-- V40 row 7. -/
theorem test_ld :
    after (exec (.ld 1 2 0) m1) (fun t => t.readGpr 2) = some 0x8877665544332211 := by
  rfl

/-- V40 row 13. -/
theorem test_lwr :
    after (exec (.lwr 1 2 2) (State.with m1 [(2, 0xFFFFFFFFAAAAAAAA)]))
      (fun t => t.readGpr 2) = some 0xFFFFFFFFAAAA4433 := by
  rfl

/-- V40 row 12. -/
theorem test_lwl :
    after (exec (.lwl 1 2 4) (State.with m1 [(2, 0x443322)])) (fun t => t.readGpr 2) = some 0x55443322 := by
  rfl

/-- V40 row 15. -/
theorem test_ldr :
    after (exec (.ldr 1 2 3) m1) (fun t => t.readGpr 2) = some 0x8877665544 := by
  rfl

/-- V40 row 16. -/
theorem test_ldl :
    after (exec (.ldl 1 2 10) (State.with m1 [(2, 0x8877665544)]))
      (fun t => t.readGpr 2) = some 0x34FF808877665544 := by
  rfl

/-- V40 row 8: the address error, with the register kept. -/
theorem test_lw_misaligned :
    after (exec (.lw 1 2 1) (State.with m1 [(2, 7)]))
      (fun t => (t.pc, t.cp0.cause.excCode, t.cp0.badVAddr, t.cp0.epc, t.readGpr 2)) =
      some (general, 4, 0xFFFFFFFFA0001001, 0xFFFFFFFFA0004000, 7) := by
  rfl

/-- V40 row 9: a prefetch raises nothing. -/
theorem test_lw_to_r0 :
    after (exec (.lw 0 0 1) small) (fun t => (t.pc, t.taken)) = some (0xFFFFFFFFA0004004, none) := by
  rfl

/-- V40 row 10. -/
theorem test_sd_misaligned :
    after (exec (.sd 1 2 4) (State.with m1 [(2, 1)]))
      (fun t => (t.cp0.cause.excCode, t.cp0.badVAddr, readByte t.mem 0x1004)) =
      some (5, 0xFFFFFFFFA0001004, 0x55) := by
  rfl

/-- V40 row 17, and the bytes beside it. -/
theorem test_sb :
    after (exec (.sb 1 2 0) (State.with m1 [(2, 0x1234)]))
      (fun t => readBytes t.mem 0x1000 2) = some [0x34, 0x22] := by
  rfl

/-- V40 row 18, and the bytes beside it. -/
theorem test_sh :
    after (exec (.sh 1 2 0xFFFE) (State.with m1 [(2, 0xABCD)]))
      (fun t => readBytes t.mem 0x0FFE 3) = some [0xCD, 0xAB, 0x11] := by
  rfl

/-- V40 row 19, and the bytes beside it. -/
theorem test_sw :
    after (exec (.sw 1 2 4) (State.with m1 [(2, 0x1111222233334444)]))
      (fun t => readBytes t.mem 0x1003 6) = some [0x44, 0x44, 0x44, 0x33, 0x33, 0x80] := by
  rfl

/-- V40 row 20, and the bytes beside it. -/
theorem test_swr :
    after (exec (.swr 1 2 1) (State.with m1 [(2, 0xAABBCCDD)]))
      (fun t => readBytes t.mem 0x1000 5) = some [0x11, 0xDD, 0xCC, 0xBB, 0x55] := by
  rfl

/-- V40 row 21, and the bytes beside it. -/
theorem test_swl :
    after (exec (.swl 1 2 4) (State.with m1 [(2, 0xAABBCCDD)]))
      (fun t => readBytes t.mem 0x1003 3) = some [0x44, 0xAA, 0x66] := by
  rfl

/-- V40 row 22, and the bytes beside it. -/
theorem test_sdr :
    after (exec (.sdr 1 2 3) (State.with m1 [(2, 0x8877665544332211)]))
      (fun t => readBytes t.mem 0x1002 7) = some [0x33, 0x11, 0x22, 0x33, 0x44, 0x55, 0x80] := by
  rfl

/-- V40 row 23, and the bytes beside it. -/
theorem test_sdl :
    after (exec (.sdl 1 2 10) (State.with m1 [(2, 0x8877665544332211)]))
      (fun t => readBytes t.mem 0x1007 5) = some [0x88, 0x66, 0x77, 0x88, 0x92] := by
  rfl

/-- V40 row 24. -/
theorem test_sc_fails :
    after (exec (.sc 1 2 0) (State.with m1 [(2, 9)]))
      (fun t => (t.readGpr 2, t.llbit, readByte t.mem 0x1000)) = some (0, false, 0x11) := by
  rfl

/-- V40 row 25. -/
theorem test_sc :
    after (exec (.sc 1 2 0) { State.with m1 [(2, 9)] with llbit := true })
      (fun t => (t.readGpr 2, t.llbit, readBytes t.mem 0x1000 5)) = some (1, true, [9, 0, 0, 0, 0x55]) := by
  rfl

/-- V40 row 26. -/
theorem test_lld :
    after (exec (.lld 1 2 0) m1) (fun t => (t.readGpr 2, t.llbit)) = some (0x8877665544332211, true) := by
  rfl

/-- V40 row 28: with FR = 0 the odd register is the upper half of the even one. -/
theorem test_lwc1 :
    after (exec (.lwc1 1 1 0) m1) (fun t => (t.getFpr 0).bits) = some 0x4433221100000000 := by
  rfl

/-- V40 row 30. -/
theorem test_ldc1 :
    after (exec (.ldc1 1 2 8) m1) (fun t => (t.getFpr 2).bits) = some 0x800000019234FF80 := by
  rfl

/-- V40 row 32. -/
theorem test_sdc1 :
    after (exec (.sdc1 1 2 0) (m1.setFpr 2 (Fpr.ofBits 0x4004000000000000)))
      (fun t => readBytes t.mem 0x1000 8) = some [0, 0, 0, 0, 0, 0, 0x04, 0x40] := by
  rfl

/-- V40 row 38: the address comes from the old value. -/
theorem test_load_into_base :
    after (exec (.lw 1 1 0) m1) (fun t => t.readGpr 1) = some 0x44332211 := by
  rfl

/-! ### Integer arithmetic (V41, V42, V43, V45) -/

/-- V41 row 1. -/
theorem test_addi_overflow :
    after (exec (.addi 1 2 1) (State.with small [(1, 0x7FFFFFFF), (2, 9)]))
      (fun t => (t.cp0.cause.excCode, t.readGpr 2)) = some (12, 9) := by
  rfl

/-- V41 row 4: only the low word counts. -/
theorem test_addiu_word :
    after (exec (.addiu 1 2 0xFFFF) (State.with small [(1, 0x100000000)]))
      (fun t => t.readGpr 2) = some 0xFFFFFFFFFFFFFFFF := by
  rfl

/-- V41 row 5. -/
theorem test_daddi_overflow :
    after (exec (.daddi 1 2 1) (State.with small [(1, 0x7FFFFFFFFFFFFFFF)]))
      (fun t => (t.cp0.cause.excCode, t.readGpr 2)) = some (12, 0) := by
  rfl

/-- V41 row 8. -/
theorem test_slti :
    after (exec (.slti 1 2 0xFFFF) (State.with small [(1, 0x8000000000000000)])) (fun t => t.readGpr 2) = some 1 := by
  rfl

/-- V41 row 9: the immediate is sign-extended. -/
theorem test_sltiu :
    after (exec (.sltiu 1 2 0xFFFF) small) (fun t => t.readGpr 2) = some 1 := by
  rfl

/-- V41 row 10: the immediate is zero-extended. -/
theorem test_andi :
    after (exec (.andi 1 2 0x8000) (State.with small [(1, 0xFFFFFFFFFFFFFFFF)]))
      (fun t => t.readGpr 2) = some 0x8000 := by
  rfl

/-- V41 row 12. -/
theorem test_xori :
    after (exec (.xori 1 2 0xFFFF) (State.with small [(1, 0xFFFFFFFFFFFFFFFF)]))
      (fun t => t.readGpr 2) = some 0xFFFFFFFFFFFF0000 := by
  rfl

/-- V41 row 13. -/
theorem test_lui :
    after (exec (.lui 2 0x8000) small) (fun t => t.readGpr 2) = some 0xFFFFFFFF80000000 := by
  rfl

/-- V41 row 15. -/
theorem test_addiu_r0 :
    after (exec (.addiu 1 0 5) m1) (fun t => t.readGpr 0) = some 0 := by
  rfl

/-- V42 row 2. -/
theorem test_addu :
    after (exec (.addu 1 2 3) (State.with small [(1, 0x7FFFFFFF), (2, 1)]))
      (fun t => t.readGpr 3) = some 0xFFFFFFFF80000000 := by
  rfl

/-- V42 row 3. -/
theorem test_sub_overflow :
    after (exec (.sub 1 2 3) (State.with small [(1, 0xFFFFFFFF80000000), (2, 1)]))
      (fun t => (t.cp0.cause.excCode, t.readGpr 3)) = some (12, 0) := by
  rfl

/-- V42 row 7. -/
theorem test_dsub_overflow :
    after (exec (.dsub 1 2 3) (State.with small [(1, 0x8000000000000000), (2, 1)]))
      (fun t => (t.cp0.cause.excCode, t.readGpr 3)) = some (12, 0) := by
  rfl

/-- V42 row 9. -/
theorem test_slt :
    after (exec (.slt 1 2 3) (State.with small [(1, 0xFFFFFFFFFFFFFFFF)])) (fun t => t.readGpr 3) = some 1 := by
  rfl

/-- V42 row 10. -/
theorem test_sltu :
    after (exec (.sltu 1 2 3) (State.with small [(1, 0xFFFFFFFFFFFFFFFF)])) (fun t => t.readGpr 3) = some 0 := by
  rfl

/-- V42 row 14. -/
theorem test_nor :
    after (exec (.nor 1 2 3) (State.with small [(1, 0xFF00FF00FF00FF00), (2, 0x0FF00FF00FF00FF0)]))
      (fun t => t.readGpr 3) = some 0x000F000F000F000F := by
  rfl

/-- V42 row 16: all 64 bits are tested. -/
theorem test_movz :
    after (exec (.movz 1 2 3) (State.with small [(1, 7), (2, 0x100000000), (3, 9)]))
      (fun t => t.readGpr 3) = some 9 := by
  rfl

/-- V42 row 17. -/
theorem test_movn :
    after (exec (.movn 1 2 3) (State.with small [(1, 7), (2, 0x100000000), (3, 9)]))
      (fun t => t.readGpr 3) = some 7 := by
  rfl

/-- V43 row 1. -/
theorem test_mult :
    after (exec (.mult 1 2) (State.with small [(1, 0x12345678), (2, 0xFFFFFFFF9ABCDEF0)]))
      (fun t => (t.hi, t.lo)) = some (0xFFFFFFFFF8CC93D6, 0x242D2080) := by
  rfl

/-- V43 row 2. -/
theorem test_multu :
    after (exec (.multu 1 2) (State.with small [(1, 0x12345678), (2, 0xFFFFFFFF9ABCDEF0)]))
      (fun t => (t.hi, t.lo)) = some (0x0B00EA4E, 0x242D2080) := by
  rfl

/-- V43 row 3. -/
theorem test_dmult :
    after (exec (.dmult 1 2) (State.with small [(1, 0x100000000), (2, 0xFFFFFFFFFFFFFFFE)]))
      (fun t => (t.hi, t.lo)) = some (0xFFFFFFFFFFFFFFFF, 0xFFFFFFFE00000000) := by
  rfl

/-- V43 row 4. -/
theorem test_dmultu :
    after (exec (.dmultu 1 2) (State.with small [(1, 0x100000000), (2, 0xFFFFFFFFFFFFFFFE)]))
      (fun t => (t.hi, t.lo)) = some (0xFFFFFFFF, 0xFFFFFFFE00000000) := by
  rfl

/-- V43 row 5. -/
theorem test_div :
    after (exec (.div 1 2) (State.with small [(1, 0xFFFFFFFFFFFFFF9C), (2, 7)]))
      (fun t => (t.hi, t.lo)) = some (0xFFFFFFFFFFFFFFFE, 0xFFFFFFFFFFFFFFF2) := by
  rfl

/-- V43 row 10. -/
theorem test_div_overflow :
    after (exec (.div 1 2) (State.with small [(1, 0xFFFFFFFF80000000), (2, 0xFFFFFFFFFFFFFFFF)]))
      (fun t => (t.hi, t.lo)) = some (0, 0xFFFFFFFF80000000) := by
  rfl

/-- V43 row 7. -/
theorem test_ddiv :
    after (exec (.ddiv 1 2) (State.with small [(1, 100), (2, 0xFFFFFFFFFFFFFFF9)]))
      (fun t => (t.hi, t.lo)) = some (2, 0xFFFFFFFFFFFFFFF2) := by
  rfl

/-- V43 row 8. -/
theorem test_ddivu :
    after (exec (.ddivu 1 2) (State.with small [(1, 0xFFFFFFFFFFFFFF9C), (2, 7)]))
      (fun t => (t.hi, t.lo)) = some (0, 0x2492492492492484) := by
  rfl

/-- V43 row 9: no exception. -/
theorem test_div_by_zero :
    after (exec (.div 1 2) (State.with small [(1, 5)]))
      (fun t => (t.pc, t.taken)) = some (0xFFFFFFFFA0004004, none) := by
  rfl

/-- V43 row 14. -/
theorem test_divg :
    after (exec (.divg 1 2 3) (State.with small [(1, 0xFFFFFFFFFFFFFFF9), (2, 2)]))
      (fun t => t.readGpr 3) = some 0xFFFFFFFFFFFFFFFD := by
  rfl

/-- V43 row 16. -/
theorem test_modg :
    after (exec (.modg 1 2 3) (State.with small [(1, 0xFFFFFFFFFFFFFFF9), (2, 2)]))
      (fun t => t.readGpr 3) = some 0xFFFFFFFFFFFFFFFF := by
  rfl

/-- V43 row 18. -/
theorem test_dmodug :
    after (exec (.dmodug 1 2 3) (State.with small [(1, 0xFFFFFFFFFFFFFFFF), (2, 16)]))
      (fun t => t.readGpr 3) = some 15 := by
  rfl

/-- V45 row 1. -/
theorem test_sll :
    after (exec (.sll 1 2 4) (State.with small [(1, 0xFFFFFFFF80001234)])) (fun t => t.readGpr 2) = some 0x12340 := by
  rfl

/-- V45 row 4: bit 31 of the result is extended. -/
theorem test_srl_sign :
    after (exec (.srl 1 2 0) (State.with small [(1, 0x180001234)]))
      (fun t => t.readGpr 2) = some 0xFFFFFFFF80001234 := by
  rfl

/-- V45 row 3. -/
theorem test_sra :
    after (exec (.sra 1 2 4) (State.with small [(1, 0xFFFFFFFF80001234)]))
      (fun t => t.readGpr 2) = some 0xFFFFFFFFF8000123 := by
  rfl

/-! ### Jumps and branches (V44) -/

/-- V44 row 1. -/
theorem test_beq :
    after (exec (.beq 1 2 3) { State.with small [(1, 1), (2, 1)] with pc := 0xFFFFFFFF80001000 })
      (fun t => (t.pc, t.delay)) = some (0xFFFFFFFF80001004, some 0xFFFFFFFF80001010) := by
  rfl

/-- V44 row 2. -/
theorem test_beq_not_taken :
    after (exec (.beq 1 2 3) { State.with small [(1, 1), (2, 0x100000001)] with pc := 0xFFFFFFFF80001000 })
      (fun t => (t.pc, t.delay)) = some (0xFFFFFFFF80001004, some 0xFFFFFFFF80001008) := by
  rfl

/-- V44 row 6: the link is written although the branch is not taken. -/
theorem test_bltzal :
    after (exec (.bltzal 1 0xFFFE) { State.with small [(1, 5)] with pc := 0xFFFFFFFF80002000 })
      (fun t => (t.pc, t.delay, t.readGpr 31)) =
      some (0xFFFFFFFF80002004, some 0xFFFFFFFF80002008, 0xFFFFFFFF80002008) := by
  rfl

/-- V44 row 7: the delay slot is skipped. -/
theorem test_bgezall :
    after (exec (.bgezall 1 1) { State.with small [(1, 0xFFFFFFFFFFFFFFFF)] with pc := 0xFFFFFFFF80002000 })
      (fun t => (t.pc, t.delay, t.readGpr 31)) = some (0xFFFFFFFF80002008, none, 0xFFFFFFFF80002008) := by
  rfl

/-- V44 row 10. -/
theorem test_j :
    after (exec (.j 0x0123456) { small with pc := 0xFFFFFFFF80001000 })
      (fun t => (t.pc, t.delay)) = some (0xFFFFFFFF80001004, some 0xFFFFFFFF8048D158) := by
  rfl

/-- V44 row 11: the region is that of the delay slot. -/
theorem test_jal :
    after (exec (.jal 0x3FFFFFF) { small with pc := 0xFFFFFFFF9FFFFFFC })
      (fun t => (t.delay, t.readGpr 31)) = some (some 0xFFFFFFFFAFFFFFFC, 0xFFFFFFFFA0000004) := by
  rfl

/-- V44 row 12. -/
theorem test_jalr :
    after (exec (.jalr 4 5 0) { State.with small [(4, 0xFFFFFFFF80003000)] with pc := 0xFFFFFFFF80001000 })
      (fun t => (t.delay, t.readGpr 5)) = some (some 0xFFFFFFFF80003000, 0xFFFFFFFF80001008) := by
  rfl

/-- V44 row 14. -/
theorem test_fault_in_delay_slot :
    after (exec (.lw 0 2 1) { small with delay := some 0xFFFFFFFF80001010 })
      (fun t => (t.cp0.epc, t.cp0.cause.bd, t.cp0.cause.excCode, t.cp0.badVAddr, t.delay)) =
      some (0xFFFFFFFFA0003FFC, true, 4, 1, none) := by
  rfl

/-! ### Traps, coprocessor 0 and exceptions (V46, V47, V60) -/

/-- V46: BREAK enters the exception with code 9. -/
theorem test_break :
    after (exec (.break_ 0) small)
      (fun t => (t.pc, t.cp0.cause.excCode, t.cp0.epc, t.cp0.status)) =
      some (general, 9, 0xFFFFFFFFA0004000, 0x30000002) := by
  rfl

/-- V60 row 13. -/
theorem test_break_in_handler :
    after (exec (.break_ 0) (small.setCp0 { small.cp0 with status := 0x10000002, epc := 0x1234 }))
      (fun t => (t.pc, t.cp0.cause.excCode, t.cp0.epc)) = some (general, 9, 0x1234) := by
  rfl

/-- V46 row 9. -/
theorem test_tgeu :
    after (exec (.tgeu 1 2 0) (State.with small [(1, 0xFFFFFFFFFFFFFFFF), (2, 1)]))
      (fun t => t.cp0.cause.excCode) = some 13 := by
  rfl

/-- V46 row 12. -/
theorem test_tltiu :
    after (exec (.tltiu 1 0xFFFF) (State.with small [(1, 5)])) (fun t => t.cp0.cause.excCode) = some 13 := by
  rfl

/-- V46 row 8. -/
theorem test_tne :
    after (exec (.tne 1 2 0) small) (fun t => t.taken) = some none := by
  rfl

/-- V47 row 1. -/
theorem test_mfc0_status :
    after (exec (.mfc0 2 12) State.reset) (fun t => t.readGpr 2) = some 0x30400004 := by
  rfl

/-- V47 row 3. -/
theorem test_mfc0_config :
    after (exec (.mfc0 2 16) State.reset) (fun t => t.readGpr 2) = some 0x30932 := by
  rfl

/-- V47 row 4. -/
theorem test_mfc0_count :
    after (exec (.mfc0 2 9) (small.setCp0 { small.cp0 with count := 0x80000000 }))
      (fun t => t.readGpr 2) = some 0xFFFFFFFF80000000 := by
  rfl

/-- V47 row 5. -/
theorem test_mtc0_wired :
    after (exec (.mtc0 0 6) (small.setCp0 { small.cp0 with wired := 8, random := 20 }))
      (fun t => (t.cp0.wired, t.cp0.random)) = some (0, 63) := by
  rfl

/-- V47 row 8: only the two software bits. -/
theorem test_mtc0_cause :
    after (exec (.mtc0 2 13) (State.with small [(2, 0xFFFFFFFFFFFFFFFF)])) (fun t => t.causeWord) = some 0x300 := by
  rfl

/-- V47 row 9. -/
theorem test_dmtc0_entryhi :
    after (exec (.dmtc0 8 10) (State.with small [(8, 0xC00000FFC0000007)]))
      (fun t => t.cp0.entryHi) = some 0xC00000FFC0000007 := by
  rfl

/-- V47 row 10. -/
theorem test_mfc0_user :
    after (exec (.mfc0 2 9) (small.setCp0 { small.cp0 with status := 0x10 })) (fun t => t.causeWord) = some 0x2C := by
  rfl

/-- The state of V47 row 12. -/
def tlbState : State :=
  small.setCp0 { small.cp0 with index := 5, entryHi := 0x42007, entryLo0 := 0x48D1F, entryLo1 := 0x48D5E }

/-- V47 row 12: G is the conjunction of both halves. -/
theorem test_tlbwi :
    after (exec (.tlbwi) tlbState)
      (fun t => (t.tlb[5].g, t.tlb[5].vpn2, t.tlb[5].asid, t.tlb[5].even.pfn, t.tlb[5].odd.v)) =
      some (false, 0x21, 7, 0x1234, true) := by
  rfl

/-- V47 row 15. -/
theorem test_eret :
    after (exec (.eret) { small with llbit := true, cp0 := { small.cp0 with status := 0x10000012, epc := 0x400000 } })
      (fun t => (t.pc, t.cp0.status, t.llbit)) = some (0x400000, 0x10000010, false) := by
  rfl

/-- V47 row 16. -/
theorem test_eret_erl :
    after (exec (.eret) (small.setCp0 { small.cp0 with status := 0x30400004, epc := 0x1000, errorEpc := 0x2000 }))
      (fun t => (t.pc, t.cp0.status)) = some (0x1000, 0x30400000) := by
  rfl

/-- V60 row 7. -/
theorem test_load_in_user_mode :
    after (exec (.lb 1 2 0) (State.with (small.setCp0 { small.cp0 with status := 0x10 }) [(1, 0xFFFFFFFF80000000)]))
      (fun t => (t.cp0.cause.excCode, t.cp0.badVAddr)) = some (4, 0xFFFFFFFF80000000) := by
  rfl

/-- V60 row 9. -/
theorem test_watch :
    after (exec (.lw 1 2 12) (m1.setCp0 { m1.cp0 with watch := 0xFFFFFFFFA000100A }))
      (fun t => (t.cp0.cause.excCode, t.readGpr 2, t.cp0.badVAddr)) = some (23, 0, 0) := by
  rfl

/-! ### Floating point (V48, V49) -/

/-- V48 row 2. -/
theorem test_add_d :
    after (exec (.add_d 2 0 4) (State.withFpr small [(0, 0x3FB999999999999A), (2, 0x3FC999999999999A)]))
      (fun t => (t.fcr31, (t.getFpr 4).bits)) = some (0x1004, 0x3FD3333333333334) := by
  rfl

/-- V48 row 3. -/
theorem test_add_s_overflow :
    after (exec (.add_s 2 0 4) (State.withFpr small [(0, 0x7F7FFFFF), (2, 0x7F7FFFFF)]))
      (fun t => (t.fcr31, (t.getFpr 4).lo)) = some (0x5014, 0x7F800000) := by
  rfl

/-- V48 row 5. -/
theorem test_add_s_traps :
    after (exec (.add_s 2 0 4) ((State.withFpr small [(0, 0x7F7FFFFF), (2, 0x7F7FFFFF)]).setFcr31 0x200))
      (fun t => (t.fcr31, (t.getFpr 4).lo, t.cp0.cause.excCode)) = some (0x5200, 0, 15) := by
  rfl

/-- V48 row 12. -/
theorem test_mul_s_flush :
    after (exec (.mul_s 2 0 4) ((State.withFpr small [(0, 0x00800000), (2, 0x3F000000)]).setFcr31 0x01000002))
      (fun t => (t.getFpr 4).lo) = some 0x00800000 := by
  rfl

/-- V48 row 13. -/
theorem test_div_s :
    after (exec (.div_s 2 0 4) (State.withFpr small [(0, 0x3F800000), (2, 0x40400000)]))
      (fun t => (t.fcr31, (t.getFpr 4).lo)) = some (0x1004, 0x3EAAAAAB) := by
  rfl

/-- V48 row 14. -/
theorem test_div_s_by_zero :
    after (exec (.div_s 2 0 4) (State.withFpr small [(0, 0xBF800000)]))
      (fun t => (t.fcr31, (t.getFpr 4).lo)) = some (0x8020, 0xFF800000) := by
  rfl

/-- V48 row 16. -/
theorem test_sqrt_d :
    after (exec (.sqrt_d 0 4) (State.withFpr small [(0, 0x4010000000000000)]))
      (fun t => (t.fcr31, (t.getFpr 4).bits)) = some (0, 0x4000000000000000) := by
  decide +kernel

/-- V48 row 18. -/
theorem test_abs_s_denormal :
    after (exec (.abs_s 0 4) (State.withFpr small [(0, 0x80000001)]))
      (fun t => (t.fcr31, t.cp0.cause.excCode)) = some (0x20000, 15) := by
  rfl

/-- V48 row 20. -/
theorem test_neg_d :
    after (exec (.neg_d 0 4) (State.withFpr small [(0, 0x4004000000000000)]))
      (fun t => (t.getFpr 4).bits) = some 0xC004000000000000 := by
  rfl

/-- V48 row 22. -/
theorem test_round_w_d :
    after (exec (.round_w_d 0 4) (State.withFpr small [(0, 0xC004000000000000)]))
      (fun t => (t.getFpr 4).lo) = some 0xFFFFFFFE := by
  rfl

/-- V48 row 23. -/
theorem test_trunc_l_s :
    after (exec (.trunc_l_s 0 4) (State.withFpr small [(0, 0xFF800000)]))
      (fun t => (t.fcr31, (t.getFpr 4).bits)) = some (0x10040, 0x8000000000000000) := by
  rfl

/-- V48 row 26. -/
theorem test_cvt_d_l :
    after (exec (.cvt_d_l 0 4) (State.withFpr small [(0, 0xFFFFFFFFFFFFFFFF)]))
      (fun t => (t.getFpr 4).bits) = some 0xBFF0000000000000 := by
  rfl

/-- V48 row 28: the zeros are equal. -/
theorem test_c_eq_s :
    after (exec (.c_eq_s 2 0) (State.withFpr small [(2, 0x80000000)])) (fun t => t.fcr31) = some 0x00800000 := by
  rfl

/-- V48 row 30. -/
theorem test_c_ngt_s :
    after (exec (.c_ngt_s 2 0) (State.withFpr small [(0, 0x7FBFFFFF), (2, 0x3F800000)]))
      (fun t => t.fcr31) = some 0x00810040 := by
  rfl

/-- V48 row 39: reserved bits stay zero, and Cause.E traps. -/
theorem test_ctc1 :
    after (exec (.ctc1 4 31) (State.with small [(4, 0xFFFFFFFF)]))
      (fun t => (t.fcr31, t.cp0.cause.excCode)) = some (0x0383FFFF, 15) := by
  rfl

/-- V49 row 6: the conditions of the halves are joined. -/
theorem test_add_ps :
    after (exec (.add_ps 2 0 4) (State.withFpr small [(0, 0x7F7FFFFF3F800000), (2, 0x7F7FFFFF3F800000)]))
      (fun t => (t.fcr31, (t.getFpr 4).bits)) = some (0x5014, 0x7F80000040000000) := by
  rfl

/-- V49 row 8. -/
theorem test_c_lt_ps :
    after (exec (.c_lt_ps 2 0) (State.withFpr small [(0, 0x400000003F800000), (2, 0x3F80000040000000)]))
      (fun t => t.fcr31) = some 0x00800000 := by
  rfl

/-- V49 row 14. -/
theorem test_madd_s_fused :
    after (exec (.madd_s 4 2 0) (State.withFpr small [(0, 0xBF800002), (2, 0x3F800001), (4, 0x3F800001)]))
      (fun t => (t.fcr31, (t.getFpr 0).lo)) = some (0, 0x28800000) := by
  rfl

/-- V49 row 12. -/
theorem test_nmsub_ps :
    after (exec (.nmsub_ps 4 2 0) (State.withFpr small [(0, 0x3F8000003F800000), (2, 0x4000000040000000), (4, 0x4040000040400000)]))
      (fun t => (t.getFpr 0).bits) =
      some 0xC0A00000C0A00000 := by
  rfl

/-! ### Devices (V61) and steps -/

/-- V61 row 1. -/
theorem test_window_write :
    after (exec (.sd 1 2 0) (State.with small [(1, 0x900000003FF00058), (2, 0x40000001)]))
      (fun t => t.windows[11]) = some 0x40000001 := by
  rfl

/-- V61 row 2. -/
theorem test_window_write_of_a_word :
    exec (.sw 1 2 0) (State.with small [(1, 0x900000003FF00058), (2, 0x40000001)]) = .refused .windowRegisterAccess := by
  rfl

/-- V61 row 6. -/
theorem test_ddr_port :
    after (exec (.sd 1 2 0) (State.with small [(1, 0xFFFFFFFFAFFFFE30), (2, 0x0101010001000000)]))
      (fun t => t.ddrCtl 3) = some 0x0101010001000000 := by
  rfl

/-- V61 row 7. -/
theorem test_no_window :
    after (exec (.lw 1 2 0) (State.with small [(1, 0x9000000020000000), (2, 5)]))
      (fun t => (t.readGpr 2, t.taken)) = some (0, none) := by
  rfl

/-- The first instruction after reset, `addiu r9, r0, 42`, read from the boot ROM (R790). -/
theorem test_step_after_reset :
    after (step (State.reset.withFetchWord 32 0x2409002A))
      (fun t => (t.readGpr 9, t.pc)) = some (42, 0xFFFFFFFFBFC00004) := by
  rfl

/-- V60 row 2. -/
theorem test_step_nmi :
    after (step { small.setCp0 { small.cp0 with status := 0x1000FF01 } with events := [⟨0, .nmi⟩] })
      (fun t => (t.cp0.errorEpc, t.cp0.status, t.pc)) =
      some (0xFFFFFFFFA0004000, 0x1050FF05, 0xFFFFFFFFBFC00000) := by
  rfl

/-- V60 row 5: the software interrupt is taken in place of the instruction. -/
theorem test_step_interrupt :
    after (step (small.setCp0 { small.cp0 with status := 0x10000101, cause := { small.cp0.cause with sw := 1 } }))
      (fun t => (t.cp0.epc, t.cp0.cause.excCode, t.cp0.status, t.pc)) =
      some (0xFFFFFFFFA0004000, 0, 0x10000103, general) := by
  rfl

/-! ### The PCI and DDR2 controllers (R135, R712, R713, R781) -/

/-- The small state with incoming window 0 at PCI 0x90000000 to 0x9FFFFFFF, and PCIDMA window 0 sent to the I/O
controller. -/
def dmaState (e : HostEvent) : State :=
  let s := (small.setReg 20 0xF0000000).setReg 21 0
  let s := s.setHeader 4 0x90000000
  { s with windows := s.windows.set 20 1, events := [⟨0, e⟩] }

/-- R713 with R135: a PCI master writes Intenset behind MMAP = 1; R706: the window has pref_en = 0. -/
theorem test_dma_to_io :
    after (step (dmaState (.dmaWrite 0x9FE00130 [0x01, 0x02, 0x00, 0x00])))
      (fun t => (t.reg 14, t.header 16)) = some (0x201, 0x80000000) := by
  rfl

/-- R713: a store of the CPU to PCI memory whose bus address 0x80001000 an open incoming window takes goes to the bus and
to DDR2 address 0x1000; with the windows off, as after reset, to the bus alone. -/
theorem test_store_collides_with_window :
    (let s := (small.setReg 4 0x20).setHeader 4 0x80000000
     let f := fun (t : State) => match physWrite t 0x10001000 [0xAA, 0xBB] with
       | .ok _ u => some (readBytes u.mem 0x1000 3, u.busLog)
       | _ => none
     (f ((s.setReg 20 0xF0000000).setReg 21 0), f s)) =
      (some ([0xAA, 0xBB, 0x33], [.pciMemWrite 0x80001000 [0xAA, 0xBB]]),
       some ([0x11, 0x22, 0x33], [.pciMemWrite 0x80001000 [0xAA, 0xBB]])) := by
  decide +kernel

/-- The state `dmaState` with POWER_DOWN set, a read of a PCI master waiting, and pcix_ro_en as given. -/
def readWaitsState (roEn : Word) (e : HostEvent) : State :=
  let s := ((dmaState e).setDdrCtl 2 0x0001000000000000).setReg 5 (0x18 ||| roEn <<< 6)
  { s with ddr := { s.ddr with waiting := [.read 0x80001000 0x1000 4] } }

/-- R717: with pcix_ro_en = 0 a write to Intenset does not pass the read that waits; with 1 it does. -/
theorem test_dma_write_behind_read :
    after (step (readWaitsState 0 (.dmaWrite 0x9FE00130 [0x01, 0x02, 0x00, 0x00])))
      (fun t => (t.reg 14, t.ddr.waiting.length)) = some (0, 2) ∧
    after (step (readWaitsState 1 (.dmaWrite 0x9FE00130 [0x01, 0x02, 0x00, 0x00])))
      (fun t => (t.reg 14, t.ddr.waiting.length)) = some (0x201, 1) := by
  exact ⟨rfl, rfl⟩

/-- R775 with R717: when software clears POWER_DOWN the read is served first, then the write. -/
theorem test_waiting_served_in_order :
    (let s := readWaitsState 0 .nmi
     let s := { s with ddr := { s.ddr with waiting := s.ddr.waiting ++ [.ioWrite 0x1FE00130 [0x01, 0x02, 0x00, 0x00]] } }
     match ddrPortAccessWrite s 0x0FFFFE20 (List.replicate 8 0) with
     | .ok _ t => some (t.ddr.waiting, t.reg 14, t.busLog)
     | _ => none) = some ([], 0x201, [.dmaData 0x80001000 [0x11, 0x22, 0x33, 0x44]]) := by
  decide +kernel

/-- The small state with data bit 5 of the doubleword at 0x1000 wrong, and CTRL_RAW as given. -/
def eccState (ctrl : Dword) : State :=
  let s := small.setDdrCtl 4 (ctrl <<< 48)
  { s with ddr := { s.ddr with flips := [(0x200, 0x20)] } }

/-- R781: corrected with CTRL_RAW = 11, reported by cause 2 with the address; as it stands with 01 and 00. -/
theorem test_ecc :
    (let r := (eccState 3).ddrMemRead 0x1000 2
     (r.1, (r.2.ddrCtl 16).getLsbD 50, (r.2.ddrCtl 21).extractLsb' 24 37)) = ([0x11, 0x22], true, (0x1000 : BitVec 37)) ∧
    ((eccState 1).ddrMemRead 0x1000 2).1 = [0x31, 0x22] ∧ ((eccState 0).ddrMemRead 0x1000 2).1 = [0x31, 0x22] := by
  decide +kernel

/-! ### Witnesses: for every statement with hypotheses, a state and operands that meet them -/

/-- A word placed where the next step of the small state fetches it. -/
def small.at (w : Nat) : State := small.withFetchWord 32 w

/-- The small state in another status. -/
def small.status (v : Word) : State := small.setCp0 { small.cp0 with status := v }

/-- A page of 4 KB at physical 0x1000, uncached. -/
def page : TlbPage := { e := false, pfn := 1, c := 2, d := true, v := true }

/-- JTLB entry 3 maps the pages at 0x400000 and 0x401000 for ASID 5: the even one as given, the odd one plain. -/
def mapped (even : TlbPage) : State :=
  { small with
    tlb := small.tlb.set 3
      { mask := 0, r := 0, vpn2 := 0x200, g := false, asid := 5, even := even, odd := page }
    cp0 := { small.cp0 with entryHi := 5 } }

/-- A data cache line that holds physical 0x1000 to 0x101F. -/
def dirtyLine : DLine := { tag := 1, cs := 3, w := true, scset := 0, data := 0x1122334455667788 }

/-- Set 128 of the data cache and of the secondary cache hold the line of physical 0x1000, both dirty. -/
def cached : State :=
  { small with
    dcache := [(512, dirtyLine)]
    scache := [(512, { tag := 0, state := 3, data := 0x99 })] }

/-- The address of the line of `cached`, cached, with bits 4:0 = 0. -/
def lineVa : Dword := 0x9800000000001000

/-- ResetRouting: the reset state, and the boundaries of the ranges. -/
theorem witness_ResetRouting :
    State.reset.windows = State.reset.windows ∧ State.reset.route 0x0FFFFFFF = .ddr 0x0FFFFFFF ∧
    State.reset.route 0x10000000 = .io 0x10000000 ∧ State.reset.route 0x1FFFFFFF = .io 0x1FFFFFFF ∧
    State.reset.route 0x20000000 = .nowhere ∧ State.reset.route 0x3FEFFFFF = .nowhere ∧
    State.reset.route 0x3FF000C0 = .nowhere ∧
    windowTarget State.reset.dmaWindows 0x80000000 = .ddr 0 ∧
    windowTarget State.reset.dmaWindows 0xFFFFFFFF = .ddr 0x7FFFFFFF :=
  ⟨rfl, rfl, rfl, rfl, rfl, rfl, rfl, rfl, rfl⟩

/-- DecodeEncodeRoundTrip: a well-formed instruction with a restricted operand, and a word. -/
theorem witness_DecodeEncodeRoundTrip :
    (Instr.cache 4 2 8).wellFormed = true ∧ decode 0xBC820008 = .ok (.cache 4 2 8) := ⟨rfl, rfl⟩

/-- FetchReadsWord: an uncached pc in DDR2 memory, the pc of the reset state in the boot ROM, and a misaligned pc. -/
theorem witness_FetchReadsWord :
    (small.pc.toNat % 4 = 0 ∧ translate small .fetch small.pc = .ok (0x4000, 2) small ∧ (2 : BitVec 3) ≠ 3 ∧
      small.gather = none ∧ small.busErrorAt 0x4000 true = false ∧ DramAt small 0x4000 0x4000) ∧
    (State.reset.pc.toNat % 4 = 0 ∧
      translate State.reset .fetch State.reset.pc = .ok (0x1FC00000, 2) State.reset ∧
      State.reset.busErrorAt 0x1FC00000 true = false ∧ State.reset.route 0x1FC00000 = .io 0x1FC00000 ∧
      State.reset.region 0x1FC00000 = .bootRom 0) ∧
    ({ small with pc := 2 } : State).pc.toNat % 4 ≠ 0 :=
  ⟨⟨rfl, rfl, by decide, rfl, rfl, rfl, rfl, rfl, rfl, by decide, rfl⟩, ⟨rfl, rfl, rfl, rfl, rfl⟩, by decide⟩

/-- The small state with the pc in the cached window and its line in the instruction cache. -/
def cachedPc : State :=
  { small with
    pc := 0x9800000000001000
    icache := [(512, { tag := 1, valid := true, data := 0x2409002A })] }

/-- FetchReadsWord: a cached pc whose line the instruction cache holds. -/
theorem witness_FetchReadsWord_cached :
    cachedPc.pc.toNat % 4 = 0 ∧ translate cachedPc .fetch cachedPc.pc = .ok (0x1000, 3) cachedPc ∧
    cachedPc.iHit cachedPc.pc 0x1000 = some 512 := ⟨rfl, rfl, rfl⟩

/-- With no event waiting none is due. -/
theorem noEventDue_of_none {s : State} (h : s.events = []) : NoEventDue s := by
  intro e he
  simp [h] at he

/-- StepRunsInstruction: an event waits whose time has not come. -/
theorem witness_StepRunsInstruction_event :
    NoEventDue { small.at 0x2409002A with events := [⟨3, .nmi⟩] } := by
  intro e he
  simp only [List.head?_cons, Option.mem_some_iff] at he
  subst he
  decide

/-- A table of the parameter GS_OPCODES that gives DIV.G another function code. -/
def otherTable : List Config.GsRow := [⟨.divg, 0xFC0007FF, 0x7000003F⟩]

/-- StepRunsInstruction: a word that another table of the Godson encodings reads as an instruction. -/
theorem witness_StepRunsInstruction_table :
    decodeFor (some otherTable) 0x7022183F = .ok (.divg 1 2 3) ∧ decode 0x7022183F = .error .reserved :=
  ⟨rfl, rfl⟩

/-- StepRunsInstruction: an instruction that completes, with no interrupt pending. -/
theorem witness_StepRunsInstruction_next :
    NoEventDue (small.at 0x2409002A) ∧ (small.at 0x2409002A).standingBy = false ∧
    (∃ t, fetch { small.at 0x2409002A with taken := none } = .ok 0x2409002A t ∧ ∃ u, exec (.addiu 0 9 42) t = .next u) ∧
    decodeFor (small.at 0x2409002A).params.gsOpcodes 0x2409002A = .ok (.addiu 0 9 42) ∧
    (small.at 0x2409002A).interruptDue = false :=
  ⟨noEventDue_of_none rfl, rfl, ⟨_, rfl, _, rfl⟩, rfl, rfl⟩

/-- The small state with `lw r9, 0(r1)` at the pc and r1 at a hole of the I/O controller's map. -/
def holeState : State := State.with (small.at 0x8C290000) [(1, 0xFFFFFFFFBFE10000)]

/-- StepRunsInstruction: a load from a hole of the map faults. -/
theorem witness_StepRunsInstruction_fault :
    (∃ t, fetch { holeState with taken := none } = .ok 0x8C290000 t ∧ exec (.lw 1 9 0) t = .fault .unmappedIo) ∧
    decodeFor holeState.params.gsOpcodes 0x8C290000 = .ok (.lw 1 9 0) ∧ NoEventDue holeState ∧
    holeState.standingBy = false ∧ holeState.interruptDue = false :=
  ⟨⟨_, rfl, rfl⟩, rfl, noEventDue_of_none rfl, rfl, rfl⟩

/-- The small state with `eret` at the pc, in a delay slot. -/
def slotState : State := { small.at 0x42000018 with delay := some 0 }

/-- StepRunsInstruction: an ERET in a delay slot is refused. -/
theorem witness_StepRunsInstruction_refused :
    (∃ t, fetch { slotState with taken := none } = .ok 0x42000018 t ∧ exec .eret t = .refused .delaySlotBranch) ∧
    decodeFor slotState.params.gsOpcodes 0x42000018 = .ok .eret ∧ NoEventDue slotState ∧
    slotState.standingBy = false ∧ slotState.interruptDue = false :=
  ⟨⟨_, rfl, rfl⟩, rfl, noEventDue_of_none rfl, rfl, rfl⟩

/-- The small state with `addiu r9, r0, 42` at the pc and a software interrupt pending. -/
def interruptState : State :=
  (small.at 0x2409002A).setCp0
    { small.cp0 with status := 0x30000101, cause := { small.cp0.cause with sw := 1 } }

/-- StepRunsInstruction: an interrupt is pending and the instruction takes no exception. -/
theorem witness_StepRunsInstruction_interrupt :
    interruptState.interruptDue = true ∧ NoEventDue interruptState ∧ interruptState.standingBy = false ∧
    ∃ t u, fetch { interruptState with taken := none } = .ok 0x2409002A t ∧ exec (.addiu 0 9 42) t = .next u ∧
      u.taken = none := ⟨rfl, noEventDue_of_none rfl, rfl, _, _, rfl, rfl, rfl⟩

/-- StepRunsInstruction: a fetch that raises, and words of the four kinds. -/
theorem witness_StepRunsInstruction_noInstruction :
    (fetch { small with pc := 2, taken := none } =
      .raise (.addressError false 2) { small with pc := 2, taken := none }) ∧
    (∃ t, fetch { small.at 0x35 with taken := none } = .ok 0x35 t) ∧ decodeFor small.params.gsOpcodes 0x35 = .error .reserved ∧
    (∃ t, fetch { small.at 0x42000003 with taken := none } = .ok 0x42000003 t ∧ t.mode = some .kernel) ∧
    decodeFor small.params.gsOpcodes 0x42000003 = .error .reservedCop0 ∧
    (∃ t, fetch { small.at 0x46000120 with taken := none } = .ok 0x46000120 t) ∧
    decodeFor small.params.gsOpcodes 0x46000120 = .error .reservedCop1 ∧
    (∃ t, fetch { small.at 0x48000000 with taken := none } = .ok 0x48000000 t ∧ t.cu 2 = false) ∧
    (∃ t, fetch { (small.at 0x48000000).setCp0 { small.cp0 with status := 0x40000000 } with taken := none } =
      .ok 0x48000000 t ∧ t.cu 2 = true) ∧
    decodeFor small.params.gsOpcodes 0x48000000 = .error .cop2 ∧ NoEventDue (small.at 0x48000000) ∧
    (small.at 0x48000000).standingBy = false ∧ (small.at 0x48000000).interruptDue = false :=
  ⟨rfl, ⟨_, rfl⟩, rfl, ⟨_, rfl, rfl⟩, rfl, ⟨_, rfl⟩, rfl, ⟨_, rfl, rfl⟩, ⟨_, rfl, rfl⟩, rfl, noEventDue_of_none rfl, rfl, rfl⟩

/-- User mode with the page at 0x400000 in an ITLB entry and a COP0 word there. -/
def userCop0 : State :=
  { small.status 0x10 with
    pc := 0x400000
    itlb := small.itlb.set 0 (some { r := 0, vpn := 0x400, page := { page with pfn := 4 } })
    mem := [(0x4000, 0x03), (0x4003, 0x42)] }

/-- StepRunsInstruction: a COP0 word in user mode with CU0 = 0. -/
theorem witness_StepRunsInstruction_noInstruction_user :
    ∃ t, fetch { userCop0 with taken := none } = .ok 0x42000003 t ∧ t.cu 0 = false ∧ t.mode = some .user :=
  ⟨_, rfl, rfl, rfl⟩

/-- CanonicalKept: the small state is canonical and steps; so does a state with lines in its caches. -/
theorem witness_CanonicalKept :
    small.canonical ∧ (∃ t, step (small.at 0x2409002A) = .next t) ∧ (small.at 0x2409002A).canonical ∧
    cached.canonical := by
  refine ⟨?_, ⟨_, rfl⟩, ?_, ?_⟩ <;> exact ⟨rfl, rfl, rfl, rfl, rfl, rfl⟩

/-- ZeroRegisterKept and ReservedBitsKept: the small state meets the invariants and steps. -/
theorem witness_ZeroRegisterKept_ReservedBitsKept :
    (small.at 0x2409002A).zeroRegister ∧ (small.at 0x2409002A).cp0Reserved ∧ (small.at 0x2409002A).fcr31Reserved ∧
    ∃ t, step (small.at 0x2409002A) = .next t :=
  ⟨rfl, ⟨rfl, rfl, rfl, rfl, rfl, rfl, rfl, rfl, rfl, rfl⟩, rfl, _, rfl⟩

/-- The state of V47 row 12 with Wired = 8 and Random = 20. -/
def wiredState : State := tlbState.setCp0 { tlbState.cp0 with wired := 8, random := 20 }

/-- RandomInRangeKept: a state in range that steps, TLBWR completes in it, and an entry below Wired. -/
theorem witness_RandomInRangeKept :
    wiredState.cp0.wired ≤ wiredState.cp0.random ∧ (∃ t, step (wiredState.withFetchWord 32 0x42000006) = .next t) ∧
    (∃ t, exec .tlbwr wiredState = .next t) ∧ (7 : Fin 64).val < wiredState.cp0.wired.toNat :=
  ⟨by decide, ⟨_, rfl⟩, ⟨_, rfl⟩, by decide⟩

/-- ExceptionsArePrecise: SYSCALL in a delay slot takes its exception, and so does a floating-point operation. -/
theorem witness_ExceptionsArePrecise :
    slotState.taken = none ∧ slotState.exl = false ∧ slotState.delay ≠ none ∧
    (∃ t, exec (.syscall 0) slotState = .next t ∧ t.taken = some .syscall) ∧
    ∃ t, exec (.abs_s 0 4) (State.withFpr small [(0, 1)]) = .next t ∧ t.taken = some .floatingPoint :=
  ⟨rfl, rfl, by decide, ⟨_, rfl, rfl⟩, _, rfl, rfl⟩

/-- UserModeKeepsCp0: an addition in user mode and one in supervisor mode. -/
theorem witness_UserModeKeepsCp0 :
    ((small.status 0x10).mode = some .user ∧ (small.status 0x10).cu 0 = false ∧ (small.status 0x10).taken = none ∧
      ∃ t, exec (.addu 1 2 3) (small.status 0x10) = .next t ∧ t.taken = none) ∧
    (small.status 0x08).mode = some .supervisor ∧
      ∃ t, exec (.addu 1 2 3) (small.status 0x08) = .next t ∧ t.taken = none :=
  ⟨⟨rfl, rfl, rfl, _, rfl, rfl⟩, rfl, _, rfl, rfl⟩

/-- AddressRegisters: an exception of each kind. -/
theorem witness_AddressRegisters :
    (Exc.tlbModified 0 = .tlbModified 0) ∧ (∃ store, Exc.tlbRefill true 8 = .tlbRefill store 8) ∧
    (∃ store, Exc.tlbInvalid false 8 = .tlbInvalid store 8) ∧ (∀ va, Exc.syscall ≠ .tlbModified va) ∧
    (∀ store va, Exc.syscall ≠ .tlbRefill store va ∧ Exc.syscall ≠ .tlbInvalid store va ∧
      Exc.syscall ≠ .addressError store va) :=
  ⟨rfl, ⟨_, rfl⟩, ⟨_, rfl⟩, fun _ => Exc.noConfusion, fun _ _ => ⟨Exc.noConfusion, Exc.noConfusion, Exc.noConfusion⟩⟩

/-- ExceptionReturn: kernel mode with EXL = 1, and with ERL = 1, outside and inside a delay slot. -/
theorem witness_ExceptionReturn :
    ((small.status 0x12).mode = some .kernel ∧ (small.status 0x12).delay = none ∧ (small.status 0x12).erl = false ∧
      (small.status 0x12).ksu = 2) ∧
    ((small.status 0x0A).erl = false ∧ (small.status 0x0A).ksu = 1) ∧ (small.status 4).erl = true ∧
    slotState.cu 0 = true ∧ slotState.delay ≠ none :=
  ⟨⟨rfl, rfl, rfl, rfl⟩, ⟨rfl, rfl⟩, rfl, rfl, by decide⟩

/-- NmiEntry: a state with each of the two events due, on a platform with and without a soft reset. -/
theorem witness_NmiEntry :
    ({ small with events := [⟨0, .nmi⟩] } : State).events = ⟨0, .nmi⟩ :: [] ∧
    (({ small with
        events := [⟨0, .softReset⟩], params := { Config.Params.default with hasSoftReset := true } } : State).events =
      ⟨0, .softReset⟩ :: [] ∧ ({ Config.Params.default with hasSoftReset := true } : Config.Params).hasSoftReset = true) ∧
    ({ small with events := [⟨0, .softReset⟩] } : State).params.hasSoftReset = false := ⟨rfl, ⟨rfl, rfl⟩, rfl⟩

/-- OverflowingArithmetic: sums at and just beyond the bounds. -/
theorem witness_OverflowingArithmetic :
    (State.with small [(1, 0x7FFFFFFE)]).wordInt 1 + (1 : BitVec 16).toInt = 2 ^ 31 - 1 ∧
    (State.with small [(1, 0x7FFFFFFF)]).wordInt 1 + (1 : BitVec 16).toInt = 2 ^ 31 ∧
    (State.with small [(1, 0x80000000)]).wordInt 1 = -(2 ^ 31) ∧
    (State.with small [(1, 0x8000000000000000)]).regInt 1 + (0xFFFF : BitVec 16).toInt = -(2 ^ 63) - 1 := by decide

/-- MultiplyDivideHiLo and GodsonMultiplyDivide: a divisor that is not 0 in any reading, and one that is. -/
theorem witness_MultiplyDivideHiLo_GodsonMultiplyDivide :
    (State.with small [(2, 7)]).wordInt 2 ≠ 0 ∧ (State.with small [(2, 7)]).wordNat 2 ≠ 0 ∧
    (State.with small [(2, 7)]).regInt 2 ≠ 0 ∧ (State.with small [(2, 7)]).regNat 2 ≠ 0 ∧ small.wordInt 2 = 0 := by
  decide

/-- Jumps, Branches, LikelyBranches and ConditionBranches: outside and inside a delay slot, with a condition that holds
and one that does not, and CU1 = 1. -/
theorem witness_Jumps_Branches :
    small.delay = none ∧ slotState.delay ≠ none ∧ small.readGpr 1 = small.readGpr 2 ∧
    (State.with small [(1, 1)]).readGpr 1 ≠ (State.with small [(1, 1)]).readGpr 2 ∧ small.regInt 1 ≤ 0 ∧
    0 < (State.with small [(1, 1)]).regInt 1 ∧ (State.with small [(1, 0xFFFFFFFFFFFFFFFF)]).regInt 1 < 0 ∧
    small.cu 1 = true ∧ small.fcr31.getLsbD 23 = false ∧ (small.setFcr31 0x00800000).fcr31.getLsbD 23 = true := by
  decide

/-- TrapsAndCalls: each condition holds in one of the two states and fails in the other. -/
theorem witness_TrapsAndCalls :
    small.readGpr 1 = small.readGpr 2 ∧ m1.readGpr 1 ≠ m1.readGpr 2 ∧ m1.regInt 1 < m1.regInt 2 ∧
    m1.regNat 2 < m1.regNat 1 ∧ small.regInt 1 ≤ small.regInt 2 := by decide

/-- SegmentsByMode: a state in each mode and one in none. -/
theorem witness_SegmentsByMode :
    small.mode = some .kernel ∧ (small.status 0x08).mode = some .supervisor ∧ (small.status 0x10).mode = some .user ∧
    (small.status 0x18).mode = none := ⟨rfl, rfl, rfl, rfl⟩

/-- MappedTranslation: entry 3 alone matches, with a legal mask, for a page that is valid, invalid, not writable and not
executable, and nothing matches where nothing is mapped. -/
theorem witness_MappedTranslation :
    (OnlyTlbMatch (mapped page) 3 0x400010 ∧ (∀ i, ¬ TlbMatches (mapped page) i 0x402000)) ∧
    OnlyTlbMatch (mapped { page with v := false }) 3 0x400010 ∧
    OnlyTlbMatch (mapped { page with d := false }) 3 0x400010 ∧
    OnlyTlbMatch (mapped { page with e := true }) 3 0x400010 ∧ PageMaskOf (mapped page).tlb[3].mask 0 ∧
    0x400010 / 2 ^ 12 % 2 = 0 ∧ 0x401010 / 2 ^ 12 % 2 = 1 := by
  unfold OnlyTlbMatch TlbMatches PageMaskOf
  refine ⟨?_, ?_, ?_, ?_, ?_⟩ <;> decide +kernel

/-- The state `mapped page` with the same entry in place 4 too. -/
def twice : State := { mapped page with tlb := (mapped page).tlb.set 4 ((mapped page).tlb[3]) }

/-- MappedTranslation: two entries match. -/
theorem witness_MappedTranslation_twice :
    (3 : Fin 64) ≠ 4 ∧ TlbMatches twice 3 0x400010 ∧ TlbMatches twice 4 0x400010 := by
  unfold TlbMatches
  decide +kernel

/-- FetchTranslation: a page that no ITLB entry holds, mapped by the JTLB and not. -/
theorem witness_FetchTranslation :
    PageMaskOf (small.cp0.pageMask.extractLsb' 13 12) 0 ∧ (∀ n : Fin 16, (mapped page).itlb[n] = none) ∧
    (∃ r u, translateMapped (mapped page) .fetch 0x400010 = .ok r u) ∧ OnlyTlbMatch (mapped page) 3 0x400010 ∧
    PageMaskOf (mapped page).tlb[(3 : Fin 64)].mask 0 ∧
    ∃ e u, translateMapped small .fetch 0x400010 = .raise e u := by
  refine ⟨⟨by decide, by decide⟩, by decide +kernel, ⟨_, _, rfl⟩, ?_, ⟨by decide, by decide⟩, _, _, rfl⟩
  unfold OnlyTlbMatch TlbMatches
  decide +kernel

/-- Two ITLB entries: entry 1 holds the page at 0x600000, entry 2 the one at 0x400000. -/
def twoEntries (even : TlbPage) : State :=
  { small with
    itlb := (small.itlb.set 2 (some { r := 0, vpn := 0x400, page := even })).set 1
      (some { r := 0, vpn := 0x600, page := page }) }

/-- FetchTranslation: the first entry that holds the page, valid, invalid and not executable; and a mask that is none
of the seven. -/
theorem witness_FetchTranslation_held :
    (twoEntries page).itlb[(2 : Fin 16)] = some { r := 0, vpn := 0x400, page := page } ∧
    (0 : BitVec 2).toNat = (0x400000 : Dword).toNat / 2 ^ 62 ∧
    (0x400 : BitVec 28).toNat / 4 ^ 0 = (0x400000 : Dword).toNat / 2 ^ (12 + 2 * 0) % 2 ^ (28 - 2 * 0) ∧
    (∀ (m : Fin 16) (d : ItlbEntry), m < 2 →
      ¬ ((twoEntries page).itlb[m] = some d ∧ d.r.toNat = (0x400000 : Dword).toNat / 2 ^ 62 ∧
        d.vpn.toNat / 4 ^ 0 = (0x400000 : Dword).toNat / 2 ^ (12 + 2 * 0) % 2 ^ (28 - 2 * 0))) ∧
    (page.v = true ∧ page.e = false) ∧ ({ page with v := false } : TlbPage).v = false ∧
    ({ page with e := true } : TlbPage).e = true ∧
    ∀ j, ¬ PageMaskOf ((0x2000 : Word).extractLsb' 13 12) j := by
  refine ⟨rfl, rfl, rfl, ?_, ⟨rfl, rfl⟩, rfl, rfl, ?_⟩
  · rintro m d hm ⟨h, -, h2⟩
    have : m = 0 ∨ m = 1 := by omega
    rcases this with rfl | rfl
    · have h0 : (twoEntries page).itlb[(0 : Fin 16)] = none := rfl
      rw [h0] at h
      cases h
    · have h1 : (twoEntries page).itlb[(1 : Fin 16)] = some { r := 0, vpn := 0x600, page := page } := rfl
      rw [h1, Option.some.injEq] at h
      subst h
      exact absurd h2 (by decide)
  · rintro j ⟨hj, h⟩
    interval_cases j <;> exact absurd h (by decide)

/-- SupervisorSegments: supervisor mode, and addresses at the bounds of the three segments and just beyond. -/
theorem witness_SupervisorSegments :
    ((small.status 0x08).ksu = 1 ∧ (small.status 0x08).exl = false ∧ (small.status 0x08).erl = false) ∧
    (0x000000FFFFFFFFFF : Dword).toNat ≤ 0x000000FFFFFFFFFF ∧
    (0x4000000000000000 ≤ (0x400000FFFFFFFFFF : Dword).toNat ∧
      (0x400000FFFFFFFFFF : Dword).toNat ≤ 0x400000FFFFFFFFFF) ∧
    (0xFFFFFFFFC0000000 ≤ (0xFFFFFFFFDFFFFFFF : Dword).toNat ∧
      (0xFFFFFFFFDFFFFFFF : Dword).toNat ≤ 0xFFFFFFFFDFFFFFFF) ∧
    ¬ ((0xFFFFFFFFE0000000 : Dword).toNat ≤ 0x000000FFFFFFFFFF ∨
      (0x4000000000000000 ≤ (0xFFFFFFFFE0000000 : Dword).toNat ∧
        (0xFFFFFFFFE0000000 : Dword).toNat ≤ 0x400000FFFFFFFFFF) ∨
      (0xFFFFFFFFC0000000 ≤ (0xFFFFFFFFE0000000 : Dword).toNat ∧
        (0xFFFFFFFFE0000000 : Dword).toNat ≤ 0xFFFFFFFFDFFFFFFF)) :=
  ⟨⟨rfl, rfl, rfl⟩, by decide, by decide, by decide, by decide⟩

/-- A cached address, with its line in the secondary cache alone. -/
def secondaryOnly : State :=
  State.with { small with scache := [(512, { tag := 0, state := 2, data := 0x99 })] } [(1, lineVa)]

/-- A cached address, with its line in no cache. -/
def memoryOnly : State := State.with small [(1, lineVa)]

/-- The line of physical 0x1000 in memory. -/
def memoryLine : LineData := 0x80000001_9234FF80_88776655_44332211

/-- Loads and Stores: a miss that the secondary cache answers. -/
theorem witness_Loads_Stores_secondary :
    Translates secondaryOnly false (addressOf secondaryOnly 1 0) 0x1000 3 ∧
    Translates secondaryOnly true (addressOf secondaryOnly 1 0) 0x1000 3 ∧ secondaryOnly.canonical ∧
    Refills secondaryOnly (addressOf secondaryOnly 1 0) 0x1000 0x99 ∧
    (addressOf secondaryOnly 1 0).toNat % 8 = 0 := by
  refine ⟨⟨rfl, rfl⟩, ⟨rfl, rfl⟩, ⟨rfl, rfl, rfl, rfl, rfl, rfl⟩, .inl ⟨rfl, ?_, 512, rfl, rfl⟩, rfl⟩
  decide +kernel

/-- Loads and Stores: a miss that memory answers. -/
theorem witness_Loads_Stores_memory :
    Translates memoryOnly false (addressOf memoryOnly 1 0) 0x1000 3 ∧
    Translates memoryOnly true (addressOf memoryOnly 1 0) 0x1000 3 ∧ memoryOnly.canonical ∧
    Refills memoryOnly (addressOf memoryOnly 1 0) 0x1000 memoryLine ∧
    (addressOf memoryOnly 1 0).toNat % 8 = 0 := by
  refine ⟨⟨rfl, rfl⟩, ⟨rfl, rfl⟩, ⟨rfl, rfl, rfl, rfl, rfl, rfl⟩,
    .inr ⟨rfl, rfl, rfl, ?_, ?_, 0x1000, ⟨rfl, rfl, rfl, rfl, by decide, rfl⟩, by decide +kernel⟩, rfl⟩
  · decide +kernel
  · unfold SecondaryReplaceable
    decide +kernel

/-- PartialLoads, PartialStores, LinkedAccesses and FpLoadsAndStores: a miss that the secondary cache answers, at the
first byte of a doubleword. -/
theorem witness_PartialLoads_PartialStores_miss_first :
    Translates secondaryOnly false (addressOf secondaryOnly 1 0) 0x1000 3 ∧
    Translates secondaryOnly true (addressOf secondaryOnly 1 0) 0x1000 3 ∧
    (addressOf secondaryOnly 1 0).toNat % 4 = 0 ∧ (addressOf secondaryOnly 1 0).toNat % 8 = 0 ∧
    ReadsOnMiss secondaryOnly (addressOf secondaryOnly 1 0) 0x1000 3 1 0x99 0x99 ∧
    ReadsOnMiss secondaryOnly (addressOf secondaryOnly 1 0) 0x1000 3 4 0x99 0x99 ∧
    ReadsOnMiss secondaryOnly (addressOf secondaryOnly 1 0) 0x1000 3 8 0x99 0x99 ∧
    secondaryOnly.cu 1 = true := by
  have h := witness_Loads_Stores_secondary
  exact ⟨h.1, h.2.1, rfl, rfl, ⟨rfl, h.2.2.1, h.2.2.2.1, by decide +kernel⟩,
    ⟨rfl, h.2.2.1, h.2.2.2.1, by decide +kernel⟩, ⟨rfl, h.2.2.1, h.2.2.2.1, by decide +kernel⟩, rfl⟩

/-- PartialLoads and PartialStores: the same miss at the last byte of a doubleword. -/
theorem witness_PartialLoads_PartialStores_miss_last :
    let va := addressOf secondaryOnly 1 7
    Translates secondaryOnly false va 0x1007 3 ∧ Translates secondaryOnly true va 0x1007 3 ∧
    va.toNat % 4 = 3 ∧ va.toNat % 8 = 7 ∧
    ReadsOnMiss secondaryOnly va ((0x1007 : BitVec 40) &&& ~~~3) 3 4 0x99 0 ∧
    ReadsOnMiss secondaryOnly va ((0x1007 : BitVec 40) &&& ~~~7) 3 8 0x99 0x99 ∧
    ReadsOnMiss secondaryOnly va 0x1007 3 1 0x99 0 := by
  have hc := witness_Loads_Stores_secondary.2.2.1
  have hr : ∀ pa ∈ [(0x1000 : BitVec 40), 0x1004, 0x1007], Refills secondaryOnly (addressOf secondaryOnly 1 7) pa 0x99 := by
    intro pa h
    fin_cases h
    all_goals
      refine .inl ⟨rfl, ?_, 512, rfl, rfl⟩
      decide +kernel
  exact ⟨⟨rfl, rfl⟩, ⟨rfl, rfl⟩, rfl, rfl, ⟨rfl, hc, hr _ (by decide), by decide +kernel⟩,
    ⟨rfl, hc, hr _ (by decide), by decide +kernel⟩, ⟨rfl, hc, hr _ (by decide), by decide +kernel⟩⟩

/-- LinkedAccesses: the miss that the secondary cache answers, with LLbit 1. -/
theorem witness_LinkedAccesses_miss :
    let s := secondaryOnly.setLlbit true
    Translates s true (addressOf s 1 0) 0x1000 3 ∧ s.llbit = true ∧ s.canonical ∧
    Refills s (addressOf s 1 0) 0x1000 0x99 ∧ (addressOf s 1 0).toNat % 8 = 0 := by
  refine ⟨⟨rfl, rfl⟩, rfl, ⟨rfl, rfl, rfl, rfl, rfl, rfl⟩, .inl ⟨rfl, ?_, 512, rfl, rfl⟩, rfl⟩
  decide +kernel

/-- Loads, LinkedAccesses and FpLoadsAndStores: an uncached address whose bytes read as a number of each size. -/
theorem witness_Loads :
    (2 : Reg) ≠ 0 ∧ Translates m1 false (addressOf m1 1 8) 0x1008 2 ∧ (addressOf m1 1 8).toNat % 8 = 0 ∧
    ReadsAs m1 (addressOf m1 1 8) 0x1008 2 1 0x80 ∧ ReadsAs m1 (addressOf m1 1 8) 0x1008 2 2 0xFF80 ∧
    ReadsAs m1 (addressOf m1 1 8) 0x1008 2 4 0x9234FF80 ∧
    ReadsAs m1 (addressOf m1 1 8) 0x1008 2 8 0x800000019234FF80 ∧ m1.cu 1 = true := by
  refine ⟨by decide, ⟨rfl, rfl⟩, rfl, ?_, ?_, ?_, ?_, rfl⟩ <;>
    exact .inl ⟨by decide, rfl, rfl, 0x1008, ⟨rfl, rfl, rfl, rfl, by decide, rfl⟩, rfl⟩

/-- The state `cached` with r1 at the cached line. -/
def cachedR1 : State := State.with cached [(1, lineVa)]

/-- Loads: a cached address whose line the data cache holds. -/
theorem witness_Loads_cached :
    Translates cachedR1 false (addressOf cachedR1 1 0) 0x1000 3 ∧
    ReadsAs cachedR1 (addressOf cachedR1 1 0) 0x1000 3 8 0x1122334455667788 :=
  ⟨⟨rfl, rfl⟩, .inr ⟨rfl, 512, rfl, rfl⟩⟩

/-- PartialLoads: an address in the middle of its word and doubleword. -/
theorem witness_PartialLoads :
    Translates m1 false (addressOf m1 1 3) 0x1003 2 ∧ (addressOf m1 1 3).toNat % 4 = 3 ∧
    ReadsAs m1 (addressOf m1 1 3) (0x1003 &&& ~~~3) 2 4 0x44332211 ∧ ReadsAs m1 (addressOf m1 1 3) 0x1003 2 1 0x44 ∧
    (addressOf m1 1 3).toNat % 8 = 3 ∧ ReadsAs m1 (addressOf m1 1 3) (0x1003 &&& ~~~7) 2 4 0x44332211 ∧
    ReadsAs m1 (addressOf m1 1 3) 0x1003 2 5 0x8877665544 := by
  refine ⟨⟨rfl, rfl⟩, rfl, ?_, ?_, rfl, ?_, ?_⟩
  · exact .inl ⟨by decide, rfl, rfl, 0x1000, ⟨rfl, rfl, rfl, rfl, by decide, rfl⟩, rfl⟩
  · exact .inl ⟨by decide, rfl, rfl, 0x1003, ⟨rfl, rfl, rfl, rfl, by decide, rfl⟩, rfl⟩
  · exact .inl ⟨by decide, rfl, rfl, 0x1000, ⟨rfl, rfl, rfl, rfl, by decide, rfl⟩, rfl⟩
  · exact .inl ⟨by decide, rfl, rfl, 0x1003, ⟨rfl, rfl, rfl, rfl, by decide, rfl⟩, rfl⟩

/-- Stores, LinkedAccesses, FpLoadsAndStores and StoreThenLoad: an uncached address in initialised memory. -/
theorem witness_Stores :
    m1.canonical ∧ Translates m1 true (addressOf m1 1 0) 0x1000 2 ∧ Storable m1 (addressOf m1 1 0) 0x1000 2 ∧
    (addressOf m1 1 0).toNat % 8 = 0 ∧ m1.llbit = false ∧ ({ m1 with llbit := true } : State).llbit = true ∧
    Translates m1 false (addressOf m1 1 0) 0x1000 2 ∧ m1.busErrorAt 0x1000 false = false ∧ (2 : BitVec 3) ≠ 7 :=
  ⟨⟨rfl, rfl, rfl, rfl, rfl, rfl⟩, ⟨rfl, rfl⟩,
    .inl ⟨by decide, by decide, rfl, 0x1000, rfl, rfl, rfl, rfl, by decide, rfl⟩, rfl, rfl, rfl, ⟨rfl, rfl⟩, rfl, by decide⟩

/-- Stores: a cached address whose line the data cache holds, and an uncached accelerated one. -/
theorem witness_Stores_cached_accelerated :
    (cachedR1.canonical ∧ Translates cachedR1 true (addressOf cachedR1 1 0) 0x1000 3 ∧
      Storable cachedR1 (addressOf cachedR1 1 0) 0x1000 3) ∧
    Translates (State.with small [(1, 0xB800000000001000)]) true 0xB800000000001000 0x1000 7 ∧
    addressOf (State.with small [(1, 0xB800000000001000)]) 1 0 = 0xB800000000001000 ∧
    Storable (State.with small [(1, 0xB800000000001000)]) 0xB800000000001000 0x1000 7 :=
  ⟨⟨⟨rfl, rfl, rfl, rfl, rfl, rfl⟩, ⟨rfl, rfl⟩, .inr (.inl ⟨rfl, 512, rfl⟩)⟩, ⟨rfl, rfl⟩, rfl, .inr (.inr ⟨rfl, rfl⟩)⟩

/-- PartialStores: an address in the middle of its word, whose aligned word can be stored to as well. -/
theorem witness_PartialStores :
    m1.canonical ∧ Translates m1 true (addressOf m1 1 3) 0x1003 2 ∧
    Storable m1 (addressOf m1 1 3) (0x1003 &&& ~~~3) 2 ∧ Storable m1 (addressOf m1 1 3) 0x1003 2 ∧
    Storable m1 (addressOf m1 1 3) (0x1003 &&& ~~~7) 2 := by
  refine ⟨⟨rfl, rfl, rfl, rfl, rfl, rfl⟩, ⟨rfl, rfl⟩, ?_, ?_, ?_⟩
  · exact .inl ⟨by decide, by decide, rfl, 0x1000, rfl, rfl, rfl, rfl, by decide, rfl⟩
  · exact .inl ⟨by decide, by decide, rfl, 0x1003, rfl, rfl, rfl, rfl, by decide, rfl⟩
  · exact .inl ⟨by decide, by decide, rfl, 0x1000, rfl, rfl, rfl, rfl, by decide, rfl⟩

/-- LoadsToZeroArePrefetches: a load into r0, and another instruction, which is none. -/
theorem witness_LoadsToZeroArePrefetches :
    (∃ a, dataAccessOf (.lw 1 0 1) = some a ∧ a.prefetch = true) ∧
    ∃ a, dataAccessOf (.lw 1 2 1) = some a ∧ a.prefetch = false := ⟨⟨_, rfl, rfl⟩, _, rfl, rfl⟩

/-- DataAccessExceptions: a misaligned address, an unmapped one, and a watched one. -/
theorem witness_DataAccessExceptions :
    (addressOf m1 1 1).toNat % 4 ≠ 0 ∧ (∃ e u, translate small .load (addressOf small 1 0) = .raise e u) ∧
    (∃ r u, translate (m1.setCp0 { m1.cp0 with watch := 0xFFFFFFFFA000100A }) .load
      (addressOf m1 1 12) = .ok r u) ∧
    (addressOf m1 1 12).toNat / 8 = (0xFFFFFFFFA000100A : Dword).toNat / 8 ∧
    (0xFFFFFFFFA000100A : Dword).getLsbD 1 = true := by
  refine ⟨by decide +kernel, ⟨_, _, rfl⟩, ⟨_, _, rfl⟩, by decide +kernel, by decide⟩

/-- The state `m1` with a bus error on the doubleword at 0x1008. -/
def busErrorState : State := { m1 with busErr := [{ first := 0x1008, last := 0x100F, fetch := false }] }

/-- DataAccessExceptions: an uncached load that the platform answers with an error. -/
theorem witness_DataAccessExceptions_bus :
    Translates busErrorState false (addressOf busErrorState 1 12) 0x100C 2 ∧ busErrorState.gather = none ∧
    ∀ q : BitVec 40, q.toNat / 8 = (0x100C : BitVec 40).toNat / 8 → busErrorState.busErrorAt q false = true := by
  refine ⟨⟨rfl, rfl⟩, rfl, fun q h => ?_⟩
  have e : (0x100C : BitVec 40).toNat = 0x100C := rfl
  have h1 : (0x1008 : Nat) ≤ q.toNat := by omega
  have h2 : q.toNat ≤ 0x100F := by omega
  simp [State.busErrorAt, busErrorState, h1, h2]

/-- Bytes for 0x2000 and up in the gather buffer, stored one by one; r1 is uncached accelerated 0x2000, r2 uncached
0x1008. -/
def gathered (bytes : List Byte) : State :=
  State.with { small with gather := some { first := 0x2000, size := 1, bytes := bytes } }
    [(1, 0xB800000000002000), (2, 0x9000000000001008)]

/-- GatherBufferEmptied, Stores and FetchReadsWord: a buffer with two bytes for initialised memory. -/
theorem gatherAt_gathered : GatherAt (gathered [1, 2]) { first := 0x2000, size := 1, bytes := [1, 2] } 0x2000 := by
  refine ⟨⟨rfl, rfl, rfl, rfl, rfl, rfl⟩, rfl, by decide, by decide, fun i h => ?_⟩
  have h : i = 0 ∨ i = 1 := by simp only [List.length] at h; omega
  rcases h with rfl | rfl <;> exact ⟨rfl, rfl, rfl, rfl, by decide, rfl⟩

/-- GatherBufferEmptied: an empty buffer; with two bytes in it an uncached load, an uncached store and an SC. -/
theorem witness_GatherBufferEmptied :
    small.gather = none ∧ Translates (gathered [1, 2]) false (addressOf (gathered [1, 2]) 2 0) 0x1008 2 ∧
    Translates (gathered [1, 2]) true (addressOf (gathered [1, 2]) 2 0) 0x1008 2 ∧
    (addressOf (gathered [1, 2]) 2 0).toNat % 8 = 0 ∧ (∀ q, (gathered [1, 2]).busErrorAt q false = false) ∧
    dataAccessOf (.ld 2 3 0) = some ⟨2, 0, 8, false, false, false⟩ ∧
    dataAccessOf (.sdc1 2 3 0) = some ⟨2, 0, 8, true, true, false⟩ ∧ (gathered [1, 2]).cu 1 = true ∧
    ((gathered [1, 2]).setLlbit true).llbit = true :=
  ⟨rfl, ⟨rfl, rfl⟩, ⟨rfl, rfl⟩, rfl, fun _ => rfl, rfl, rfl, rfl, rfl⟩

/-- Stores, PartialStores and FpLoadsAndStores: an uncached accelerated byte that continues two bytes, one that fills the
line, and one that does not continue. -/
theorem witness_Stores_gather :
    (gathered [1, 2]).canonical ∧
    Translates (gathered [1, 2]) true (addressOf (gathered [1, 2]) 1 2) 0x2002 7 ∧
    (0x2002 : BitVec 40) = 0x2000 + BitVec.ofNat 40 [(1 : Byte), 2].length ∧
    Translates (gathered (List.replicate 31 7)) true (addressOf (gathered (List.replicate 31 7)) 1 31) 0x201F 7 ∧
    (0x201F : BitVec 40) = 0x2000 + BitVec.ofNat 40 (List.replicate 31 (7 : Byte)).length ∧
    (0x201F : BitVec 40).toNat / 32 = (0x2000 : BitVec 40).toNat / 32 ∧
    (List.replicate 31 (7 : Byte) ++ toBytes (9 : Dword) 1).length = 32 ∧ DramAt (gathered (List.replicate 31 7)) 0x2000 0x2000 ∧
    Translates (gathered [1, 2]) true (addressOf (gathered [1, 2]) 1 8) 0x2008 7 ∧
    (0x2008 : BitVec 40) ≠ 0x2000 + BitVec.ofNat 40 [(1 : Byte), 2].length :=
  ⟨⟨rfl, rfl, rfl, rfl, rfl, rfl⟩, ⟨rfl, rfl⟩, rfl, ⟨rfl, rfl⟩, rfl, rfl, rfl, ⟨rfl, rfl, rfl, rfl, by decide, rfl⟩,
    ⟨rfl, rfl⟩, by decide⟩

/-- FetchReadsWord: an uncached pc with bytes in the gather buffer. -/
theorem witness_FetchReadsWord_gather :
    translate (gathered [1, 2]) .fetch (gathered [1, 2]).pc = .ok (0x4000, 2) (gathered [1, 2]) ∧
    (gathered [1, 2]).busErrorAt 0x4000 true = false ∧ DramAt (gathered [1, 2]) 0x4000 0x4000 :=
  ⟨rfl, rfl, rfl, rfl, rfl, rfl, by decide, rfl⟩

/-- FetchReadsWord: a cached pc whose line only the secondary cache holds. -/
theorem witness_FetchReadsWord_secondary :
    let s : State := { secondaryOnly with pc := lineVa }
    translate s .fetch s.pc = .ok (0x1000, 3) s ∧ s.canonical ∧ FetchRefills s s.pc 0x1000 0x99 :=
  ⟨rfl, ⟨rfl, rfl, rfl, rfl, rfl, rfl⟩, rfl, .inl ⟨512, rfl, rfl⟩⟩

/-- FetchReadsWord: a cached pc whose line no cache holds. -/
theorem witness_FetchReadsWord_memory :
    let s : State := { memoryOnly with pc := lineVa }
    translate s .fetch s.pc = .ok (0x1000, 3) s ∧ s.canonical ∧ FetchRefills s s.pc 0x1000 memoryLine := by
  refine ⟨rfl, ⟨rfl, rfl, rfl, rfl, rfl, rfl⟩, rfl,
    .inr ⟨rfl, rfl, ?_, 0x1000, ⟨rfl, rfl, rfl, rfl, by decide, rfl⟩, by decide +kernel⟩⟩
  unfold SecondaryReplaceable
  decide +kernel

/-- CoprocessorUnusable: instructions of both coprocessors, with CU1 = 0, and in user mode with CU0 = 0. -/
theorem witness_CoprocessorUnusable :
    usesCp1 (.add_s 2 0 4) ∧ usesCp1 (.madd_d 4 2 0) ∧ usesCp1 (.lwc1 1 1 0) ∧ (small.status 0x10).cu 1 = false ∧
    usesCp0 (.mfc0 2 9) ∧ ¬ readsCounters (.mfc0 2 9) ∧ usesCp0 (.cache_index_invalidate_i 4 0) ∧
    (small.status 0x10).cu 0 = false ∧ (small.status 0x10).mode = some .user ∧
    (small.status 0x08).mode = some .supervisor ∧ (small.status 0x10).cp0.diagnostic.getLsbD 8 = false := by
  refine ⟨.inl (by decide), .inr ⟨rfl, by decide⟩, .inl (by decide), rfl, .inl rfl, ?_, .inr rfl, rfl, rfl, rfl, rfl⟩
  simp [readsCounters]

/-- ReadsOfCp0, WritesOfCp0 and TlbInstructions: CP0 is usable in kernel mode and with CU0; a TLB entry matches EntryHi
and none does; the page mask is legal. -/
theorem witness_Cp0 :
    Cp0Usable small ∧ Cp0Usable (small.status 0) ∧ PageMaskOf (small.cp0.pageMask.extractLsb' 13 12) 0 ∧
    OnlyTlbMatch ((mapped page).setCp0 { small.cp0 with entryHi := 0x400005 }) 3 0x400005 ∧
    (∀ i, ¬ TlbMatches small i small.cp0.entryHi) := by
  refine ⟨.inl rfl, .inr rfl, ⟨by decide, by decide⟩, ?_, ?_⟩
  · unfold OnlyTlbMatch TlbMatches
    decide +kernel
  · unfold TlbMatches
    decide +kernel

/-- CacheChecks: an operation at an unmapped, an uncached and a cached address, and one that the table does not hold. -/
theorem witness_CacheChecks :
    (∃ a, cacheOperandsOf (.cache_hit_invalidate_d 1 0) = some a ∧ CacheUsable small a.userOperation) ∧
    (∃ e u, translate small .load (addressOf small 1 0) = .raise e u) ∧
    translate m1 .load (addressOf m1 1 0) = .ok (0x1000, 2) m1 ∧
    translate cachedR1 .load (addressOf cachedR1 1 0) = .ok (0x1000, 3) cachedR1 ∧ Cp0Usable cachedR1 ∧
    (Instr.cache 1 2 0).wellFormed = true :=
  ⟨⟨_, rfl, .inl (.inl rfl)⟩, ⟨_, _, rfl⟩, rfl, rfl, .inl rfl, rfl⟩

/-- PrimaryCacheOperations: the line of the address is dirty in the data cache and held by the secondary cache, which is
the only line of its set. -/
theorem witness_PrimaryCacheOperations :
    cachedR1.canonical ∧ translate cachedR1 .load (addressOf cachedR1 1 0) = .ok (0x1000, 3) cachedR1 ∧
    CacheUsable cachedR1 true ∧ Cp0Usable cachedR1 ∧ (cachedR1.dLine (lineKey 128 0)).cs = 3 ∧
    cachedR1.sHit ((cachedR1.dLine 512).address 512) = some 512 ∧ (512 : Nat) / 4 = 128 ∧
    (cachedR1.dLine 512).tag.toNat = (0x1000 : BitVec 40).toNat / 4096 ∧
    (∀ i, i / 4 = 128 → i ≠ 512 → (cachedR1.dLine i).cs ≠ 0 →
      (cachedR1.dLine i).tag.toNat ≠ (0x1000 : BitVec 40).toNat / 4096) := by
  refine ⟨⟨rfl, rfl, rfl, rfl, rfl, rfl⟩, rfl, .inl (.inl rfl), .inl rfl, rfl, rfl, rfl, rfl, fun i _ h hc => ?_⟩
  refine absurd ?_ hc
  show (cellGet DLine.empty [(512, dirtyLine)] i).cs = 0
  simp [cellGet, h, DLine.empty]

/-- The state `cached` with a clean line in the data cache, and r1 at it. -/
def cleanR1 : State := { cachedR1 with dcache := [(512, { dirtyLine with cs := 1 })] }

/-- PrimaryCacheOperations: the line is clean, and the line of another address in the set, of which there is none. -/
theorem witness_PrimaryCacheOperations_clean :
    cleanR1.canonical ∧ translate cleanR1 .load (addressOf cleanR1 1 0) = .ok (0x1000, 3) cleanR1 ∧
    CacheUsable cleanR1 true ∧ (cleanR1.dLine 512).cs ≠ 0 ∧ (cleanR1.dLine 512).cs ≠ 3 ∧
    (∀ j, j / 4 = 128 → (cleanR1.dLine j).cs ≠ 0 → (cleanR1.dLine j).tag.toNat ≠ (0x5000 : BitVec 40).toNat / 4096) := by
  refine ⟨⟨rfl, rfl, rfl, rfl, rfl, rfl⟩, rfl, .inl (.inl rfl), by decide, by decide, fun i _ hc => ?_⟩
  by_cases h : i = 512
  · subst h
    decide
  · refine absurd ?_ hc
    show (cellGet DLine.empty [(512, { dirtyLine with cs := 1 })] i).cs = 0
    simp [cellGet, h, DLine.empty]

/-- SecondaryCacheOperations: the line is dirty in both caches, it alone holds the address, and its address is in
initialised memory; line 0 is invalid. -/
theorem witness_SecondaryCacheOperations :
    cachedR1.canonical ∧ translate cachedR1 .load (addressOf cachedR1 1 0) = .ok (0x1000, 3) cachedR1 ∧
    CacheUsable cachedR1 true ∧ Cp0Usable cachedR1 ∧ (cachedR1.sLine (lineKey 128 0)).state ≠ 0 ∧
    DramAt cachedR1 ((cachedR1.sLine 512).address 512) 0x1000 ∧
    ((512 : Nat) / 4 = 128 ∧ (cachedR1.sLine 512).state ≠ 0 ∧
      (cachedR1.sLine 512).tag.toNat = (0x1000 : BitVec 40).toNat / 2 ^ 17) ∧
    (∀ i, i / 4 = 128 ∧ (cachedR1.sLine i).state ≠ 0 ∧
      (cachedR1.sLine i).tag.toNat = (0x1000 : BitVec 40).toNat / 2 ^ 17 → i = 512) ∧
    (cachedR1.sLine 0).state = 0 ∧ (∀ j ∈ primaryKeys 0x1000, j ≠ 512 → (cachedR1.dLine j).matches 0x1000 = false) ∧
    NoDirtyDataLine cleanR1 0x1000 := by
  refine ⟨⟨rfl, rfl, rfl, rfl, rfl, rfl⟩, rfl, .inl (.inl rfl), .inl rfl, by decide, ⟨rfl, rfl, rfl, rfl, by decide, rfl⟩,
    ⟨rfl, by decide, rfl⟩, fun i h => ?_, rfl, by decide +kernel, ?_⟩
  · by_contra hi
    refine h.2.1 ?_
    show (cellGet SLine.empty [(512, { tag := 0, state := 3, data := 0x99 })] i).state = 0
    simp [cellGet, hi, SLine.empty]
  · unfold NoDirtyDataLine
    decide +kernel

/-- WindowsAndDevices: addresses in no window and in the window registers, window values of both targets, and memory
before and after its initialisation and beyond its end. -/
theorem witness_WindowsAndDevices :
    small.route 0x20000000 = .nowhere ∧ (0x3FF00058 : BitVec 40).toNat = 0x3FF00000 + 8 * (11 : Fin 24).val ∧
    (⟨0, 0xFFFFFFFFF0000000, 0⟩ : Window).hits 0x1000 = true ∧
    (⟨0, 0xFFFFFFFFF0000000, 0⟩ : Window).hits 0x10000000 = false ∧
    (⟨0, 0xFFFFFFFFF0000000, 0⟩ : Window).mmap.toNat % 4 = 0 ∧
    (⟨0x10000000, 0xFFFFFFFFF0000000, 0x10000001⟩ : Window).mmap.toNat % 4 = 1 ∧
    (0x3FEFFFFF : BitVec 40).toNat < 0x3FF00000 ∧ 0x3FF000C0 ≤ (0x3FF000C0 : BitVec 40).toNat ∧
    small.inDdrPort 0x1000 = false ∧ small.ddrStopped = false ∧ small.ddrSize ≤ 0x100000000 ∧
    (let s : State := { small with ddr := { small.ddr with ready := false } }
     s.ddr.ready = false ∧ 0x1000 < s.ddrSize ∧ s.ddrStopped = false ∧ s.inDdrPort 0x1000 = false) :=
  ⟨rfl, rfl, rfl, rfl, rfl, rfl, by decide, by decide, rfl, rfl, by decide, rfl, by decide, rfl, rfl⟩

/-- FpArithmeticInstructions, FpConversionInstructions, FpComparisons and FpMoves: CU1 = 1, with operands whose operation
completes and with operands whose operation traps. -/
theorem witness_FpArithmeticInstructions :
    small.cu 1 = true ∧
    trapsWith (fpAdd .single small.fpControl (small.valueS 0) (small.valueS 2)).cond small.fpEnables = false ∧
    trapsWith (fpAdd .single small.fpControl ((State.withFpr small [(0, 1)]).valueS 0) (small.valueS 2)).cond
      small.fpEnables = true := ⟨rfl, rfl, rfl⟩

/-- FpComparisons: finite values, infinities and NaNs. -/
theorem witness_FpComparisons :
    (unpack .single 0x3F800000).hasValue 1 0 ∧ (unpack .single 0x40000000).hasValue 2 0 ∧
    unpack .single 0x7F800000 = .inf false ∧ unpack .single 0xFF800000 = .inf true ∧ (unpack .single 0).finite ∧
    unpack .single 0x7FBFFFFF = .nan false false ∧ unpack .single 0x7FFFFFFF = .nan true false := by
  refine ⟨⟨trivial, 23, by decide, by decide⟩, ⟨trivial, 23, by decide, by decide⟩, rfl, rfl, trivial, rfl, rfl⟩

/-- FpMoves: a value of FCR31 that traps at once, one that does not, and other registers. -/
theorem witness_FpMoves :
    small.cu 1 = true ∧
    ((0x00020000 : Word).getLsbD 17 = true ∧ (0x00020000 : Word) &&& 0x0383FFFF = 0x00020000) ∧
    (∃ b, b < 5 ∧ (0x00010800 : Word).getLsbD (12 + b) = true ∧ (0x00010800 : Word).getLsbD (7 + b) = true) ∧
    (5 : Reg) ≠ 0 ∧ (5 : Reg) ≠ 31 :=
  ⟨rfl, ⟨rfl, rfl⟩, ⟨4, by decide, rfl, rfl⟩, by decide, by decide⟩

/-- ImplementationRegister: CU1 = 1. -/
theorem witness_ImplementationRegister : small.cu 1 = true := rfl

/-- FpTrapCondition: a condition whose enable is set, and the same with no enable. -/
theorem witness_FpTrapCondition :
    (∃ b, b < 5 ∧ condZ.getLsbD b = true ∧ (small.setFcr31 0x400).fcr31.getLsbD (7 + b) = true) ∧
    condE.getLsbD 5 = true ∧
    ¬ (condZ.getLsbD 5 = true ∨ ∃ b, b < 5 ∧ condZ.getLsbD b = true ∧ small.fcr31.getLsbD (7 + b) = true) := by
  refine ⟨⟨3, by decide, rfl, rfl⟩, rfl, ?_⟩
  rintro (h | ⟨b, hb, -, h⟩)
  · exact absurd h (by decide)
  · simp [small, State.reset, State.resetWith] at h

/-- CommitAdvancesClocks: an initialisation under way, at its last instruction, and a store that starts one. -/
theorem witness_CommitAdvancesClocks :
    ({ small with ddr := { small.ddr with initLeft := some 3 } } : State).ddr.initLeft = some (2 + 1) ∧
    ({ small with ddr := { small.ddr with initLeft := some 0 } } : State).ddr.initLeft = some 0 ∧
    small.ddr.initLeft = none ∧ small.ddrStartBit = false ∧ (small.setDdrCtl 3 0x0000010000000000).ddrStartBit = true :=
  ⟨rfl, rfl, rfl, rfl, rfl⟩

/-- The small state with a status and a performance counter control. -/
def counting (status : Word) (control : Dword) : State :=
  small.setCp0 { small.cp0 with status := status, perfControl := control }

/-- CommitAdvancesClocks: the performance counters count in kernel, supervisor and user mode and with EXL = 1, and do not
with ERL = 1. -/
theorem witness_CommitAdvancesClocks_counting :
    ((counting 0x00 2).erl = false ∧ (counting 0x00 2).exl = false ∧ (counting 0x00 2).ksu = 0 ∧
      (counting 0x00 2).cp0.perfControl.getLsbD 1 = true) ∧
    ((counting 0x08 4).exl = false ∧ (counting 0x08 4).ksu = 1 ∧ (counting 0x08 4).cp0.perfControl.getLsbD 2 = true) ∧
    ((counting 0x10 8).exl = false ∧ (counting 0x10 8).ksu = 2 ∧ (counting 0x10 8).cp0.perfControl.getLsbD 3 = true) ∧
    ((counting 0x02 1).erl = false ∧ (counting 0x02 1).exl = true ∧ (counting 0x02 1).cp0.perfControl.getLsbD 0 = true) ∧
    (counting 0x04 0x1F).erl = true :=
  ⟨⟨rfl, rfl, rfl, rfl⟩, ⟨rfl, rfl, rfl⟩, ⟨rfl, rfl, rfl⟩, ⟨rfl, rfl, rfl⟩, rfl⟩

/-- CommitAdvancesClocks: both counters select each event that is no free value. -/
theorem witness_CommitAdvancesClocks_events :
    (counting 0 0x0002).cp0.perfControl.extractLsb' 5 8 = (0x00 : BitVec 8) ∧
    (counting 0 0x1BA2).cp0.perfControl.extractLsb' 5 8 = (0xDD : BitVec 8) ∧
    (counting 0 0x1BC2).cp0.perfControl.extractLsb' 5 8 = (0xDE : BitVec 8) :=
  ⟨rfl, rfl, rfl⟩

/-- CommitAdvancesClocks: a refill with both counters on its event, and an instruction that takes nothing. -/
theorem test_counters :
    (let s := counting 0 0x1BA2
     let t := commit s { s with taken := some (.tlbRefill false 0) } false
     (t.cp0.perf0 - small.cp0.perf0, t.cp0.perf1 - small.cp0.perf1)) = (1, 1) ∧
    (let s := counting 0 0x01C2
     let t := commit s s false
     (t.cp0.perf0 - small.cp0.perf0, t.cp0.perf1 - small.cp0.perf1)) = (0, 1) := by
  exact ⟨rfl, rfl⟩

/-- WindowsAndDevices: a write of a PCI master to Intenset that comes in while a read waits. -/
theorem witness_WindowsAndDevices_dma :
    let s := readWaitsState 0 .nmi
    (s.reg 5).getLsbD 6 = false ∧ DmaBeat.read 0x80001000 0x1000 4 ∈ s.ddr.waiting ∧
    s.incoming 0x9FE00130 = true ∧ windowTarget s.dmaWindows 0x9FE00130 = .io 0x1FE00130 := by
  decide +kernel

/-- FpExactResults: 1, 2 and 4 as singles, of which the sum, the product, the quotient, the root, the multiply-add and the
conversions raise nothing. -/
theorem witness_FpExactResults :
    (unpack .single 0x3F800000).hasValue 1 0 ∧ (unpack .single 0x40000000).hasValue 2 0 ∧
    (unpack .single 0x40800000).hasValue 4 0 ∧
    (let c : FpControl := ⟨0, false, false, true⟩
     let x := unpack .single 0x3F800000
     let y := unpack .single 0x40000000
     let z := unpack .single 0x40800000
     (fpAdd .single c x y).cond = 0 ∧ (fpSub .single c x y).cond = 0 ∧ (fpMul .single c x y).cond = 0 ∧
      (fpDiv .single false c x y).cond = 0 ∧ (fpMadd .single false false c z x y).cond = 0 ∧
      (fpMadd .single true true c z x y).cond = 0 ∧ (fpToFp .double c x).cond = 0 ∧
      (fpToInt 32 0 x).cond = 0 ∧ (fpToInt 64 3 x).cond = 0 ∧ (intToFp .single c 16777216).cond = 0) := by
  refine ⟨⟨trivial, 23, by decide, by decide⟩, ⟨trivial, 23, by decide, by decide⟩,
    ⟨trivial, 23, by decide, by decide⟩, by decide +kernel⟩

/-- FpExactResults: 1, 1.5 and 0.1 as singles, no denormals, of which a sum, a quotient, a root, a multiply-add and a
conversion to an integer are inexact, and operands whose conversion to a word is in range and out of range. -/
theorem witness_FpExactResults_inexact :
    (unpack .single 0x3F800000).hasValue 1 0 ∧ (unpack .single 0x3FC00000).hasValue 3 1 ∧
    (unpack .single 0x3DCCCCCD).hasValue 13421773 27 ∧
    (let x := unpack .single 0x3F800000
     let y := unpack .single 0x3FC00000
     let z := unpack .single 0x3DCCCCCD
     let c : FpControl := ⟨0, false, false, true⟩
     x.unimplemented = false ∧ y.unimplemented = false ∧ z.unimplemented = false ∧
      (fpAdd .single c x z).cond = condI ∧ (fpDiv .single false c x z).cond = condI ∧
      (fpSqrt .single false c y).cond = condI ∧ (fpMadd .single false false c x y z).cond = condI ∧
      (fpMadd .single false false { c with fused := false } x y z).cond = condI ∧ (fpToInt 32 0 y).cond = condI ∧
      (fpToInt 1 0 x).cond = condV ∧ (intToFp .single c 16777217).cond = condI) := by
  refine ⟨⟨trivial, 23, by decide, by decide⟩, ⟨trivial, 23, by decide, by decide⟩,
    ⟨trivial, 23, by decide, by decide⟩, by decide +kernel⟩

/-- FpRounding: a sticky bit under the least magnitude that has more bits than the significand. -/
theorem witness_FpRounding_sticky :
    2 ^ (FpFormat.single.fracBits + 1) ≤ 2 ^ 24 ∧ 2 ^ 24 * 2 ^ 1 < 2 ^ 25 + 1 ∧ 2 ^ 25 + 1 < (2 ^ 24 + 1) * 2 ^ 1 ∧
    (deliver .single ⟨2, false, false, true⟩ false (2 ^ 24) 0 true).cond = condI := by decide +kernel

/-- FpRounding: magnitudes that are exact, that are not, at the least that overflows and just below it, and at the
greatest that is tiny and just above it, to nearest: (2^25 - 1) * 2^103 and (2^25 - 1) * 2^-151 for singles. -/
theorem witness_FpRounding :
    (deliver .single ⟨0, false, false, true⟩ false 3 0 false).cond = 0 ∧
    (deliver .single ⟨0, false, false, true⟩ true 0x1000001 0 false).cond = condI ∧
    (deliver .single ⟨0, false, false, true⟩ false (2 ^ 25 - 1) 103 false).cond = condOI ∧
    (deliver .single ⟨0, false, false, true⟩ false (2 ^ 26 - 3) 102 false).cond = condI ∧
    (deliver .single ⟨0, true, false, true⟩ false (2 ^ 26 - 3) (-152) false).cond = condUI ∧
    (deliver .single ⟨0, false, false, true⟩ false (2 ^ 26 - 3) (-152) false).cond = condE ∧
    (deliver .single ⟨0, true, false, true⟩ false (2 ^ 25 - 1) (-151) false).cond = condI := by decide +kernel

/-- FpSpecialResults: an operand of each kind. -/
theorem witness_FpSpecialResults :
    (∃ n m e, unpack .single 1 = .denormal n m e) ∧ unpack .single 0x7FBFFFFF = .nan false false ∧
    unpack .single 0x7FFFFFFF = .nan true false ∧ unpack .single 0x7F800000 = .inf false ∧
    unpack .single 0xFF800000 = .inf true ∧ unpack .single 0 = .zero false ∧
    (∃ m e, unpack .single 0xBF800000 = .normal true m e) ∧
    (fpMul .single ⟨0, false, false, false⟩ (unpack .single 0xBF800000) (unpack .single 0xBF800000)).cond = 0 :=
  ⟨⟨_, _, _, rfl⟩, rfl, rfl, rfl, rfl, rfl, ⟨_, _, rfl⟩, by decide +kernel⟩

end Sys2Proof.Tests
end

section
/-! SUPPORT. What an access to memory or to a device leaves alone: the registers of the processor, the JTLB, the
parameters and what the host has said. -/

namespace Sys2Proof.Machine

/-- The part of the state that no access to memory or to a device changes, the rest of it as after reset. -/
def State.core (s : State) : State :=
  { State.reset with
    params := s.params, gpr := s.gpr, hi := s.hi, lo := s.lo, pc := s.pc, delay := s.delay, llbit := s.llbit
    fpr := s.fpr, fcr31 := s.fcr31, cp0 := s.cp0, tlb := s.tlb, pins := s.pins, rom := s.rom, busErr := s.busErr
    events := s.events, irqHeld := s.irqHeld, taken := s.taken }

/-- A state has the core `c`. -/
def HasCore (c s : State) : Prop := s.core = c

theorem hasCore_core (s : State) : HasCore s.core s := rfl

variable {c s : State}

theorem HasCore.gpr (h : HasCore c s) : s.gpr = c.gpr := by
  rw [← show s.core = c from h]; rfl
theorem HasCore.cp0 (h : HasCore c s) : s.cp0 = c.cp0 := by
  rw [← show s.core = c from h]; rfl
theorem HasCore.fcr31 (h : HasCore c s) : s.fcr31 = c.fcr31 := by
  rw [← show s.core = c from h]; rfl

/-! ### The DDR2 controller -/

theorem HasCore.withDdr (h : HasCore c s) (d : Ddr) : HasCore c { s with ddr := d } := h

theorem ddrField_core (h : HasCore c s) (n : Fin 29) (m v : Dword) : HasCore c (s.ddrField n m v) := h.withDdr _

theorem ddrReport_core (h : HasCore c s) (n : Nat) : HasCore c (s.ddrReport n) := h.withDdr _

theorem ddrOutOfRange_core (h : HasCore c s) (a n : Nat) : HasCore c (s.ddrOutOfRange a n) :=
  ddrReport_core (ddrField_core (ddrField_core (ddrField_core (ddrField_core h _ _ _) _ _ _) _ _ _) _ _ _) _

theorem ddrDllLock_core (h : HasCore c s) : HasCore c s.ddrDllLock :=
  ddrField_core (ddrField_core h _ _ _) _ _ _

theorem ddrInitDone_core (h : HasCore c s) : HasCore c s.ddrInitDone :=
  (ddrField_core (ddrDllLock_core h) _ _ _).withDdr _

theorem reportDoubleword_core (h : HasCore c s) (d : Nat) : HasCore c (s.reportDoubleword d) := by
  unfold State.reportDoubleword
  split
  · exact h
  · exact ddrReport_core
      (ddrField_core (ddrField_core (ddrField_core (ddrField_core h _ _ _) _ _ _) _ _ _) _ _ _) _
  · exact (ddrReport_core (ddrField_core (ddrField_core (ddrField_core (ddrField_core (ddrField_core
      (ddrField_core h _ _ _) _ _ _) _ _ _) _ _ _) _ _ _) _ _ _) _).withDdr _

theorem ddrMemRead_core (h : HasCore c s) (a n : Nat) : HasCore c (s.ddrMemRead a n).2 := by
  unfold State.ddrMemRead
  split
  · exact ddrOutOfRange_core h a n
  · split
    · exact h
    · unfold State.reportErrors
      split
      · exact foldl_keeps (P := HasCore c) _ (fun _ d ht => reportDoubleword_core ht d) _ h
      · exact h

theorem ddrMemWrite_core (h : HasCore c s) (a : Nat) (bs : List Byte) : HasCore c (s.ddrMemWrite a bs) := by
  unfold State.ddrMemWrite
  split
  · exact ddrOutOfRange_core h a _
  · split <;> exact h

theorem ddrSlotWrite_core (h : HasCore c s) (a : Nat) (bs : List Byte) : HasCore c (s.ddrSlotWrite a bs) := by
  rcases ddrSlotWrite_cases s a bs with hs | ⟨r, hs⟩ <;> rw [hs]
  · exact h
  · have h1 := ddrField_core h r (ddrWritable r.val) (ofBytes 64 bs)
    unfold State.ddrCtlWrite State.ddrStart
    simp only []
    split
    · split
      · split
        · exact ddrInitDone_core h1
        · exact h1.withDdr _
      · exact h1
    · exact h1.withDdr _
    · exact ddrField_core h1 _ _ _
    · exact h1

/-! ### The I/O controller -/

theorem writeReg_core (h : HasCore c s) (n : Fin 64) (lanes v : Word) : HasCore c (s.writeReg n lanes v) := by
  unfold State.writeReg
  simp only []
  repeat' split
  all_goals exact h

theorem pciRead_core (h : HasCore c s) (addr n : Nat) (r : BusRequest) : (pciRead s addr n r).Keeps (HasCore c) := by
  unfold pciRead
  simp only []
  split
  · exact h
  · exact h
  · split
    · trivial
    · exact h

theorem ioRead_core (h : HasCore c s) (a n : Nat) : (ioRead s a n).Keeps (HasCore c) := by
  unfold ioRead
  split
  · exact h
  · exact h
  · split
    · trivial
    · exact pciRead_core h _ _ _
  · split
    · trivial
    · exact h
  · exact h
  · split
    · exact pciRead_core h _ _ _
    · trivial
  · split
    · exact h
    · trivial
  · split
    · exact h
    · trivial
  · split
    · exact pciRead_core h _ _ _
    · trivial
  · trivial

theorem ioWrite_core (h : HasCore c s) (a : Nat) (bs : List Byte) : (ioWrite s a bs).Keeps (HasCore c) := by
  unfold ioWrite
  simp only []
  split
  · exact h
  · exact h
  · exact h
  · exact h
  · exact h
  · split
    · exact h
    · trivial
  · split
    · exact h
    · trivial
  · split
    · exact writeReg_core h _ _ _
    · trivial
  · split
    · exact h
    · trivial
  · trivial

/-! ### Requests of PCI masters -/

theorem masterOnly_core (h : HasCore c s) {r : Res Unit} (hr : r.Keeps (HasCore c)) :
    (masterOnly s r).Keeps (HasCore c) := by
  cases r with
  | fault _ => exact h
  | _ => exact hr

theorem dmaWriteIo_core (h : HasCore c s) (a : Nat) (bs : List Byte) : (dmaWriteIo s a bs).Keeps (HasCore c) := by
  have part : ∀ (t : State), HasCore c t → ∀ a bs, (masterOnly t (ioWrite t a bs)).Keeps (HasCore c) :=
    fun t ht a bs => masterOnly_core ht (ioWrite_core ht a bs)
  unfold dmaWriteIo
  simp only []
  split
  · exact (part s h _ _).bind fun _ t ht => part t ht _ _
  · exact part s h _ _

theorem dmaReadIo_core (h : HasCore c s) (b a n : Nat) : (dmaReadIo s b a n).Keeps (HasCore c) := by
  have part : ∀ (t : State), HasCore c t → ∀ b a n,
      (masterOnly t ((ioRead t a n).bind fun bytes u => .ok () (u.log (.dmaData b bytes)))).Keeps (HasCore c) :=
    fun t ht b a n => masterOnly_core ht ((ioRead_core ht a n).bind fun _ _ hu => hu)
  unfold dmaReadIo
  simp only []
  split
  · exact (part s h _ _ _).bind fun _ t ht => part t ht _ _ _
  · exact part s h _ _ _

theorem serveBeat_core (h : HasCore c s) (b : DmaBeat) : (serveBeat s b).Keeps (HasCore c) := by
  cases b with
  | read b a n => exact ddrMemRead_core h a n
  | write a bs => exact ddrMemWrite_core h a bs
  | portWrite a bs => exact ddrSlotWrite_core h a bs
  | ioWrite a bs => exact dmaWriteIo_core h a bs

theorem serveBeats_core (h : HasCore c s) (bs : List DmaBeat) : (serveBeats s bs).Keeps (HasCore c) := by
  induction bs generalizing s with
  | nil => exact h
  | cons b bs ih =>
    unfold serveBeats
    split
    · exact h
    · exact (serveBeat_core h b).bind fun _ _ ht => ih ht

theorem arriveBeat_core (h : HasCore c s) (b : DmaBeat) : (arriveBeat s b).Keeps (HasCore c) := by
  unfold arriveBeat
  split
  · exact h
  · exact (serveBeat_core h b).bind fun _ _ ht => serveBeats_core ht _

theorem acceptDma_core (h : HasCore c s) (a : Dword) : HasCore c (s.acceptDma a) := by
  unfold State.acceptDma
  split <;> exact h

theorem ddrPortAccessRead_core (h : HasCore c s) (a n : Nat) : (ddrPortAccessRead s a n).Keeps (HasCore c) := by
  unfold ddrPortAccessRead
  split
  · split <;> exact h
  · trivial

theorem dmaReadBeat_core (h : HasCore c s) (addr n : Nat) : (dmaReadBeat s addr n).Keeps (HasCore c) := by
  have h1 := acceptDma_core h (BitVec.ofNat 64 addr)
  unfold dmaReadBeat
  simp only []
  split
  · exact h
  · split
    · unfold dmaReadDdr
      split
      · exact (ddrPortAccessRead_core h1 _ _).bind fun _ _ ht => ht
      · exact arriveBeat_core h1 _
    · exact dmaReadIo_core h1 _ _ _
    · trivial
    · exact h1

theorem dmaWriteBeat_core (h : HasCore c s) (addr : Nat) (bs : List Byte) :
    (dmaWriteBeat s addr bs).Keeps (HasCore c) := by
  have h1 := acceptDma_core h (BitVec.ofNat 64 addr)
  unfold dmaWriteBeat
  simp only []
  split
  · exact h
  · split
    · unfold dmaWriteDdr
      split
      · split
        · exact arriveBeat_core h1 _
        · trivial
      · exact arriveBeat_core h1 _
    · exact arriveBeat_core h1 _
    · trivial
    · exact h1

theorem dmaRead_core (h : HasCore c s) (addr n : Nat) : (dmaRead s addr n).Keeps (HasCore c) :=
  dmaReadBeats_keeps (fun _ a n ht => dmaReadBeat_core ht a n) _ h addr n

theorem dmaWrite_core (h : HasCore c s) (addr : Nat) (bs : List Byte) : (dmaWrite s addr bs).Keeps (HasCore c) :=
  dmaWriteBeats_keeps (fun _ a bs ht => dmaWriteBeat_core ht a bs) _ h addr bs

/-! ### Physical accesses -/

theorem ddrRead_core (h : HasCore c s) (a n : Nat) : (ddrRead s a n).Keeps (HasCore c) := by
  unfold ddrRead
  split
  · exact ddrPortAccessRead_core h a n
  · split
    · trivial
    · exact ddrMemRead_core h a n

theorem ddrWrite_core (h : HasCore c s) (a : Nat) (bs : List Byte) : (ddrWrite s a bs).Keeps (HasCore c) := by
  unfold ddrWrite
  split
  · unfold ddrPortAccessWrite
    split
    · exact serveBeats_core (ddrSlotWrite_core h a bs) _
    · trivial
  · split
    · trivial
    · exact ddrMemWrite_core h a bs

theorem cpuIoWrite_core (h : HasCore c s) (a : Nat) (bs : List Byte) : (cpuIoWrite s a bs).Keeps (HasCore c) := by
  unfold cpuIoWrite
  refine (ioWrite_core h a bs).bind fun _ t ht => ?_
  split
  · exact dmaWrite_core ht _ _
  · exact ht

theorem physRead_core (h : HasCore c s) (pa : BitVec 40) (n : Nat) : (physRead s pa n).Keeps (HasCore c) := by
  unfold physRead
  split
  · split
    · exact h
    · trivial
  · exact ddrRead_core h _ _
  · exact ioRead_core h _ _
  · exact h
  · trivial

theorem physWrite_core (h : HasCore c s) (pa : BitVec 40) (bs : List Byte) :
    (physWrite s pa bs).Keeps (HasCore c) := by
  unfold physWrite
  split
  · split
    · exact h
    · trivial
  · exact ddrWrite_core h _ _
  · exact cpuIoWrite_core h _ _
  · exact h
  · trivial

/-! ### The caches -/

theorem HasCore.setSLine (h : HasCore c s) (k : Nat) (l : SLine) : HasCore c (s.setSLine k l) := h

theorem evictData_core (h : HasCore c s) (k : Nat) : (evictData s k).Keeps (HasCore c) := by
  have hw : (writeBackData s k).Keeps (HasCore c) := by
    unfold writeBackData
    simp only []
    split
    · exact h
    · split
      · exact h
      · exact physWrite_core h _ _
  exact hw.bind fun _ _ ht => ht

theorem dropInstructionLines_core (h : HasCore c s) (pa : BitVec 40) : HasCore c (s.dropInstructionLines pa) := by
  unfold State.dropInstructionLines
  refine foldl_keeps (P := HasCore c) _ (fun t k ht => ?_) _ h
  split <;> exact ht

theorem dropDataLines_core (h : HasCore c s) (pa : BitVec 40) (merge : Bool) (key : Nat) :
    HasCore c (s.dropDataLines pa merge key) := by
  unfold State.dropDataLines
  refine foldl_keeps (P := HasCore c) _ (fun t k ht => ?_) _ h
  simp only []
  repeat' split
  all_goals exact ht

theorem evictSecondary_core (h : HasCore c s) (k : Nat) (wb : Bool) :
    (evictSecondary s k wb).Keeps (HasCore c) := by
  unfold evictSecondary
  split
  · exact h
  · have h1 := dropDataLines_core (dropInstructionLines_core h ((s.sLine k).address k)) ((s.sLine k).address k) wb k
    simp only []
    split
    · exact physWrite_core (h1.setSLine _ _) _ _
    · exact h1.setSLine _ _

theorem readLine_core (h : HasCore c s) (pa : BitVec 40) (f : Bool) : (readLine s pa f).Keeps (HasCore c) := by
  unfold readLine
  split
  · exact h
  · exact (physRead_core h _ _).bind fun _ _ ht => ht

theorem secondaryLine_core (h : HasCore c s) (pa : BitVec 40) (f : Bool) :
    (secondaryLine s pa f).Keeps (HasCore c) := by
  unfold secondaryLine
  split
  · exact h
  · split
    · exact (readLine_core h _ _).bind fun _ _ ht => ht
    · exact (evictSecondary_core h _ _).bind fun _ _ ht => (readLine_core ht _ _).bind fun _ _ hu => hu

theorem dataLine_core (h : HasCore c s) (va : Dword) (pa : BitVec 40) : (dataLine s va pa).Keeps (HasCore c) := by
  unfold dataLine
  split
  · exact h
  · exact (evictData_core h _).bind fun _ _ ht => (secondaryLine_core ht _ _).bind fun _ _ hu => hu

theorem readCached_core (h : HasCore c s) (va : Dword) (pa : BitVec 40) (n : Nat) :
    (readCached s va pa n).Keeps (HasCore c) :=
  (dataLine_core h va pa).bind fun _ _ ht => ht

theorem writeCached_core (h : HasCore c s) (va : Dword) (pa : BitVec 40) (bs : List Byte) :
    (writeCached s va pa bs).Keeps (HasCore c) :=
  (dataLine_core h va pa).bind fun _ _ ht => ht

theorem fetchCached_core (h : HasCore c s) (va : Dword) (pa : BitVec 40) :
    (fetchCached s va pa).Keeps (HasCore c) := by
  have hl : (instructionLine s va pa).Keeps (HasCore c) := by
    unfold instructionLine
    split
    · exact h
    · exact (secondaryLine_core h _ _).bind fun _ _ ht => ht
  exact hl.bind fun _ _ ht => ht

/-! ### The gather buffer -/

theorem physWriteEach_core (h : HasCore c s) (pa : BitVec 40) (bs : List Byte) :
    (physWriteEach s pa bs).Keeps (HasCore c) := by
  induction bs generalizing s pa with
  | nil => exact h
  | cons b bs ih => exact (physWrite_core h pa [b]).bind fun _ _ ht => ih ht (pa + 1)

theorem flushGather_core (h : HasCore c s) : (flushGather s).Keeps (HasCore c) := by
  unfold flushGather
  split
  · exact h
  · have h1 : HasCore c { s with gather := none } := h
    simp only []
    split
    · exact physWrite_core h1 _ _
    · exact physWriteEach_core h1 _ _

theorem keepGather_core (h : HasCore c s) (g : Gather) : (keepGather s g).Keeps (HasCore c) := by
  have h1 : HasCore c { s with gather := some g } := h
  unfold keepGather
  simp only []
  split
  · exact flushGather_core h1
  · exact h1

theorem gatherStore_core (h : HasCore c s) (pa : BitVec 40) (bs : List Byte) :
    (gatherStore s pa bs).Keeps (HasCore c) := by
  unfold gatherStore
  split
  · split
    · exact keepGather_core h _
    · exact (flushGather_core h).bind fun _ _ ht => keepGather_core ht _
  · exact keepGather_core h _

/-! ### Translation -/

theorem checkPage_core (h : HasCore c s) (k : Access) (va : Dword) (p : TlbPage) (n : Nat) :
    (checkPage s k va p n).Keeps (HasCore c) := by
  unfold checkPage
  repeat' split
  all_goals exact h

theorem translateMapped_core (h : HasCore c s) (k : Access) (va : Dword) :
    (translateMapped s k va).Keeps (HasCore c) := by
  unfold translateMapped
  split
  · exact h
  · trivial
  · exact checkPage_core h _ _ _ _

theorem translateFetch_core (h : HasCore c s) (va : Dword) : (translateFetch s va).Keeps (HasCore c) := by
  unfold translateFetch
  split
  · exact translateMapped_core h _ _
  · split
    · exact checkPage_core h _ _ _ _
    · split
      · exact h
      · trivial
      · exact (checkPage_core h _ _ _ _).bind fun _ _ ht => ht

theorem translate_core (h : HasCore c s) (k : Access) (va : Dword) : (translate s k va).Keeps (HasCore c) := by
  unfold translate
  split
  · trivial
  · split
    · exact h
    · exact h
    · split
      · exact translateFetch_core h va
      · exact translateMapped_core h k va

/-! ### Data accesses and the fetch -/

theorem dataRead_core (h : HasCore c s) (a : BitVec 3) (va : Dword) (pa : BitVec 40) (n : Nat) :
    (dataRead s a va pa n).Keeps (HasCore c) := by
  unfold dataRead
  split
  · exact readCached_core h _ _ _
  · refine (flushGather_core h).bind fun _ t ht => ?_
    split
    · exact ht
    · exact physRead_core ht _ _

theorem dataWrite_core (h : HasCore c s) (a : BitVec 3) (va : Dword) (pa : BitVec 40) (bs : List Byte) :
    (dataWrite s a va pa bs).Keeps (HasCore c) := by
  unfold dataWrite
  split
  · exact writeCached_core h _ _ _
  · split
    · exact gatherStore_core h _ _
    · exact (flushGather_core h).bind fun _ _ ht => physWrite_core ht _ _

theorem dataAddress_core (h : HasCore c s) (st : Bool) (va : Dword) :
    (dataAddress s st va).Keeps (HasCore c) := by
  unfold dataAddress
  refine (translate_core h _ va).bind fun _ t ht => ?_
  split <;> exact ht

theorem alignedAddress_core (h : HasCore c s) (st : Bool) (va : Dword) (n : Nat) :
    (alignedAddress s st va n).Keeps (HasCore c) := by
  unfold alignedAddress
  split
  · exact dataAddress_core h st va
  · exact h

theorem memRead_core (h : HasCore c s) (va : Dword) (n : Nat) : (memRead s va n).Keeps (HasCore c) :=
  Res.Keeps.precise ((alignedAddress_core h _ _ _).bind fun _ _ ht =>
    Res.Keeps.bind (dataRead_core ht _ _ _ _) fun _ _ hu => hu) h

theorem memWrite_core (h : HasCore c s) (va : Dword) (n : Nat) (v : Dword) :
    (memWrite s va n v).Keeps (HasCore c) :=
  ((alignedAddress_core h _ _ _).bind fun _ _ ht => dataWrite_core ht _ _ _ _).precise h

theorem memReadPart_core (h : HasCore c s) (va first : Dword) (n : Nat) :
    (memReadPart s va first n).Keeps (HasCore c) :=
  Res.Keeps.precise ((dataAddress_core h _ _).bind fun _ _ ht =>
    Res.Keeps.bind (dataRead_core ht _ _ _ _) fun _ _ hu => hu) h

theorem memWritePart_core (h : HasCore c s) (va first : Dword) (n : Nat) (v : Dword) :
    (memWritePart s va first n v).Keeps (HasCore c) :=
  ((dataAddress_core h _ _).bind fun _ _ ht => dataWrite_core ht _ _ _ _).precise h

theorem memWriteConditional_core (h : HasCore c s) (va : Dword) (n : Nat) (v : Dword) :
    (memWriteConditional s va n v).Keeps (HasCore c) := by
  unfold memWriteConditional
  refine Res.Keeps.precise ((alignedAddress_core h _ _ _).bind fun _ t ht => ?_) h
  split
  · exact dataWrite_core ht _ _ _ _
  · exact ht

theorem fetch_core (h : HasCore c s) : (fetch s).Keeps (HasCore c) := by
  have hw : ∀ (t : State) (a : BitVec 3) (va : Dword) (pa : BitVec 40), HasCore c t →
      (fetchWord t a va pa).Keeps (HasCore c) := by
    intro t a va pa ht
    unfold fetchWord
    split
    · exact fetchCached_core ht _ _
    · refine (flushGather_core ht).bind fun _ u hu => ?_
      split
      · exact hu
      · exact (physRead_core hu _ _).bind fun _ _ hv => hv
  unfold fetch
  refine Res.Keeps.precise (Res.Keeps.bind ?_ fun r t ht => (hw t _ _ _ ht).bind fun _ u hu => hu) h
  split
  · exact translate_core h _ _
  · exact h

end Sys2Proof.Machine
end

section
/-! SUPPORT. What every instruction keeps: a property that the operations shared by the meanings keep, `exec` keeps. -/

namespace Sys2Proof.Machine

/-! ### The reserved bits of FCR31 under its updates (R29, R487, R489, R530, R590) -/

theorem and_not_mask_or {w : Nat} {a b m f : BitVec w} (ha : a &&& ~~~m = f &&& ~~~m) (hb : b &&& ~~~m = 0) :
    (a ||| b) &&& ~~~m = f &&& ~~~m := by
  rw [BitVec.and_or_distrib_right, ha, hb]; simp

/-- Clearing bits that a mask covers does not touch the others. -/
theorem and_not_and_not_mask {w : Nat} {f a m : BitVec w} (h : ~~~a &&& ~~~m = ~~~m) :
    (f &&& ~~~a) &&& ~~~m = f &&& ~~~m := by
  rw [BitVec.and_assoc, h]

theorem withCause_reserved (f : Word) (c : Conditions) :
    withCause f c &&& ~~~fcr31Mask = f &&& ~~~fcr31Mask :=
  and_not_mask_or (and_not_and_not_mask (by decide)) (by revert c; decide)

theorem withFlags_reserved (f : Word) (c : Conditions) :
    withFlags f c &&& ~~~fcr31Mask = f &&& ~~~fcr31Mask :=
  and_not_mask_or rfl (by revert c; decide)

theorem withCc0_reserved (f : Word) (b : Bool) : withCc0 f b &&& ~~~fcr31Mask = f &&& ~~~fcr31Mask :=
  and_not_mask_or (and_not_and_not_mask (by decide)) (by cases b <;> decide)

theorem withCc1_reserved (f : Word) (b : Bool) : withCc1 f b &&& ~~~fcr31Mask = f &&& ~~~fcr31Mask :=
  and_not_mask_or (and_not_and_not_mask (by decide)) (by cases b <;> decide)

theorem writableFcr31_reserved (v : Word) : writableFcr31 v &&& ~~~fcr31Mask = 0 := by
  rw [writableFcr31, BitVec.and_assoc, show fcr31Mask &&& ~~~fcr31Mask = 0 by decide]
  exact BitVec.and_zero

/-! ### Properties that the shared operations keep -/

/-- The operations that the meanings of the instructions are built from keep `P`. -/
structure ExecClosed (P : State → Prop) : Prop where
  setPc : ∀ {s : State} (pc : Dword) (delay : Option Dword), P s → P { s with pc := pc, delay := delay }
  writeGpr : ∀ {s : State} (r : Reg) (v : Dword), P s → P (s.writeGpr r v)
  setHiLo : ∀ {s : State} (hi lo : Dword), P s → P (s.setHiLo hi lo)
  setLlbit : ∀ {s : State} (b : Bool), P s → P (s.setLlbit b)
  setFpr : ∀ {s : State} (n : Reg) (f : Fpr), P s → P (s.setFpr n f)
  /-- FCR31 takes a value whose reserved bits are those of the old one, or zero. -/
  setFcr31 : ∀ {s : State} (v : Word),
    (v &&& ~~~fcr31Mask = s.fcr31 &&& ~~~fcr31Mask ∨ v &&& ~~~fcr31Mask = 0) → P s → P (s.setFcr31 v)
  setTlb : ∀ {s : State} (i : BitVec 6) (e : TlbEntry), P s → P (s.setTlb i e)
  writeCp0 : ∀ {s : State} (n : Reg) (v : Dword), P s → P (s.writeCp0 n v)
  setIndex : ∀ {s : State} (p : Bool) (i : BitVec 6), P s → P (s.setCp0 { s.cp0 with indexP := p, index := i })
  setTags : ∀ {s : State} (hi lo : Word), P s → P (s.setCp0 { s.cp0 with tagHi := hi, tagLo := lo })
  readTlbEntry : ∀ {s : State}, P s → P s.readTlbEntry
  takeException : ∀ {s : State} (e : Exc), P s → P (takeException e s)
  returnFromException : ∀ {s : State}, P s → P (returnFromException s)
  translate : ∀ {s : State} (k : Access) (va : Dword), P s → (translate s k va).Keeps P
  memRead : ∀ {s : State} (va : Dword) (n : Nat), P s → (memRead s va n).Keeps P
  memReadPart : ∀ {s : State} (va first : Dword) (n : Nat), P s → (memReadPart s va first n).Keeps P
  memWrite : ∀ {s : State} (va : Dword) (n : Nat) (v : Dword), P s → (memWrite s va n v).Keeps P
  memWritePart : ∀ {s : State} (va first : Dword) (n : Nat) (v : Dword),
    P s → (memWritePart s va first n v).Keeps P
  memWriteConditional : ∀ {s : State} (va : Dword) (n : Nat) (v : Dword),
    P s → (memWriteConditional s va n v).Keeps P
  flushGather : ∀ {s : State}, P s → (flushGather s).Keeps P
  setILine : ∀ {s : State} (k : Nat) (l : ILine), P s → P (s.setILine k l)
  setDLine : ∀ {s : State} (k : Nat) (l : DLine), P s → P (s.setDLine k l)
  setSLine : ∀ {s : State} (k : Nat) (l : SLine), P s → P (s.setSLine k l)
  evictData : ∀ {s : State} (k : Nat), P s → (evictData s k).Keeps P
  evictSecondary : ∀ {s : State} (k : Nat) (writeBack : Bool), P s → (evictSecondary s k writeBack).Keeps P

/-- The state an outcome goes on with, if it does, has the property. -/
def NextKeeps (P : State → Prop) : Outcome → Prop
  | .next t => P t
  | .fault _ => True
  | .refused _ => True

theorem NextKeeps.next {P : State → Prop} {o : Outcome} (ho : NextKeeps P o) {t : State} (h : o = .next t) : P t := by
  rw [h] at ho
  exact ho

section Families
variable {P : State → Prop} {s : State}

/-! ### Ends of instructions -/

theorem ExecClosed.advance (hP : ExecClosed P) (h : P s) : P s.advance := hP.setPc _ _ h

theorem ExecClosed.outcome (hP : ExecClosed P) {r : Res Unit} (hr : r.Keeps P) : NextKeeps P r.outcome := by
  cases r with
  | raise e t => exact hP.takeException e hr
  | _ => exact hr

theorem ExecClosed.finish (hP : ExecClosed P) {r : Res Unit} (hr : r.Keeps P) : NextKeeps P r.finish :=
  hP.outcome (hr.bind fun _ _ ht => hP.advance ht)

theorem ExecClosed.complete (hP : ExecClosed P) (h : P s) : NextKeeps P (complete s) := hP.advance h

theorem ExecClosed.raiseExc (hP : ExecClosed P) (h : P s) (e : Exc) : NextKeeps P (raiseExc e s) :=
  hP.takeException e h

/-! ### Integer instructions -/

theorem ExecClosed.writeResult (hP : ExecClosed P) (h : P s) (rd : Reg) (v : Dword) :
    NextKeeps P (writeResult s rd v) :=
  hP.complete (hP.writeGpr rd v h)

theorem ExecClosed.writeOrOverflow (hP : ExecClosed P) (h : P s) (rd : Reg) (v : Option Dword) :
    NextKeeps P (writeOrOverflow s rd v) := by
  cases v with
  | some v => exact hP.writeResult h rd v
  | none => exact hP.raiseExc h .overflow

theorem ExecClosed.moveIf (hP : ExecClosed P) (h : P s) (c : Prop) [Decidable c] (rd : Reg) (v : Dword) :
    NextKeeps P (if c then Machine.writeResult s rd v else Machine.complete s) := by
  split
  · exact hP.writeResult h rd v
  · exact hP.complete h

theorem ExecClosed.moveUnless (hP : ExecClosed P) (h : P s) (c : Prop) [Decidable c] (rd : Reg) (v : Dword) :
    NextKeeps P (if c then Machine.complete s else Machine.writeResult s rd v) := by
  split
  · exact hP.complete h
  · exact hP.writeResult h rd v

theorem ExecClosed.multiplyWord (hP : ExecClosed P) (h : P s) (p : Int) : NextKeeps P (multiplyWord s p) :=
  hP.complete (hP.setHiLo _ _ h)

theorem ExecClosed.multiplyDouble (hP : ExecClosed P) (h : P s) (p : Int) : NextKeeps P (multiplyDouble s p) :=
  hP.complete (hP.setHiLo _ _ h)

theorem ExecClosed.divide (hP : ExecClosed P) (h : P s) (toReg : Int → Dword) (a b : Int) :
    NextKeeps P (divide s toReg a b) := by
  unfold Machine.divide
  split <;> exact hP.complete (hP.setHiLo _ _ h)

theorem ExecClosed.trapIf (hP : ExecClosed P) (h : P s) (c : Bool) : NextKeeps P (trapIf s c) := by
  cases c with
  | true => exact hP.raiseExc h .trap
  | false => exact hP.complete h

/-! ### Control transfers -/

theorem ExecClosed.linkTo (hP : ExecClosed P) (h : P s) (rd : Reg) : P (s.linkTo rd) := hP.writeGpr rd _ h

theorem ExecClosed.outsideDelaySlot (hP : ExecClosed P) (h : P s) (u : State) (pc : Dword) (delay : Option Dword) :
    NextKeeps P (outsideDelaySlot u { s with pc := pc, delay := delay }) := by
  unfold Machine.outsideDelaySlot
  split
  · trivial
  · exact hP.setPc pc delay h

theorem ExecClosed.jump (hP : ExecClosed P) (h : P s) (target : Dword) : NextKeeps P (jump s target) :=
  hP.outsideDelaySlot h s _ _

theorem ExecClosed.branch (hP : ExecClosed P) (h : P s) (taken : Bool) (target : Dword) :
    NextKeeps P (branch s taken target) := by
  cases taken <;> exact hP.outsideDelaySlot h s _ _

theorem ExecClosed.branchLikely (hP : ExecClosed P) (h : P s) (taken : Bool) (target : Dword) :
    NextKeeps P (branchLikely s taken target) := by
  cases taken <;> exact hP.outsideDelaySlot h s _ _

/-! ### Coprocessor checks -/

theorem checkCp1_keeps (h : P s) : (checkCp1 s).Keeps P := by
  unfold checkCp1
  split <;> exact h

theorem checkCp0_keeps (h : P s) : (checkCp0 s).Keeps P := by
  unfold checkCp0
  split
  · exact h
  · split <;> trivial

theorem ExecClosed.ifCp1 (hP : ExecClosed P) (h : P s) {o : Outcome} (ho : NextKeeps P o) :
    NextKeeps P (ifCp1 s o) := by
  unfold Machine.ifCp1
  have hc := checkCp1_keeps h
  revert hc
  cases checkCp1 s with
  | ok _ t => exact fun _ => ho
  | raise e t => exact fun hc => hP.takeException e hc
  | _ => exact fun _ => trivial

theorem ExecClosed.fpInstruction (hP : ExecClosed P) (h : P s) {k : State → Res Unit}
    (hk : ∀ t, P t → (k t).Keeps P) : NextKeeps P (fpInstruction s k) :=
  hP.finish ((checkCp1_keeps h).bind fun _ t ht => hk t ht)

theorem ExecClosed.cp0Instruction (hP : ExecClosed P) (h : P s) {k : State → Res Unit}
    (hk : ∀ t, P t → (k t).Keeps P) : NextKeeps P (cp0Instruction s k) :=
  hP.finish ((checkCp0_keeps h).bind fun _ t ht => hk t ht)

/-! ### Loads and stores -/

theorem ExecClosed.load (hP : ExecClosed P) (h : P s) (rt : Reg) (va : Dword) (n : Nat) (extend : Dword → Dword) :
    NextKeeps P (load s rt va n extend) := by
  unfold Machine.load
  split
  · exact hP.complete h
  · exact hP.finish ((hP.memRead va n h).bind fun _ _ ht => hP.writeGpr rt _ ht)

theorem ExecClosed.loadPart (hP : ExecClosed P) (h : P s) (rt : Reg) (p : Part) (merge : Dword → Dword → Dword) :
    NextKeeps P (loadPart s rt p merge) := by
  unfold Machine.loadPart
  split
  · exact hP.complete h
  · exact hP.finish ((hP.memReadPart _ _ _ h).bind fun _ _ ht => hP.writeGpr rt _ ht)

theorem ExecClosed.loadLinked (hP : ExecClosed P) (h : P s) (rt : Reg) (va : Dword) (n : Nat)
    (extend : Dword → Dword) : NextKeeps P (loadLinked s rt va n extend) := by
  unfold Machine.loadLinked
  split
  · exact hP.complete h
  · exact hP.finish ((hP.memRead va n h).bind fun _ _ ht => hP.setLlbit true (hP.writeGpr rt _ ht))

theorem ExecClosed.storePart (hP : ExecClosed P) (h : P s) (p : Part) (v : Dword) : NextKeeps P (storePart s p v) :=
  hP.finish (hP.memWritePart _ _ _ _ h)

theorem ExecClosed.storeConditional (hP : ExecClosed P) (h : P s) (rt : Reg) (va : Dword) (n : Nat) :
    NextKeeps P (storeConditional s rt va n) :=
  hP.finish ((hP.memWriteConditional _ _ _ h).bind fun _ _ ht => hP.writeGpr rt _ ht)

/-! ### Floating point -/

theorem ExecClosed.writeS (hP : ExecClosed P) (h : P s) (n : Reg) (v : Word) : P (s.writeS n v) := by
  unfold State.writeS
  split
  · exact hP.setFpr _ _ h
  · split <;> exact hP.setFpr _ _ h

theorem ExecClosed.writeD (hP : ExecClosed P) (h : P s) (n : Reg) (v : Dword) : P (s.writeD n v) := by
  unfold State.writeD
  split
  · exact hP.setFpr _ _ (hP.setFpr _ _ h)
  · exact hP.setFpr _ _ h

theorem ExecClosed.setCause (hP : ExecClosed P) (h : P s) (c : Conditions) :
    P (s.setFcr31 (withCause s.fcr31 c)) :=
  hP.setFcr31 _ (.inl (withCause_reserved _ c)) h

theorem ExecClosed.fpEnd (hP : ExecClosed P) (h : P s) (c : Conditions) {write : State → State}
    (hw : ∀ t, P t → P (write t)) : (fpEnd s c write).Keeps P := by
  rw [fpEnd_eq]
  split
  · exact hP.setCause h c
  · refine hw _ (hP.setFcr31 _ (.inl ?_) h)
    rw [withFlags_reserved, withCause_reserved]

theorem ExecClosed.endS (hP : ExecClosed P) (h : P s) (fd : Reg) (r : FpResult) : (endS s fd r).Keeps P :=
  hP.fpEnd h _ fun _ ht => hP.writeS ht _ _

theorem ExecClosed.endD (hP : ExecClosed P) (h : P s) (fd : Reg) (r : FpResult) : (endD s fd r).Keeps P :=
  hP.fpEnd h _ fun _ ht => hP.writeD ht _ _

theorem ExecClosed.endPS (hP : ExecClosed P) (h : P s) (fd : Reg) (lower upper : FpResult) :
    (endPS s fd lower upper).Keeps P :=
  hP.fpEnd h _ fun _ ht => hP.writeD ht _ _

theorem ExecClosed.fpS (hP : ExecClosed P) (h : P s) (fd : Reg) (r : State → FpResult) :
    NextKeeps P (Machine.fpInstruction s fun t => Machine.endS t fd (r t)) :=
  hP.fpInstruction h fun _ ht => hP.endS ht fd _

theorem ExecClosed.fpD (hP : ExecClosed P) (h : P s) (fd : Reg) (r : State → FpResult) :
    NextKeeps P (Machine.fpInstruction s fun t => Machine.endD t fd (r t)) :=
  hP.fpInstruction h fun _ ht => hP.endD ht fd _

theorem ExecClosed.fpPS (hP : ExecClosed P) (h : P s) (fd : Reg) (lower upper : State → FpResult) :
    NextKeeps P (Machine.fpInstruction s fun t =>
      Machine.endPS t fd (lower t) (upper t)) :=
  hP.fpInstruction h fun _ ht => hP.endPS ht fd _ _

theorem ExecClosed.compareS (hP : ExecClosed P) (h : P s) (cond : BitVec 4) (fs ft : Reg) :
    NextKeeps P (compareS cond s fs ft) :=
  hP.fpInstruction h fun _ ht => hP.fpEnd ht _ fun _ hu => hP.setFcr31 _ (.inl (withCc0_reserved _ _)) hu

theorem ExecClosed.compareD (hP : ExecClosed P) (h : P s) (cond : BitVec 4) (fs ft : Reg) :
    NextKeeps P (compareD cond s fs ft) :=
  hP.fpInstruction h fun _ ht => hP.fpEnd ht _ fun _ hu => hP.setFcr31 _ (.inl (withCc0_reserved _ _)) hu

theorem ExecClosed.comparePS (hP : ExecClosed P) (h : P s) (cond : BitVec 4) (fs ft : Reg) :
    NextKeeps P (comparePS cond s fs ft) :=
  hP.fpInstruction h fun _ ht => hP.fpEnd ht _ fun _ hu =>
    hP.setFcr31 _ (.inl ((withCc1_reserved _ _).trans (withCc0_reserved _ _))) hu

theorem ExecClosed.writeFcr (hP : ExecClosed P) (h : P s) (n : Reg) (v : Dword) : (writeFcr s n v).Keeps P := by
  have h1 := hP.setFcr31 (writableFcr31 (low32 v)) (.inr (writableFcr31_reserved _)) h
  unfold Machine.writeFcr
  simp only []
  split
  · split <;> exact h1
  · exact h

/-! ### Privileged instructions -/

theorem ExecClosed.moveFromCp0 (hP : ExecClosed P) (h : P s) (rt rd : Reg) (view : Dword → Dword) :
    NextKeeps P (moveFromCp0 s rt rd view) := by
  unfold Machine.moveFromCp0
  split
  · exact hP.complete (hP.writeGpr rt _ h)
  · exact hP.cp0Instruction h fun _ ht => hP.writeGpr rt _ ht

theorem ExecClosed.probeTlb (hP : ExecClosed P) (h : P s) : (probeTlb s).Keeps P := by
  unfold Machine.probeTlb
  split
  · exact hP.setIndex _ _ h
  · exact hP.setIndex _ _ h
  · trivial

theorem ExecClosed.writeTlbEntry (hP : ExecClosed P) (h : P s) (i : BitVec 6) : (writeTlbEntry s i).Keeps P := by
  unfold Machine.writeTlbEntry
  split
  · exact hP.setTlb i _ h
  · trivial

theorem ExecClosed.eret (hP : ExecClosed P) (h : P s) : NextKeeps P (execEret s) := by
  unfold execEret ifCp0
  have hc := checkCp0_keeps h
  revert hc
  cases checkCp0 s with
  | ok _ t =>
    intro _
    simp only []
    split
    · trivial
    · exact hP.returnFromException h
  | raise e t => exact fun hc => hP.takeException e hc
  | _ => exact fun _ => trivial

/-! ### CACHE -/

theorem ExecClosed.cacheInstruction (hP : ExecClosed P) (h : P s) (user : Bool) (va : Dword)
    {op : Dword → BitVec 40 → State → Res Unit} (hop : ∀ pa t, P t → (op va pa t).Keeps P) :
    NextKeeps P (cacheInstruction s user va op) := by
  have hc : (checkCache s user).Keeps P := by
    unfold checkCache
    split
    · exact h
    · exact checkCp0_keeps h
  refine hP.finish (hc.bind fun _ t ht => Res.Keeps.bind ?_ fun pa u hu => hop pa u hu)
  refine (hP.translate .load va ht).bind fun r u hu => ?_
  split
  · exact hu
  · trivial

theorem ExecClosed.indexInvalidateI (hP : ExecClosed P) (h : P s) (va : Dword) : P (indexInvalidateI s va) :=
  foldl_keeps _ (fun _ _ ht => hP.setILine _ _ ht) _ h

theorem ExecClosed.hitInvalidateD (hP : ExecClosed P) (h : P s) (va : Dword) (pa : BitVec 40) :
    P (hitInvalidateD s va pa) := by
  refine foldl_keeps _ (fun t k ht => ?_) _ h
  split
  · exact hP.setDLine _ _ ht
  · exact ht

theorem ExecClosed.evictMatchingD (hP : ExecClosed P) (h : P s) (pa : BitVec 40) (ks : List Nat) :
    (evictMatchingD s pa ks).Keeps P := by
  induction ks generalizing s with
  | nil => exact h
  | cons k ks ih =>
    unfold Machine.evictMatchingD
    split
    · exact (hP.evictData k h).bind fun _ _ ht => ih ht
    · exact ih h

theorem ExecClosed.evictMatchingS (hP : ExecClosed P) (h : P s) (pa : BitVec 40) (wb : Bool) (ks : List Nat) :
    (evictMatchingS s pa wb ks).Keeps P := by
  induction ks generalizing s with
  | nil => exact h
  | cons k ks ih =>
    unfold Machine.evictMatchingS
    split
    · exact (hP.evictSecondary k wb h).bind fun _ _ ht => ih ht
    · exact ih h

/-! ### Every instruction -/

/-- An instruction keeps what the shared operations keep: the case split goes by the shapes of the meanings. -/
theorem ExecClosed.exec (hP : ExecClosed P) (h : P s) (i : Instr) : NextKeeps P (exec i s) := by
  cases i
  case lb | lbu | lh | lhu | lw | lwu | ld => exact hP.load h _ _ _ _
  case lwl | lwr | ldl | ldr => exact hP.loadPart h _ _ _
  case swl | swr | sdl | sdr => exact hP.storePart h _ _
  case sb | sh | sw | sd => exact hP.finish (hP.memWrite _ _ _ h)
  case ll | lld => exact hP.loadLinked h _ _ _ _
  case sc | scd => exact hP.storeConditional h _ _ _
  case lwc1 => exact hP.fpInstruction h fun _ ht => (hP.memRead _ _ ht).bind fun _ _ hu => hP.writeS hu _ _
  case ldc1 => exact hP.fpInstruction h fun _ ht => (hP.memRead _ _ ht).bind fun _ _ hu => hP.writeD hu _ _
  case swc1 | sdc1 => exact hP.fpInstruction h fun _ ht => hP.memWrite _ _ _ ht
  case addi | daddi | add | sub | dadd | dsub => exact hP.writeOrOverflow h _ _
  case addiu | daddiu | slti | sltiu | andi | ori | xori | lui | addu | subu | daddu | dsubu | slt | sltu | and | or
      | xor | nor => exact hP.writeResult h _ _
  case sll | srl | sra | dsll | dsrl | dsra | dsll32 | dsrl32 | dsra32 | sllv | srlv | srav | dsllv | dsrlv | dsrav =>
    exact hP.writeResult h _ _
  case mfhi | mflo | multg | multug | dmultg | dmultug | divg | divug | ddivg | ddivug | modg | modug | dmodg
      | dmodug => exact hP.writeResult h _ _
  case movz => exact hP.moveIf h _ _ _
  case movn => exact hP.moveUnless h _ _ _
  case mthi | mtlo => exact hP.complete (hP.setHiLo _ _ h)
  case mult | multu => exact hP.multiplyWord h _
  case dmult | dmultu => exact hP.multiplyDouble h _
  case div | divu | ddiv | ddivu => exact hP.divide h _ _ _
  case j | jr => exact hP.jump h _
  case jal | jalr => exact hP.jump (hP.linkTo h _) _
  case beq | bne | blez | bgtz | bltz | bgez => exact hP.branch h _ _
  case bltzal | bgezal => exact hP.branch (hP.linkTo h _) _ _
  case beql | bnel | blezl | bgtzl | bltzl | bgezl => exact hP.branchLikely h _ _
  case bltzall | bgezall => exact hP.branchLikely (hP.linkTo h _) _ _
  case bc1f | bc1t => exact hP.ifCp1 h (hP.branch h _ _)
  case bc1fl | bc1tl => exact hP.ifCp1 h (hP.branchLikely h _ _)
  case syscall | break_ => exact hP.raiseExc h _
  case sync => exact hP.finish (hP.flushGather h)
  case tge | tgeu | tlt | tltu | teq | tne | tgei | tgeiu | tlti | tltiu | teqi | tnei => exact hP.trapIf h _
  case mfc0 => exact hP.moveFromCp0 h _ _ fun v => sext32 (low32 v)
  case dmfc0 => exact hP.moveFromCp0 h _ _ id
  case mtc0 | dmtc0 => exact hP.cp0Instruction h fun _ ht => hP.writeCp0 _ _ ht
  case tlbp => exact hP.cp0Instruction h fun _ ht => hP.probeTlb ht
  case tlbr => exact hP.cp0Instruction h fun _ ht => hP.readTlbEntry ht
  case tlbwi | tlbwr => exact hP.cp0Instruction h fun _ ht => hP.writeTlbEntry ht _
  case eret => exact hP.eret h
  case cache base op offset =>
    show NextKeeps P (execCache base op offset s)
    exact hP.cacheInstruction h _ _ fun _ _ _ => trivial
  case cache_index_invalidate_i =>
    show NextKeeps P (execCacheIndexInvalidateI ..)
    exact hP.cacheInstruction h _ _ fun _ _ ht => hP.indexInvalidateI ht _
  case cache_index_writeback_invalidate_d =>
    show NextKeeps P (execCacheIndexWritebackInvalidateD ..)
    exact hP.cacheInstruction h _ _ fun _ _ ht => hP.evictData _ ht
  case cache_index_load_tag_d =>
    show NextKeeps P (execCacheIndexLoadTagD ..)
    exact hP.cacheInstruction h _ _ fun _ _ ht => hP.setTags _ _ ht
  case cache_index_store_tag_d =>
    show NextKeeps P (execCacheIndexStoreTagD ..)
    exact hP.cacheInstruction h _ _ fun _ _ ht => hP.setDLine _ _ ht
  case cache_hit_invalidate_d =>
    show NextKeeps P (execCacheHitInvalidateD ..)
    exact hP.cacheInstruction h _ _ fun _ _ ht => hP.hitInvalidateD ht _ _
  case cache_hit_writeback_invalidate_d =>
    show NextKeeps P (execCacheHitWritebackInvalidateD ..)
    exact hP.cacheInstruction h _ _ fun _ _ ht => hP.evictMatchingD ht _ _
  case cache_index_load_data_d =>
    show NextKeeps P (execCacheIndexLoadDataD ..)
    exact hP.cacheInstruction h _ _ fun _ _ ht => hP.setTags _ _ ht
  case cache_index_store_data_d =>
    show NextKeeps P (execCacheIndexStoreDataD ..)
    exact hP.cacheInstruction h _ _ fun _ _ ht => hP.setDLine _ _ ht
  case cache_index_writeback_invalidate_s =>
    show NextKeeps P (execCacheIndexWritebackInvalidateS ..)
    exact hP.cacheInstruction h _ _ fun _ _ ht => hP.evictSecondary _ _ ht
  case cache_index_load_tag_s =>
    show NextKeeps P (execCacheIndexLoadTagS ..)
    exact hP.cacheInstruction h _ _ fun _ _ ht => hP.setTags _ _ ht
  case cache_index_store_tag_s =>
    show NextKeeps P (execCacheIndexStoreTagS ..)
    exact hP.cacheInstruction h _ _ fun _ _ ht => hP.setSLine _ _ ht
  case cache_hit_invalidate_s =>
    show NextKeeps P (execCacheHitInvalidateS ..)
    exact hP.cacheInstruction h _ _ fun _ _ ht => hP.evictMatchingS ht _ _ _
  case cache_hit_writeback_invalidate_s =>
    show NextKeeps P (execCacheHitWritebackInvalidateS ..)
    exact hP.cacheInstruction h _ _ fun _ _ ht => hP.evictMatchingS ht _ _ _
  case cache_index_load_data_s =>
    show NextKeeps P (execCacheIndexLoadDataS ..)
    exact hP.cacheInstruction h _ _ fun _ _ ht => hP.setTags _ _ ht
  case cache_index_store_data_s =>
    show NextKeeps P (execCacheIndexStoreDataS ..)
    exact hP.cacheInstruction h _ _ fun _ _ ht => hP.setSLine _ _ ht
  case add_s | sub_s | mul_s | div_s | sqrt_s | abs_s | neg_s | madd_s | msub_s | nmadd_s | nmsub_s =>
    exact hP.fpS h _ _
  case add_d | sub_d | mul_d | div_d | sqrt_d | abs_d | neg_d | madd_d | msub_d | nmadd_d | nmsub_d =>
    exact hP.fpD h _ _
  case add_ps | sub_ps | mul_ps | abs_ps | neg_ps | madd_ps | msub_ps | nmadd_ps | nmsub_ps =>
    exact hP.fpPS h _ _ _
  case round_w_s | round_w_d | trunc_w_s | trunc_w_d | ceil_w_s | ceil_w_d | floor_w_s | floor_w_d | cvt_w_s | cvt_w_d
      | cvt_s_d | cvt_s_w | cvt_s_l => exact hP.fpS h _ _
  case round_l_s | round_l_d | trunc_l_s | trunc_l_d | ceil_l_s | ceil_l_d | floor_l_s | floor_l_d | cvt_l_s | cvt_l_d
      | cvt_d_s | cvt_d_w | cvt_d_l => exact hP.fpD h _ _
  case c_f_s | c_un_s | c_eq_s | c_ueq_s | c_olt_s | c_ult_s | c_ole_s | c_ule_s | c_sf_s | c_ngle_s | c_seq_s
      | c_ngl_s | c_lt_s | c_nge_s | c_le_s | c_ngt_s => exact hP.compareS h _ _ _
  case c_f_d | c_un_d | c_eq_d | c_ueq_d | c_olt_d | c_ult_d | c_ole_d | c_ule_d | c_sf_d | c_ngle_d | c_seq_d
      | c_ngl_d | c_lt_d | c_nge_d | c_le_d | c_ngt_d => exact hP.compareD h _ _ _
  case c_f_ps | c_un_ps | c_eq_ps | c_ueq_ps | c_olt_ps | c_ult_ps | c_ole_ps | c_ule_ps | c_sf_ps | c_ngle_ps
      | c_seq_ps | c_ngl_ps | c_lt_ps | c_nge_ps | c_le_ps | c_ngt_ps => exact hP.comparePS h _ _ _
  case mov_s | mtc1 => exact hP.fpInstruction h fun _ ht => hP.writeS ht _ _
  case mov_d | mov_ps | dmtc1 => exact hP.fpInstruction h fun _ ht => hP.writeD ht _ _
  case mfc1 | dmfc1 | cfc1 => exact hP.fpInstruction h fun _ ht => hP.writeGpr _ _ ht
  case ctc1 => exact hP.fpInstruction h fun _ ht => hP.writeFcr ht _ _

end Families

end Sys2Proof.Machine
end

section
/-! SUPPORT. What a step keeps: the boundary after an instruction, events from outside, and the step as a whole. -/

namespace Sys2Proof.Machine

/-! ### What `commit` changes -/

/-- The DDR2 initialisation changes the DDR2 controller alone. -/
theorem ddrInitDone_eq (s : State) : s.ddrInitDone = { s with ddr := s.ddrInitDone.ddr } := by
  unfold State.ddrInitDone State.ddrDllLock State.ddrDelayElements
  simp only [State.ddrField, State.setDdrCtl]

theorem ddrCount_eq (before s : State) : State.ddrCount before s = { s with ddr := (State.ddrCount before s).ddr } := by
  unfold State.ddrCount State.ddrTick
  split
  · rfl
  · split
    · rfl
    · exact ddrInitDone_eq s
    · rfl

/-- CP0 with Random counted down, unless the step took an exception or writes Wired. -/
def State.randomCp0 (s : State) (keepRandom : Bool) : Cp0 :=
  if s.taken.isSome || keepRandom then s.cp0
  else { s.cp0 with random := nextRandom s.cp0.random s.cp0.wired }

/-- A step that began in `before` with its CP0 registers counted: Random, Count, then the performance counters. -/
def counted (before s : State) (keepRandom : Bool) : State :=
  State.countEvents before (s.setCp0 ((s.randomCp0 keepRandom).countCycles (Config.cycles s.stamp)))
    (Config.cycles s.stamp)

theorem counted_eq (before s : State) (keepRandom : Bool) :
    counted before s keepRandom = s.setCp0 (counted before s keepRandom).cp0 := by
  unfold counted State.countEvents
  split <;> rfl

theorem commit_eq_counted (before s : State) (keepRandom : Bool) :
    commit before s keepRandom =
      State.deviceTick { State.ddrCount before (counted before s keepRandom) with
        irqHeld := State.irqHeldAfter before s
        events := tickEvents s.events } := by
  have hs : (if s.taken.isSome || keepRandom then s
      else s.setCp0 { s.cp0 with random := nextRandom s.cp0.random s.cp0.wired }) =
      s.setCp0 (s.randomCp0 keepRandom) := by
    unfold State.randomCp0
    split <;> rfl
  have he : (State.ddrCount before (counted before s keepRandom)).events = s.events := by
    rw [ddrCount_eq, counted_eq]
    rfl
  unfold commit
  simp only [hs, ← he]
  rfl

/-! ### Properties that a step keeps -/

/-- The operations that a step is built from keep `P`. -/
structure StepClosed (P : State → Prop) : Prop extends ExecClosed P where
  fetch : ∀ {s : State}, P s → (fetch s).Keeps P
  commit : ∀ {s : State} (before : State) (keepRandom : Bool), P s → P (commit before s keepRandom)
  standBy : ∀ {s : State}, P s → P (standBy s)
  deviceTick : ∀ {s : State}, P s → P s.deviceTick
  hostEvent : ∀ {s : State} (e : HostEvent), P s → (hostEvent e s).Keeps P
  /-- The queue of events and the record of the last exception are the model's own. -/
  record : ∀ {s : State} (events : List TimedEvent) (taken : Option Exc),
    P s → P { s with events := events, taken := taken }

section Step
variable {P : State → Prop} {s : State}

theorem ExecClosed.rejected (hP : ExecClosed P) (h : P s) (r : Reject) : (rejected r s).Keeps P := by
  cases r with
  | reserved => exact h
  | truncated => exact h
  | reservedCop0 => exact (checkCp0_keeps h).bind fun _ _ ht => ht
  | reservedCop1 => exact (checkCp1_keeps h).bind fun _ _ ht => hP.setCause ht condE
  | cop2 =>
    unfold Machine.rejected
    simp only []
    split
    · trivial
    · exact h

theorem StepClosed.runInstruction (hP : StepClosed P) (h : P s) : NextKeeps P (runInstruction s).1 := by
  have hf := hP.fetch h
  unfold Machine.runInstruction
  revert hf
  cases Machine.fetch s with
  | ok w t =>
    intro ht
    simp only [runWord]
    split
    · exact hP.exec ht _
    · exact hP.outcome (hP.rejected ht _)
  | raise e t => exact fun ht => hP.takeException e ht
  | _ => exact fun _ => trivial

/-- An instruction's outcome, or the interrupt in its place, is completed by `commit`. -/
theorem StepClosed.settle (hP : StepClosed P) (h : P s) (keepRandom : Bool) {o : Outcome} (ho : NextKeeps P o) :
    NextKeeps P (settle s keepRandom o) := by
  have hi := hP.commit s keepRandom (hP.takeException .interrupt h)
  cases o with
  | next t =>
    unfold Machine.settle
    simp only []
    split
    · exact hi
    · exact hP.commit s keepRandom ho
  | _ =>
    unfold Machine.settle
    simp only []
    split
    · exact hi
    · trivial

theorem StepClosed.coreStep (hP : StepClosed P) (h : P s) : NextKeeps P (coreStep s) := by
  have h1 : P { s with taken := none } := hP.record s.events none h
  unfold Machine.coreStep
  split
  · exact hP.standBy h1
  · exact hP.settle h1 _ (hP.runInstruction h1)

theorem StepClosed.eventStep (hP : StepClosed P) (h : P s) (e : HostEvent) (rest : List TimedEvent) :
    NextKeeps P (eventStep e rest s) :=
  hP.outcome ((hP.hostEvent e (hP.record rest none h)).bind fun _ _ ht => hP.deviceTick ht)

/-- A step keeps what the operations it is built from keep, whatever the step does. -/
theorem StepClosed.step (hP : StepClosed P) (h : P s) : NextKeeps P (step s) := by
  unfold Machine.step
  split
  · split
    · exact hP.eventStep h _ _
    · exact hP.coreStep h
  · exact hP.coreStep h

end Step

/-! ### What a step can make of the CP0 registers -/

/-- The ways in which the operations of a step change CP0, a cold reset apart. -/
inductive Cp0Moves (c : Cp0) : Cp0 → Prop where
  /-- MTC0 and DMTC0. -/
  | write (n : Reg) (v : Dword) : Cp0Moves c (c.write n v)
  /-- TLBP. -/
  | index (p : Bool) (i : BitVec 6) : Cp0Moves c { c with indexP := p, index := i }
  /-- TLBR. -/
  | tlbRead (e : TlbEntry) : Cp0Moves c { c with
      pageMask := pageMaskOfEntry e
      entryHi := entryHiOfEntry e
      entryLo0 := entryLoOfPage e.even e.g
      entryLo1 := entryLoOfPage e.odd e.g }
  /-- The CACHE operations that load a tag or data. -/
  | tags (hi lo : Word) : Cp0Moves c { c with tagHi := hi, tagLo := lo }
  /-- The entry of an exception. -/
  | exception (e : Exc) (epc : Dword) (cause : CauseReg) : Cp0Moves c { e.recordAddress c with
      epc := epc
      cause := cause
      status := (e.recordAddress c).status ||| 0x2 }
  /-- ERET. -/
  | eret (bits : Word) : Cp0Moves c { c with status := c.status &&& bits }
  /-- An NMI and a soft reset. -/
  | nmi (errorEpc badVAddr : Dword) : Cp0Moves c { c with
      errorEpc := errorEpc
      status := c.status ||| 0x00500004
      badVAddr := badVAddr }
  /-- Random counts down. -/
  | random : Cp0Moves c { c with random := nextRandom c.random c.wired }
  /-- Count advances. -/
  | count (n : Nat) : Cp0Moves c (c.countCycles n)
  /-- The performance counters advance. -/
  | counters (n0 n1 : Word) : Cp0Moves c { c with perf0 := n0, perf1 := n1 }

/-- A property of the storage behind r0, of CP0 and of FCR31 that everything a step does with them keeps. -/
structure RegisterInvariant (P : State → Prop) : Prop where
  ext : ∀ {s t : State}, P s → t.gpr[0] = s.gpr[0] → t.cp0 = s.cp0 → t.fcr31 = s.fcr31 → P t
  cp0 : ∀ {s : State} {c : Cp0}, Cp0Moves s.cp0 c → P s → P (s.setCp0 c)
  fcr31 : ∀ {s : State} (v : Word),
    (v &&& ~~~fcr31Mask = s.fcr31 &&& ~~~fcr31Mask ∨ v &&& ~~~fcr31Mask = 0) → P s → P (s.setFcr31 v)
  coldReset : ∀ {s : State}, P s → P (coldReset s)

section Registers
variable {P : State → Prop} {s : State}

/-- An access that changes nothing in the core keeps the property. -/
theorem RegisterInvariant.keeps {α : Type} (hP : RegisterInvariant P) (h : P s) {r : Res α}
    (hr : r.Keeps (HasCore s.core)) : r.Keeps P := by
  have hext : ∀ t : State, HasCore s.core t → P t := fun t ht =>
    hP.ext h (congrArg (fun g : Vector Dword 32 => g[0]) ht.gpr) ht.cp0 ht.fcr31
  cases r with
  | ok _ t => exact hext t hr
  | raise _ t => exact hext t hr
  | _ => trivial

theorem RegisterInvariant.setCp0With (hP : RegisterInvariant P) (h : P s) {t : State} (hg : t.gpr[0] = s.gpr[0])
    (hf : t.fcr31 = s.fcr31) (hc : Cp0Moves s.cp0 t.cp0) : P t :=
  hP.ext (hP.cp0 hc h) hg rfl hf

theorem RegisterInvariant.writeCp0 (hP : RegisterInvariant P) (h : P s) (n : Reg) (v : Dword) :
    P (s.writeCp0 n v) := by
  unfold State.writeCp0
  simp only []
  split <;> exact hP.setCp0With h rfl rfl (.write n v)

theorem RegisterInvariant.counted (hP : RegisterInvariant P) (h : P s) (before : State) (keepRandom : Bool) :
    P (counted before s keepRandom) := by
  have h1 : P (s.setCp0 (s.randomCp0 keepRandom)) := by
    unfold State.randomCp0
    split
    · exact hP.ext h rfl rfl rfl
    · exact hP.cp0 .random h
  have h2 := hP.cp0 (.count (Config.cycles s.stamp)) h1
  unfold Machine.counted State.countEvents
  split
  · exact hP.setCp0With h2 rfl rfl (.counters _ _)
  · exact hP.ext h2 rfl rfl rfl

theorem RegisterInvariant.commit (hP : RegisterInvariant P) (h : P s) (before : State) (keepRandom : Bool) :
    P (commit before s keepRandom) := by
  rw [commit_eq_counted, ddrCount_eq]
  exact hP.ext (hP.counted h before keepRandom) rfl rfl rfl

theorem RegisterInvariant.standBy (hP : RegisterInvariant P) (h : P s) : P (standBy s) := by
  unfold Machine.standBy
  simp only []
  split <;> exact hP.ext h rfl rfl rfl

theorem RegisterInvariant.takeNmi (hP : RegisterInvariant P) (h : P s) : P (takeNmi s) :=
  hP.setCp0With h rfl rfl (.nmi _ _)

theorem RegisterInvariant.hostEvent (hP : RegisterInvariant P) (h : P s) (e : HostEvent) :
    (hostEvent e s).Keeps P := by
  have hc := hasCore_core s
  cases e with
  | nmi => exact hP.takeNmi h
  | softReset =>
    unfold Machine.hostEvent
    simp only []
    split
    · exact hP.ext (hP.takeNmi h) rfl rfl rfl
    · exact h
  | coldReset => exact hP.coldReset h
  | dmaWrite addr bytes => exact hP.keeps h (dmaWrite_core hc addr bytes)
  | dmaRead addr count => exact hP.keeps h (dmaRead_core hc addr count)
  | ddrBitError addr twoBits =>
    unfold Machine.hostEvent ddrBitError
    simp only []
    split
    · exact hP.ext h rfl rfl rfl
    · exact h
  | ddrLock locked =>
    unfold Machine.hostEvent ddrLock
    simp only []
    split <;> exact hP.ext h rfl rfl rfl
  | speculativeFetch pa =>
    refine hP.keeps h ?_
    unfold Machine.hostEvent
    simp only []
    split
    · exact (physRead_core hc pa 4).bind fun _ _ ht => ht
    · exact hc
  | evictData set way => exact hP.keeps h (evictData_core hc _)
  | evictSecondary set way => exact hP.keeps h (evictSecondary_core hc _ _)
  | _ => exact hP.ext h rfl rfl rfl

theorem RegisterInvariant.execClosed (hP : RegisterInvariant P) : ExecClosed P where
  setPc _ _ h := hP.ext h rfl rfl rfl
  writeGpr r v h := hP.ext h (State.writeGpr_zeroth _ r v) (State.writeGpr_cp0 _ r v) (State.writeGpr_fcr31 _ r v)
  setHiLo _ _ h := hP.ext h rfl rfl rfl
  setLlbit _ h := hP.ext h rfl rfl rfl
  setFpr _ _ h := hP.ext h rfl rfl rfl
  setFcr31 v hv h := hP.fcr31 v hv h
  setTlb _ _ h := hP.ext h rfl rfl rfl
  writeCp0 n v h := hP.writeCp0 h n v
  setIndex p i h := hP.cp0 (.index p i) h
  setTags hi lo h := hP.cp0 (.tags hi lo) h
  readTlbEntry h := hP.cp0 (.tlbRead _) h
  takeException e h := hP.setCp0With h rfl rfl (.exception e _ _)
  returnFromException {s} h := by
    unfold Machine.returnFromException
    cases s.erl <;> exact hP.setCp0With h rfl rfl (.eret _)
  translate k va h := hP.keeps h (translate_core (hasCore_core _) k va)
  memRead va n h := hP.keeps h (memRead_core (hasCore_core _) va n)
  memReadPart va first n h := hP.keeps h (memReadPart_core (hasCore_core _) va first n)
  memWrite va n v h := hP.keeps h (memWrite_core (hasCore_core _) va n v)
  memWritePart va first n v h := hP.keeps h (memWritePart_core (hasCore_core _) va first n v)
  memWriteConditional va n v h := hP.keeps h (memWriteConditional_core (hasCore_core _) va n v)
  flushGather h := hP.keeps h (flushGather_core (hasCore_core _))
  setILine _ _ h := hP.ext h rfl rfl rfl
  setDLine _ _ h := hP.ext h rfl rfl rfl
  setSLine _ _ h := hP.ext h rfl rfl rfl
  evictData k h := hP.keeps h (evictData_core (hasCore_core _) k)
  evictSecondary k wb h := hP.keeps h (evictSecondary_core (hasCore_core _) k wb)

theorem RegisterInvariant.stepClosed (hP : RegisterInvariant P) : StepClosed P where
  toExecClosed := hP.execClosed
  fetch h := hP.keeps h (fetch_core (hasCore_core _))
  commit before keepRandom h := hP.commit h before keepRandom
  standBy h := hP.standBy h
  deviceTick h := hP.ext h rfl rfl rfl
  hostEvent e h := hP.hostEvent h e
  record _ _ h := hP.ext h rfl rfl rfl

/-- Every next state of a step has an invariant of the registers that the state before has. -/
theorem RegisterInvariant.step (hP : RegisterInvariant P) {t : State} (h : P s) (ht : step s = .next t) : P t :=
  (hP.stepClosed.step h).next ht

end Registers

end Sys2Proof.Machine
end

section
/-! SUPPORT. The invariants of the registers: the storage behind r0 (R21), the reserved bits of the CP0 registers and of
FCR31 (R29, R33 to R52), and Random at least Wired (R32). -/

namespace Sys2Proof.Machine

/-! ### The storage behind r0 -/

theorem zeroRegister_invariant : RegisterInvariant State.zeroRegister where
  ext h hg _ _ := hg.trans h
  cp0 _ h := h
  fcr31 _ _ h := h
  coldReset _ := rfl

/-! ### Bits outside a mask -/

theorem and_and_not_mask {w : Nat} (v m : BitVec w) : (v &&& m) &&& ~~~m = 0 := by
  ext i
  simp

theorem or_and_not_eq_zero {w : Nat} {a b m : BitVec w} (ha : a &&& ~~~m = 0) (hb : b &&& ~~~m = 0) :
    (a ||| b) &&& ~~~m = 0 := by
  rw [BitVec.and_or_distrib_right, ha, hb]
  simp

theorem and_and_not_eq_zero {w : Nat} {a m : BitVec w} (ha : a &&& ~~~m = 0) (b : BitVec w) :
    (a &&& b) &&& ~~~m = 0 := by
  rw [BitVec.and_assoc, BitVec.and_comm b, ← BitVec.and_assoc, ha]
  simp

/-- The low bits of a value under a mask that leaves them out are those kept from the old value. -/
theorem extractLsb'_masked {w n : Nat} {old v m : BitVec w} (ho : old.extractLsb' 0 n = 0)
    (hm : m.extractLsb' 0 n = 0) : ((v &&& m) ||| (old &&& ~~~m)).extractLsb' 0 n = 0 := by
  simp [BitVec.extractLsb'_or, BitVec.extractLsb'_and, ho, hm]

theorem extractLsb'_append_zero {w n : Nat} (v : BitVec w) :
    (v ++ (0 : BitVec n)).extractLsb' 0 n = 0 := by
  rw [BitVec.extractLsb'_append_eq_right]

/-! ### The registers made of fields (R33, R34, R35, R40, R50) -/

theorem entryHi_fields_reserved (r : BitVec 2) (vpn2 : BitVec 27) (asid : BitVec 8) :
    (r ++ (0 : BitVec 22) ++ vpn2 ++ (0 : BitVec 5) ++ asid : BitVec 64) &&& ~~~entryHiMask = 0 := by
  have hm : ~~~entryHiMask =
      (0 : BitVec 2) ++ BitVec.allOnes 22 ++ (0 : BitVec 27) ++ BitVec.allOnes 5 ++ (0 : BitVec 8) := by decide
  rw [hm, BitVec.and_append, BitVec.and_append, BitVec.and_append, BitVec.and_append]
  simp

theorem entryLoOfPage_reserved (p : TlbPage) (g : Bool) : entryLoOfPage p g &&& ~~~entryLoMask = 0 := by
  have hm : ~~~entryLoMask =
      BitVec.allOnes 2 ++ (0 : BitVec 1) ++ BitVec.allOnes 27 ++ (0 : BitVec 28) ++ (0 : BitVec 3) ++ (0 : BitVec 1) ++
        (0 : BitVec 1) ++ (0 : BitVec 1) := by decide
  unfold entryLoOfPage
  rw [hm]
  iterate 7 rw [BitVec.and_append]
  simp

theorem pageMaskOfEntry_reserved (e : TlbEntry) : pageMaskOfEntry e &&& ~~~pageMaskMask = 0 := by
  have hm : ~~~pageMaskMask = BitVec.allOnes 7 ++ (0 : BitVec 12) ++ BitVec.allOnes 13 := by decide
  unfold pageMaskOfEntry
  rw [hm, BitVec.and_append, BitVec.and_append]
  simp

/-! ### The reserved bits of the CP0 registers -/

/-- What `State.cp0Reserved` says of the CP0 registers. -/
structure Cp0.Reserved (c : Cp0) : Prop where
  entryLo0 : c.entryLo0 &&& ~~~entryLoMask = 0
  entryLo1 : c.entryLo1 &&& ~~~entryLoMask = 0
  context : c.context.extractLsb' 0 4 = 0
  pageMask : c.pageMask &&& ~~~pageMaskMask = 0
  entryHi : c.entryHi &&& ~~~entryHiMask = 0
  status : c.status &&& ~~~statusMask = 0
  watch : c.watch &&& ~~~watchMask = 0
  xcontext : c.xcontext.extractLsb' 0 4 = 0
  diagnostic : c.diagnostic &&& ~~~diagnosticMask = 0
  perfControl : c.perfControl &&& ~~~perfControlMask = 0

theorem cp0Reserved_iff (s : State) : s.cp0Reserved ↔ s.cp0.Reserved :=
  ⟨fun ⟨h1, h2, h3, h4, h5, h6, h7, h8, h9, h10⟩ => ⟨h1, h2, h3, h4, h5, h6, h7, h8, h9, h10⟩,
    fun ⟨h1, h2, h3, h4, h5, h6, h7, h8, h9, h10⟩ => ⟨h1, h2, h3, h4, h5, h6, h7, h8, h9, h10⟩⟩

theorem Cp0.Reserved.write {c : Cp0} (h : c.Reserved) (n : Reg) (v : Dword) : (c.write n v).Reserved := by
  unfold Cp0.write
  split
  case h_2 => exact { h with entryLo0 := and_and_not_mask _ _ }
  case h_3 => exact { h with entryLo1 := and_and_not_mask _ _ }
  case h_4 => exact { h with context := extractLsb'_masked h.context (by decide) }
  case h_5 => exact { h with pageMask := and_and_not_mask _ _ }
  case h_8 => exact { h with entryHi := and_and_not_mask _ _ }
  case h_10 => exact { h with status := and_and_not_mask _ _ }
  case h_14 => exact { h with watch := and_and_not_mask _ _ }
  case h_15 => exact { h with xcontext := extractLsb'_masked h.xcontext (by decide) }
  case h_16 => exact { h with diagnostic := and_and_not_mask _ _ }
  case h_17 => exact { h with perfControl := and_and_not_mask _ _ }
  all_goals exact { h with }

theorem Cp0.Reserved.recordAddress {c : Cp0} (h : c.Reserved) (e : Exc) : (e.recordAddress c).Reserved := by
  have ht : ∀ (d : Cp0) (va : Dword), d.Reserved → Cp0.Reserved { d with
      context := contextFor d.context va
      xcontext := xcontextFor d.xcontext va
      entryHi := entryHiFor d.entryHi va } := fun d va hd =>
    { hd with
      context := extractLsb'_append_zero _
      xcontext := extractLsb'_append_zero _
      entryHi := entryHi_fields_reserved _ _ _ }
  unfold Exc.recordAddress
  cases e.badAddress <;> cases e.tlbAddress
  · exact h
  · exact ht _ _ h
  · exact { h with }
  · exact ht _ _ { h with }

theorem Cp0.Reserved.moves {c d : Cp0} (h : c.Reserved) (hm : Cp0Moves c d) : d.Reserved := by
  cases hm with
  | write n v => exact h.write n v
  | tlbRead e =>
    exact { h with
      pageMask := pageMaskOfEntry_reserved e
      entryHi := entryHi_fields_reserved _ _ _
      entryLo0 := entryLoOfPage_reserved _ _
      entryLo1 := entryLoOfPage_reserved _ _ }
  | exception e epc cause =>
    have hr := h.recordAddress e
    exact { hr with status := or_and_not_eq_zero hr.status (by decide) }
  | eret bits => exact { h with status := and_and_not_eq_zero h.status bits }
  | nmi errorEpc badVAddr => exact { h with status := or_and_not_eq_zero h.status (by decide) }
  | _ => exact { h with }

theorem Cp0.Reserved.reset : Cp0.reset.Reserved := by
  constructor <;> decide

theorem fcr31Reserved_reset : (0 : Word) &&& ~~~fcr31Mask = 0 := by decide

theorem reserved_invariant : RegisterInvariant fun s => s.cp0.Reserved ∧ s.fcr31Reserved where
  ext h _ hc hf := by rwa [State.fcr31Reserved, hc, hf]
  cp0 hm h := ⟨h.1.moves hm, h.2⟩
  fcr31 _ hv h := ⟨h.1, hv.elim (fun hv => hv.trans h.2) id⟩
  coldReset _ := ⟨{ Cp0.Reserved.reset with }, fcr31Reserved_reset⟩

/-! ### Random -/

theorem wired_le_63 (wired : BitVec 6) : wired ≤ 63 := by bv_omega

theorem le_nextRandom (random wired : BitVec 6) : wired ≤ nextRandom random wired := by
  unfold nextRandom
  split
  · exact wired_le_63 _
  · next h => bv_omega

theorem randomInRange_moves {c d : Cp0} (h : c.wired ≤ c.random) (hm : Cp0Moves c d) : d.wired ≤ d.random := by
  cases hm with
  | write n v =>
    unfold Cp0.write
    split
    case h_6 => exact wired_le_63 _
    all_goals exact h
  | exception e epc cause =>
    unfold Exc.recordAddress
    cases e.badAddress <;> cases e.tlbAddress <;> exact h
  | random => exact le_nextRandom _ _
  | _ => exact h

theorem randomInRange_invariant : RegisterInvariant State.randomInRange where
  ext h _ hc _ := by rwa [State.randomInRange, hc]
  cp0 hm h := randomInRange_moves h hm
  fcr31 _ _ h := h
  coldReset _ := wired_le_63 0

/-! ### TLBWR (R443) -/

/-- From Random at least Wired, TLBWR leaves the wired entries as they were. -/
theorem execTlbwr_wired {s t : State} (h : s.randomInRange) (ht : exec .tlbwr s = .next t) (i : Fin 64)
    (hi : i.val < s.cp0.wired.toNat) : t.tlb[i] = s.tlb[i] := by
  have hx : ∀ e, (takeException e s).tlb[i] = s.tlb[i] := fun _ => rfl
  have hw : ∀ e, (s.setTlb s.cp0.random e).advance.tlb[i] = s.tlb[i] := fun e => by
    have hn : s.cp0.random.toNat ≠ i.val := by
      have hr : s.cp0.wired.toNat ≤ s.cp0.random.toNat := h
      omega
    exact Vector.getElem_set_ne s.cp0.random.isLt i.isLt hn
  have hk : NextKeeps (fun u => u.tlb[i] = s.tlb[i]) (execTlbwr s) := by
    unfold execTlbwr cp0Instruction writeTlbEntry
    rcases checkCp0_cases s with ⟨_, hc⟩ | ⟨_, _, hc⟩ | ⟨_, _, hc⟩ <;> rw [hc]
    · simp only [Res.bind_ok]
      split
      · exact hw _
      · trivial
    · exact hx _
    · trivial
  exact hk.next ht

end Sys2Proof.Machine
end

section
/-! The invariants of the registers that every step keeps: `ZeroRegisterKept`, `ReservedBitsKept` and
`RandomInRangeKept`. -/

namespace Sys2Proof.Machine

/-- Settles O10, from the laws of register reads and writes and the invariant of the storage behind r0. -/
theorem zeroRegisterKept : Obligations.ZeroRegisterKept := by
  refine ⟨fun s => ⟨State.readGpr_zero s, State.writeGpr_zero s⟩, fun s r v hr => ?_, fun s t h ht => ?_⟩
  · exact ⟨State.readGpr_writeGpr_same s hr v, fun q hq => State.readGpr_writeGpr_other s hq v⟩
  · exact zeroRegister_invariant.step h ht

/-- Settles O11, from the invariant of the reserved bits of CP0 and FCR31. -/
theorem reservedBitsKept : Obligations.ReservedBitsKept := by
  intro s t hc hf ht
  obtain ⟨hct, hft⟩ := reserved_invariant.step ⟨(cp0Reserved_iff s).mp hc, hf⟩ ht
  exact ⟨(cp0Reserved_iff t).mpr hct, hft⟩

/-- Settles O12, from the invariant of Random and the meaning of TLBWR. -/
theorem randomInRangeKept : Obligations.RandomInRangeKept :=
  ⟨fun _ _ h ht => randomInRange_invariant.step h ht, fun _ _ h ht i hi => execTlbwr_wired h ht i hi⟩

end Sys2Proof.Machine
end

section
/-! The implementation register FCR0 (R28) and the state after reset (R90): `ImplementationRegister` and
`ResetState`. -/

namespace Sys2Proof.Machine

/-! ### The implementation register -/

/-- CFC1 of FCR0 with CU1 = 1 sets its register to the implementation word (R28). -/
theorem cfc1_zero_setsRegister {s : State} (h : s.cu 1 = true) (rt : Reg) : SetsRegister (.cfc1 rt 0) s rt 0x501 := by
  have he : exec (.cfc1 rt 0) s = .next (s.writeGpr rt 0x501).advance := by
    show execCfc1 rt 0 s = _
    rw [execCfc1, fpInstruction_eq, if_pos h]
    rfl
  refine ⟨_, he, fun r => State.readGpr_writeGpr s rt r _, ⟨?_, ?_⟩, ?_, rfl⟩
  · unfold State.writeGpr
    split <;> rfl
  · unfold SameMemory State.iLine State.dLine State.sLine
    simp
  · simp

/-- CTC1 to FCR0 with CU1 = 1 only goes on (R28). -/
theorem exec_ctc1_zero {s : State} (h : s.cu 1 = true) (rt : Reg) : exec (.ctc1 rt 0) s = .next s.advance := by
  show execCtc1 rt 0 s = _
  rw [execCtc1, fpInstruction_eq, if_pos h]
  rfl

/-- Settles O56, by running CFC1 and CTC1 on FCR0. -/
theorem implementationRegister : Obligations.ImplementationRegister := by
  intro s rt rd h
  refine ⟨⟨0x501, rfl, by decide, by decide, by decide, cfc1_zero_setsRegister h rt⟩, s.advance,
    exec_ctc1_zero h rt, ?_, ⟨rfl, rfl⟩, cfc1_zero_setsRegister (s := s.advance) h rd⟩
  exact ⟨rfl, fun _ => rfl, fun _ => rfl, fun _ => rfl, fun _ => rfl, fun _ => rfl⟩

/-! ### The state after reset -/

theorem resetWith_reg (p : Config.Params) (n : Fin 64) : (State.resetWith p).reg n = regReset p n.val := by
  simp [State.reg, Io.reset]

theorem resetWith_header (p : Config.Params) (n : Fin 64) : (State.resetWith p).header n = headerReset n.val := by
  simp [State.header, Io.reset]

/-- Two fields below a byte of zeros, as the shifted word they make. -/
theorem zero_append_append (a : BitVec 8) (b : BitVec 16) :
    (0 : BitVec 8) ++ a ++ b = a.setWidth 32 <<< 16 ||| b.setWidth 32 := by
  refine BitVec.eq_of_getLsbD_eq fun i hi => ?_
  rw [BitVec.getLsbD_append, BitVec.getLsbD_append]
  by_cases h : i < 16
  · simp [h]
    omega
  · have hb : b.getLsbD i = false := BitVec.getLsbD_of_ge b i (by omega)
    have ha : i - 16 < 8 ∨ a.getLsbD (i - 16) = false := by
      rcases Nat.lt_or_ge (i - 16) 8 with hl | hl
      · exact .inl hl
      · exact .inr (BitVec.getLsbD_of_ge a _ hl)
    have h32 : i < 32 := hi
    rcases ha with ha | ha <;> simp [h, h32, ha, hb]

theorem setWidth_extractLsb'_zero_one (a : BitVec 8) : (a.extractLsb' 0 1).setWidth 32 = (a &&& 1).setWidth 32 := by
  ext i hi
  simp [Bool.and_comm]

/-- The register that shows the strap pins (R730). -/
theorem regReset_straps (p : Config.Params) :
    regReset p 0 = Config.pciConfigPins.setWidth 32 <<< 16 ||| Config.lioAdPins.setWidth 32 :=
  zero_append_append _ _

/-- LIOCfg takes a bit from a strap pin (R720). -/
theorem regReset_lioCfg (p : Config.Params) :
    regReset p 2 = 0x1F7C ||| ((Config.pciConfigPins &&& 1).setWidth 32 <<< 7) := by
  rw [← setWidth_extractLsb'_zero_one]
  rfl

/-- The registers that hold 0 after reset. -/
theorem regReset_zero (p : Config.Params) {n : Fin 64}
    (h : n ∈ [1, 4, 6, 7, 14, 27, 40, 41, 42, 43, 44, 45, 46, 47, 48, 49, 50, 51]) : regReset p n.val = 0 := by
  revert n
  simp [regReset]

theorem headerReset_zero {n : Fin 64} (h : n ∈ [4, 5, 6, 7, 8, 9, 16, 18, 20, 21, 22]) :
    headerReset n.val = 0 := by
  revert n
  simp [headerReset]

theorem resetWith_ddrCtl (p : Config.Params) (n : Fin 29) : (State.resetWith p).ddrCtl n =
    if n = 5 then 0x0000000400000000 else if n = 7 then 0x0F0E000000000000
    else if n = 20 then 0x0000204100000000 else 0 := by
  show Ddr.reset.ctl[n] = _
  revert n
  decide


/-- The invariants hold after reset. -/
theorem resetWith_invariants (p : Config.Params) :
    (State.resetWith p).canonical ∧ (State.resetWith p).zeroRegister ∧ (State.resetWith p).cp0Reserved ∧
      (State.resetWith p).fcr31Reserved ∧ (State.resetWith p).randomInRange :=
  ⟨⟨rfl, rfl, rfl, rfl, rfl, rfl⟩, rfl, (cp0Reserved_iff _).mpr Cp0.Reserved.reset, fcr31Reserved_reset,
    wired_le_63 0⟩

/-- CP0 after reset: the stated words, kernel mode, no interrupts. -/
theorem resetWith_cp0_values (p : Config.Params) :
    let r := State.resetWith p
    r.cp0.status = 0x30400004 ∧ r.cp0.configWord = 0x00030932 ∧ r.cp0.random = 63 ∧ r.cp0.wired = 0 ∧
      r.cp0.perfControl.extractLsb' 5 8 = (0 : BitVec 8) ∧ r.mode = some .kernel ∧ r.interruptsEnabled = false := by
  have he : (State.resetWith p).erl = true := (by decide : Cp0.reset.status.getLsbD 2 = true)
  refine ⟨rfl, (by decide : Cp0.reset.configWord = _), rfl, rfl,
    (by decide : Cp0.reset.perfControl.extractLsb' 5 8 = _), ?_, ?_⟩
  · simp [State.mode, he]
  · simp [State.interruptsEnabled, he]

/-- Settles O1, from the values after reset, block by block. -/
theorem resetState : Obligations.ResetState := by
  refine ⟨rfl, fun p => ?_⟩
  simp only [resetWith_reg, resetWith_header]
  exact ⟨⟨rfl, rfl, rfl⟩, resetWith_cp0_values p, rfl, rfl, resetWith_ddrCtl p, rfl,
    fun _ => headerReset_zero, rfl, regReset_straps p, regReset_lioCfg p, rfl, fun _ => regReset_zero p,
    ⟨rfl, rfl, rfl, rfl⟩, by simp [regReset], by simp [regReset], ⟨rfl, rfl, rfl, rfl⟩, rfl,
    resetWith_invariants p⟩

end Sys2Proof.Machine
end

section
/-! What `commit` advances, register by register and device by device: `CommitAdvancesClocks`. -/

namespace Sys2Proof.Machine

/-! ### CP0 after the count -/

/-- The occurrences that the counters add, none while they do not count. -/
theorem counted_cp0 (before s : State) (keepRandom : Bool) :
    (counted before s keepRandom).cp0 =
      let c := (s.randomCp0 keepRandom).countCycles (Config.cycles s.stamp)
      if before.perfCounting then { c with
        perf0 := s.cp0.perf0 + s.event0 (before.cp0.perfControl.extractLsb' 5 4) (Config.cycles s.stamp)
        perf1 := s.cp0.perf1 + s.event1 (before.cp0.perfControl.extractLsb' 9 4) }
      else c := by
  unfold counted State.countEvents State.randomCp0
  cases before.perfCounting <;> cases (s.taken.isSome || keepRandom) <;> rfl

/-- Counting changes Random, Count, the timer request and the performance counters. -/
theorem counted_cp0_frame (before s : State) (keepRandom : Bool) :
    let c := (counted before s keepRandom).cp0
    c = { s.cp0 with
      random := c.random
      count := c.count
      countPhase := c.countPhase
      perf0 := c.perf0
      perf1 := c.perf1
      cause := { s.cp0.cause with timer := c.cause.timer } } := by
  rw [counted_cp0]
  unfold State.randomCp0
  cases before.perfCounting <;> cases (s.taken.isSome || keepRandom) <;> rfl

theorem counted_random (before s : State) (keepRandom : Bool) :
    (counted before s keepRandom).cp0.random =
      if s.taken ≠ none ∨ keepRandom = true then s.cp0.random
      else if s.cp0.random ≤ s.cp0.wired then 63 else s.cp0.random - 1 := by
  have hr : (counted before s keepRandom).cp0.random = (s.randomCp0 keepRandom).random := by
    rw [counted_cp0]
    cases before.perfCounting <;> rfl
  rw [hr]
  unfold State.randomCp0 nextRandom
  cases s.taken <;> cases keepRandom <;> rfl

/-- Counting `n` times passes Compare exactly when one of the values counted to is Compare (R38, R39). -/
theorem passes_iff (count compare : Word) (n : Nat) :
    passes count compare n = true ↔ ∃ k, 1 ≤ k ∧ k ≤ n ∧ count + BitVec.ofNat 32 k = compare := by
  unfold passes
  rw [decide_eq_true_eq]
  constructor
  · intro h
    refine ⟨(compare - count - 1).toNat + 1, by omega, h, ?_⟩
    bv_omega
  · rintro ⟨k, h1, hk, rfl⟩
    have hs : count + BitVec.ofNat 32 k - count - 1 = BitVec.ofNat 32 (k - 1) := by bv_omega
    rw [hs, BitVec.toNat_ofNat]
    exact lt_of_le_of_lt (Nat.mod_le _ _) (by omega)

/-- Count counts every second cycle and requests the timer interrupt when it passes Compare (R38, R39). -/
theorem countCycles_spec (c : Cp0) (cycles : Nat) :
    let d := c.countCycles cycles
    ∃ n : Nat, 2 * n + d.countPhase.toNat = cycles + c.countPhase.toNat ∧
      d.count = c.count + BitVec.ofNat 32 n ∧
      (d.cause.timer = true ↔
        c.cause.timer = true ∨ ∃ k, 1 ≤ k ∧ k ≤ n ∧ c.count + BitVec.ofNat 32 k = c.compare) := by
  have hp : (if c.countPhase then 1 else 0) = c.countPhase.toNat := by cases c.countPhase <;> rfl
  refine ⟨(cycles + c.countPhase.toNat) / 2, ?_, ?_, ?_⟩
  · have hm : ∀ m : Nat, (m % 2 == 1).toNat = m % 2 := fun m => by
      rcases Nat.mod_two_eq_zero_or_one m with h | h <;> rw [h] <;> rfl
    simp only [Cp0.countCycles, hp, hm]
    omega
  · simp only [Cp0.countCycles, hp]
  · simp only [Cp0.countCycles, hp, Bool.or_eq_true, passes_iff]

theorem counted_count (before s : State) (keepRandom : Bool) :
    let c := (counted before s keepRandom).cp0
    ∃ n : Nat, 2 * n + c.countPhase.toNat = Config.cycles s.stamp + s.cp0.countPhase.toNat ∧
      c.count = s.cp0.count + BitVec.ofNat 32 n ∧
      (c.cause.timer = true ↔
        s.cp0.cause.timer = true ∨ ∃ k, 1 ≤ k ∧ k ≤ n ∧ s.cp0.count + BitVec.ofNat 32 k = s.cp0.compare) := by
  have h := countCycles_spec s.cp0 (Config.cycles s.stamp)
  rw [counted_cp0]
  unfold State.randomCp0
  cases before.perfCounting <;> cases (s.taken.isSome || keepRandom) <;> exact h

/-! ### The performance counters (R52 to R55) -/

/-- When the counters count: ERL is 0 and the qualifier of the mode is set. -/
theorem perfCounting_iff (s : State) :
    s.perfCounting = true ↔ s.erl = false ∧
      ((s.exl = true ∧ s.cp0.perfControl.getLsbD 0 = true) ∨
        (s.exl = false ∧ ((s.ksu = 0 ∧ s.cp0.perfControl.getLsbD 1 = true) ∨
          (s.ksu = 1 ∧ s.cp0.perfControl.getLsbD 2 = true) ∨ (s.ksu = 2 ∧ s.cp0.perfControl.getLsbD 3 = true)))) := by
  simp [State.perfCounting, or_assoc]

theorem tookException_eq (e : Option Exc) : tookException e = if e = none then 0 else 1 := by
  cases e <;> rfl

/-- Event 13 of counter 0 is a TLB refill. -/
theorem event0_refill (s : State) (cycles : Nat) :
    (∀ store va, s.taken = some (.tlbRefill store va) → s.event0 13 cycles = 1) ∧
      ((∀ store va, s.taken ≠ some (.tlbRefill store va)) → s.event0 13 cycles = 0) := by
  have he : s.event0 13 cycles = if (s.taken.map Exc.isRefill).getD false then 1 else 0 := rfl
  rw [he]
  rcases s.taken with _ | e
  · simp
  · cases e <;> simp [Exc.isRefill]

theorem counted_perf_kept {before : State} (s : State) (keepRandom : Bool) (h : before.perfCounting = false) :
    (counted before s keepRandom).cp0.perf0 = s.cp0.perf0 ∧
      (counted before s keepRandom).cp0.perf1 = s.cp0.perf1 := by
  rw [counted_cp0, h]
  unfold State.randomCp0
  cases (s.taken.isSome || keepRandom) <;> exact ⟨rfl, rfl⟩

theorem counted_perf0 {before : State} (s : State) (keepRandom : Bool) (h : before.perfCounting = true) :
    (counted before s keepRandom).cp0.perf0 =
      s.cp0.perf0 + s.event0 (before.cp0.perfControl.extractLsb' 5 4) (Config.cycles s.stamp) := by
  rw [counted_cp0, h]
  rfl

theorem counted_perf1 {before : State} (s : State) (keepRandom : Bool) (h : before.perfCounting = true) :
    (counted before s keepRandom).cp0.perf1 =
      s.cp0.perf1 + s.event1 (before.cp0.perfControl.extractLsb' 9 4) := by
  rw [counted_cp0, h]
  rfl

/-! ### The DDR2 initialisation (R774) -/

/-- Initialisation ends with the memory ready, the DLL locked and cause 8 set. -/
theorem ddrInitDone_spec (s : State) :
    s.ddrInitDone.ddr.ready = true ∧ s.ddrInitDone.ddr.initLeft = none ∧
      (s.ddrInitDone.ddrCtl 1).getLsbD 0 = true ∧ (s.ddrInitDone.ddrCtl 16).getLsbD 56 = true := by
  refine ⟨rfl, rfl, ?_, ?_⟩
  · simp [State.ddrInitDone, State.ddrDllLock, State.ddrDelayElements, State.ddrField, State.ddrCtl]
  · simp [State.ddrInitDone, State.ddrDllLock, State.ddrDelayElements, State.ddrField, State.ddrCtl]

/-- The store that sets START is not counted. -/
theorem ddrCount_of_start {before s : State} (hb : before.ddrStartBit = false) (hs : s.ddrStartBit = true) :
    State.ddrCount before s = s := by
  simp [State.ddrCount, hb, hs]

theorem ddrCount_of_not_start {before s : State} (h : before.ddrStartBit = true ∨ s.ddrStartBit = false) :
    State.ddrCount before s = s.ddrTick := by
  rcases h with h | h <;> simp [State.ddrCount, h]

/-- While no initialisation is under way nothing is counted. -/
theorem ddrCount_of_idle (before : State) {s : State} (h : s.ddr.initLeft = none) : State.ddrCount before s = s := by
  unfold State.ddrCount State.ddrTick
  rw [h]
  split <;> rfl

/-- The initialisation does not look at CP0. -/
theorem ddrCount_setCp0 (before s : State) (c : Cp0) :
    State.ddrCount before (s.setCp0 c) = (State.ddrCount before s).setCp0 c := by
  have ht : (s.setCp0 c).ddrTick = s.ddrTick.setCp0 c := by
    unfold State.ddrTick
    rw [State.setCp0_ddr]
    cases s.ddr.initLeft with
    | none => rfl
    | some n => cases n <;> rfl
  unfold State.ddrCount
  rw [ht]
  show (if !before.ddrStartBit && s.ddrStartBit then _ else _) = _
  split <;> rfl

/-! ### The boundary as a whole -/

/-- The state after an instruction: CP0 counted, the DDR2 initialisation, the record of the boundary, the devices. -/
theorem commit_eq (before s : State) (keepRandom : Bool) :
    commit before s keepRandom = State.deviceTick { s with
      cp0 := (counted before s keepRandom).cp0
      ddr := (State.ddrCount before s).ddr
      irqHeld := State.irqHeldAfter before s
      events := tickEvents s.events } := by
  have hc : State.ddrCount before (counted before s keepRandom) =
      (State.ddrCount before s).setCp0 (counted before s keepRandom).cp0 := by
    rw [← ddrCount_setCp0, ← counted_eq]
  rw [commit_eq_counted, hc, ddrCount_eq]
  rfl

@[simp] theorem commit_cp0 (before s : State) (keepRandom : Bool) :
    (commit before s keepRandom).cp0 = (counted before s keepRandom).cp0 := by
  rw [commit_eq]
  rfl

@[simp] theorem commit_ddr (before s : State) (keepRandom : Bool) :
    (commit before s keepRandom).ddr = (State.ddrCount before s).ddr := by
  rw [commit_eq]
  rfl

@[simp] theorem commit_events (before s : State) (keepRandom : Bool) :
    (commit before s keepRandom).events = tickEvents s.events := by
  rw [commit_eq]
  rfl

theorem commit_irqHeld (before s : State) (keepRandom : Bool) :
    (commit before s keepRandom).irqHeld =
      if before.interruptPending = true ∧ s.taken ≠ some .interrupt then before.irqHeld + 1 else 0 := by
  rw [commit_eq]
  show State.irqHeldAfter before s = _
  simp [State.irqHeldAfter]

/-- The pulse latches take the lines that have just become active (R742). -/
theorem commit_io (before s : State) (keepRandom : Bool) :
    let after := commit before s keepRandom
    after.io = { s.io with
      pulse := s.io.pulse ||| (after.activeLines &&& ~~~s.io.lastActive &&& (s.reg 9).extractLsb' 0 15)
      lastActive := after.activeLines } := by
  rw [commit_eq]
  rfl

theorem commit_lines (before s : State) (keepRandom : Bool) (i : Nat) (hi : i < 15) :
    let after := commit before s keepRandom
    after.io.lastActive.getLsbD i = after.activeLines.getLsbD i ∧
      (after.io.pulse.getLsbD i = true ↔ s.io.pulse.getLsbD i = true ∨
        ((s.reg 9).getLsbD i = true ∧ after.activeLines.getLsbD i = true ∧ s.io.lastActive.getLsbD i = false)) := by
  intro after
  have h : after.io = _ := commit_io before s keepRandom
  refine ⟨by rw [h], ?_⟩
  rw [h]
  simp [hi]
  tauto

theorem commit_frame (before s : State) (keepRandom : Bool) :
    let after := commit before s keepRandom
    after = { s with
      ddr := after.ddr
      io := { s.io with pulse := after.io.pulse, lastActive := after.io.lastActive }
      stamp := s.stamp + 1
      irqHeld := after.irqHeld
      events := after.events
      cp0 := { s.cp0 with
        random := after.cp0.random
        count := after.cp0.count
        countPhase := after.cp0.countPhase
        perf0 := after.cp0.perf0
        perf1 := after.cp0.perf1
        cause := { s.cp0.cause with timer := after.cp0.cause.timer } } } := by
  intro after
  have hc : after.cp0 = _ := (commit_cp0 before s keepRandom).trans (counted_cp0_frame before s keepRandom)
  rw [← commit_cp0] at hc
  rw [← hc]
  have hu : ∀ u, u = State.deviceTick { s with
      cp0 := (counted before s keepRandom).cp0
      ddr := (State.ddrCount before s).ddr
      irqHeld := State.irqHeldAfter before s
      events := tickEvents s.events } → u = { s with
      ddr := u.ddr
      io := { s.io with pulse := u.io.pulse, lastActive := u.io.lastActive }
      stamp := s.stamp + 1
      irqHeld := u.irqHeld
      events := u.events
      cp0 := u.cp0 } := by
    rintro _ rfl
    rfl
  exact hu _ (commit_eq before s keepRandom)

/-! ### The statement -/

/-- The counters after a step in which they count, for the events that the model fixes. -/
theorem commit_counters {before : State} (s : State) (keepRandom : Bool) (h : before.perfCounting = true) :
    let after := commit before s keepRandom
    let event0 : BitVec 4 := before.cp0.perfControl.extractLsb' 5 4
    let event1 : BitVec 4 := before.cp0.perfControl.extractLsb' 9 4
    (event0 = 0 → after.cp0.perf0 = s.cp0.perf0 + BitVec.ofNat 32 (Config.cycles s.stamp)) ∧
    (event0 = 13 →
      (∀ store va, s.taken = some (.tlbRefill store va) → after.cp0.perf0 = s.cp0.perf0 + 1) ∧
      ((∀ store va, s.taken ≠ some (.tlbRefill store va)) → after.cp0.perf0 = s.cp0.perf0)) ∧
    (event0 = 14 → after.cp0.perf0 = s.cp0.perf0 + if s.taken = none then 0 else 1) ∧
    (event1 = 0 → after.cp0.perf1 = s.cp0.perf1 + if s.taken = none then 1 else 0) ∧
    (event1 = 13 → after.cp0.perf1 = s.cp0.perf1 + if s.taken = none then 0 else 1) := by
  intro after event0 event1
  have h0 : after.cp0.perf0 = s.cp0.perf0 + s.event0 event0 (Config.cycles s.stamp) := by
    rw [commit_cp0, counted_perf0 s keepRandom h]
  have h1 : after.cp0.perf1 = s.cp0.perf1 + s.event1 event1 := by
    rw [commit_cp0, counted_perf1 s keepRandom h]
  obtain ⟨hr, hn⟩ := event0_refill s (Config.cycles s.stamp)
  refine ⟨fun e => ?_, fun e => ⟨fun store va ht => ?_, fun ht => ?_⟩, fun e => ?_, fun e => ?_, fun e => ?_⟩
  · rw [h0, e]
    rfl
  · rw [h0, e, hr store va ht]
  · rw [h0, e, hn ht]
    simp
  · rw [h0, e, ← tookException_eq]
    rfl
  · rw [h1, e]
    show _ + (1 - tookException s.taken) = _
    rw [tookException_eq]
    split <;> rfl
  · rw [h1, e, ← tookException_eq]
    rfl

/-- The DDR2 controller after a step: nothing to count, or one instruction of the initialisation. -/
theorem commit_initialisation {before : State} (s : State) (keepRandom : Bool)
    (h : before.ddrStartBit = true ∨ s.ddrStartBit = false) :
    let after := commit before s keepRandom
    (∀ n, s.ddr.initLeft = some (n + 1) → after.ddr = { s.ddr with initLeft := some n }) ∧
      (s.ddr.initLeft = some 0 →
        after.ddr.ready = true ∧ after.ddr.initLeft = none ∧ (after.ddrCtl 1).getLsbD 0 = true ∧
        (after.ddrCtl 16).getLsbD 56 = true) := by
  intro after
  have hd : after.ddr = s.ddrTick.ddr := by rw [commit_ddr, ddrCount_of_not_start h]
  unfold State.ddrCtl
  rw [hd]
  unfold State.ddrTick
  refine ⟨fun n hn => ?_, fun hn => ?_⟩ <;> rw [hn]
  exact ddrInitDone_spec s

/-- Settles O7, from what `commit` does to each register and device. -/
theorem commitAdvancesClocks : Obligations.CommitAdvancesClocks := by
  intro before s keepRandom after control counting
  have hcount : before.perfCounting = true ↔ counting := perfCounting_iff before
  refine ⟨?_, ?_, commit_irqHeld before s keepRandom, ?_, fun h => ?_, fun h => ?_,
    fun i hi => commit_lines before s keepRandom i hi, fun h => ?_, fun hb hs => ?_,
    fun h => commit_initialisation s keepRandom h, commit_frame before s keepRandom⟩
  · rw [commit_cp0]
    exact counted_count before s keepRandom
  · rw [commit_cp0]
    exact counted_random before s keepRandom
  · rw [commit_events]
    cases s.events <;> rfl
  · rw [commit_cp0]
    exact counted_perf_kept s keepRandom (Bool.eq_false_iff.mpr fun hp => h (hcount.mp hp))
  · exact commit_counters s keepRandom (hcount.mpr h)
  · rw [commit_ddr, ddrCount_of_idle before h]
  · rw [commit_ddr, ddrCount_of_start hb hs]

end Sys2Proof.Machine
end

section
/-! The canonical form of memory, BOOT_ROM, the caches and the bit errors, which every step keeps: `CanonicalKept`. -/

namespace Sys2Proof.Machine

variable {s : State}

/-! ### Requests of PCI masters -/

theorem dmaReadIo_canonical (h : s.canonical) (b a n : Nat) : (dmaReadIo s b a n).Keeps State.canonical := by
  have part : ∀ (t : State) (b a n : Nat), t.canonical →
      (masterOnly t ((ioRead t a n).bind fun bytes s => .ok () (s.log (.dmaData b bytes)))).Keeps State.canonical :=
    fun t _ a n ht => masterOnly_canonical ht
      ((ioRead_canonical ht a n).bind fun _ _ hu => hu.congr rfl rfl rfl rfl rfl rfl)
  unfold dmaReadIo
  simp only []
  split
  · exact (part s _ _ _ h).bind fun _ t ht => part t _ _ _ ht
  · exact part s _ _ _ h

theorem dmaReadBeat_canonical (h : s.canonical) (addr n : Nat) :
    (dmaReadBeat s addr n).Keeps State.canonical := by
  have h1 := acceptDma_canonical h (BitVec.ofNat 64 addr)
  unfold dmaReadBeat
  simp only []
  split
  · exact h
  · split
    · unfold dmaReadDdr
      split
      · exact (ddrPortAccessRead_canonical h1 _ _).bind fun _ _ ht => ht.congr rfl rfl rfl rfl rfl rfl
      · exact arriveBeat_canonical h1 _
    · exact dmaReadIo_canonical h1 _ _ _
    · trivial
    · exact h1.congr rfl rfl rfl rfl rfl rfl

theorem dmaRead_canonical (h : s.canonical) (addr count : Nat) :
    (dmaRead s addr count).Keeps State.canonical :=
  dmaReadBeats_keeps (fun _ a n ht => dmaReadBeat_canonical ht a n) _ h addr count

/-! ### Every instruction -/

theorem writeCp0_canonical (h : s.canonical) (n : Reg) (v : Dword) : (s.writeCp0 n v).canonical := by
  unfold State.writeCp0
  simp only []
  split <;> exact h.congr rfl rfl rfl rfl rfl rfl

/-- The shared operations of the instructions keep the canonical form. -/
theorem canonical_execClosed : ExecClosed State.canonical where
  setPc _ _ h := h
  writeGpr r v h := h.writeGpr r v
  setHiLo _ _ h := h
  setLlbit _ h := h
  setFpr _ _ h := h
  setFcr31 _ _ h := h
  setTlb _ _ h := h
  writeCp0 n v h := writeCp0_canonical h n v
  setIndex _ _ h := h
  setTags _ _ h := h
  readTlbEntry h := h
  takeException _ h := h
  returnFromException h := h
  translate k va h := translate_canonical h k va
  memRead va n h := memRead_canonical h va n
  memReadPart va first n h := memReadPart_canonical h va first n
  memWrite va n v h := memWrite_canonical h va n v
  memWritePart va first n v h := memWritePart_canonical h va first n v
  memWriteConditional va n v h := memWriteConditional_canonical h va n v
  flushGather h := flushGather_canonical h
  setILine k l h := h.setILine k l
  setDLine k l h := h.setDLine k l
  setSLine k l h := h.setSLine k l
  evictData k h := evictData_canonical h k
  evictSecondary k wb h := evictSecondary_canonical h k wb

/-! ### The boundary after an instruction and the events from outside -/

theorem ddrCount_canonical (before : State) (h : s.canonical) : (State.ddrCount before s).canonical := by
  unfold State.ddrCount State.ddrTick
  split
  · exact h
  · split
    · exact h
    · exact ddrInitDone_canonical h
    · exact h.withDdr rfl

theorem counted_canonical (before : State) (h : s.canonical) (keepRandom : Bool) :
    (counted before s keepRandom).canonical := by
  unfold counted State.countEvents
  split <;> exact h

theorem commit_canonical (before : State) (h : s.canonical) (keepRandom : Bool) :
    (commit before s keepRandom).canonical := by
  rw [commit_eq_counted]
  exact ddrCount_canonical before (counted_canonical before h keepRandom)

theorem standBy_canonical (h : s.canonical) : (standBy s).canonical := by
  unfold standBy
  simp only []
  split <;> exact h

theorem ddrBitError_canonical (h : s.canonical) (a : Nat) (twoBits : Bool) :
    (ddrBitError s a twoBits).canonical := by
  obtain ⟨-, -, -, -, -, hflips⟩ := id h
  unfold ddrBitError
  split
  · exact h.withFlips (cellSet_wf 0 hflips _ _)
  · exact h

/-- A cold reset empties memory, the caches and the bit errors, and keeps BOOT_ROM. -/
theorem coldReset_canonical (h : s.canonical) : (coldReset s).canonical := by
  obtain ⟨-, hrom, -⟩ := h
  exact ⟨rfl, hrom, rfl, rfl, rfl, rfl⟩

theorem hostEvent_canonical (h : s.canonical) (e : HostEvent) : (hostEvent e s).Keeps State.canonical := by
  cases e with
  | softReset =>
    unfold hostEvent
    simp only []
    split <;> exact h
  | coldReset => exact coldReset_canonical h
  | dmaWrite addr bytes => exact dmaWrite_canonical h addr bytes
  | dmaRead addr count => exact dmaRead_canonical h addr count
  | ddrBitError addr twoBits => exact ddrBitError_canonical h addr twoBits
  | ddrLock locked =>
    unfold hostEvent ddrLock
    simp only []
    split <;> exact h
  | speculativeFetch pa =>
    unfold hostEvent
    simp only []
    split
    · exact (physRead_canonical h pa 4).bind fun _ _ ht => ht
    · exact h
  | evictInstruction set way => exact invalidateI_canonical h _
  | evictData set way => exact evictData_canonical h _
  | evictSecondary set way => exact evictSecondary_canonical h _ _
  | setPins | nmi | ddrCommandError | ddrDataError | headerReport | arbiterStatus => exact h

/-- Everything a step is built from keeps the canonical form. -/
theorem canonical_stepClosed : StepClosed State.canonical where
  toExecClosed := canonical_execClosed
  fetch h := fetch_canonical h
  commit before keepRandom h := commit_canonical before h keepRandom
  standBy h := standBy_canonical h
  deviceTick h := h
  hostEvent e h := hostEvent_canonical h e
  record _ _ h := h

/-- Settles O9: memory, BOOT_ROM, the caches and the bit errors stay canonical, whatever the step does. -/
theorem canonicalKept : Obligations.CanonicalKept := by
  intro s t h hst
  exact (canonical_stepClosed.step h).next hst

end Sys2Proof.Machine
end

section
/-! SUPPORT. Bytes, words and masks as numbers: what the bytes of a value make when they are put together again, and
what a mask of the low or of the high bits leaves. -/

namespace Sys2Proof.Machine

/-! ### The bits of a value made of bytes -/

/-- Bit `i` of a value made of bytes is bit `i % 8` of byte `i / 8`. -/
theorem getLsbD_ofBytes (w : Nat) (bs : List Byte) (i : Nat) :
    (ofBytes w bs).getLsbD i = (decide (i < w) && (bs.getD (i / 8) 0).getLsbD (i % 8)) := by
  induction bs generalizing i with
  | nil => simp [ofBytes]
  | cons b bs ih =>
    simp only [ofBytes, BitVec.getLsbD_or, BitVec.getLsbD_shiftLeft, BitVec.getLsbD_setWidth, ih]
    by_cases hi : i < 8
    · simp [hi, Nat.div_eq_of_lt hi, Nat.mod_eq_of_lt hi]
    · have hb : b.getLsbD i = false := BitVec.getLsbD_of_ge b i (by omega)
      have hd : i / 8 = (i - 8) / 8 + 1 := by omega
      have hm : i % 8 = (i - 8) % 8 := by omega
      rw [hd, hm, List.getD_cons_succ]
      by_cases hw : i < w
      · simp [hi, hb, hw, show i - 8 < w by omega]
      · simp [hw]

@[simp] theorem getElem_toBytes {w : Nat} (v : BitVec w) (n i : Nat) (h : i < (toBytes v n).length) :
    (toBytes v n)[i] = v.extractLsb' (8 * i) 8 := by
  simp [toBytes]

theorem getD_toBytes {w : Nat} (v : BitVec w) (n i : Nat) :
    (toBytes v n).getD i 0 = if i < n then v.extractLsb' (8 * i) 8 else 0 := by
  rw [List.getD_eq_getElem?_getD]
  split
  · next h => rw [List.getElem?_eq_getElem (by simpa using h)]; simp
  · next h => rw [List.getElem?_eq_none (by simpa using h)]; rfl

/-- The first `n` bytes of a value hold its low `8 * n` bits. -/
theorem getLsbD_ofBytes_toBytes (w : Nat) {u : Nat} (v : BitVec u) (n i : Nat) :
    (ofBytes w (toBytes v n)).getLsbD i = (decide (i < w) && decide (i < 8 * n) && v.getLsbD i) := by
  rw [getLsbD_ofBytes, getD_toBytes]
  have hs : 8 * (i / 8) + i % 8 = i := Nat.div_add_mod i 8
  by_cases h : i < 8 * n
  · rw [if_pos (by omega)]
    simp [h, hs, Nat.mod_lt]
  · rw [if_neg (by omega)]
    simp [h]

/-- A value is what its bytes make when they cover it. -/
theorem ofBytes_toBytes {w : Nat} (v : BitVec w) {n : Nat} (h : w ≤ 8 * n) : ofBytes w (toBytes v n) = v := by
  refine BitVec.eq_of_getLsbD_eq fun i hi => ?_
  rw [getLsbD_ofBytes_toBytes]
  simp [hi, show i < 8 * n by omega]

/-- What the first `n` bytes of a value make, as a number. -/
theorem ofBytes_toBytes_eq_ofNat (w : Nat) {u : Nat} (v : BitVec u) (n : Nat) :
    ofBytes w (toBytes v n) = BitVec.ofNat w (v.toNat % 2 ^ (8 * n)) := by
  refine BitVec.eq_of_getLsbD_eq fun i hi => ?_
  rw [getLsbD_ofBytes_toBytes, BitVec.getLsbD_ofNat, Nat.testBit_mod_two_pow, BitVec.testBit_toNat, Bool.and_assoc]

/-- One byte below the others, as a number. -/
theorem ofBytes_cons_ofNat {w : Nat} {bs : List Byte} {x : Nat} (h : ofBytes w bs = BitVec.ofNat w x) (b : Byte) :
    ofBytes w (b :: bs) = BitVec.ofNat w (b.toNat + 256 * x) := by
  have hb : b.toNat < 2 ^ 8 := b.isLt
  have hsum : b.toNat + 256 * x = x <<< 8 ||| b.toNat := by
    rw [← Nat.shiftLeft_add_eq_or_of_lt hb, Nat.shiftLeft_eq]
    omega
  rw [ofBytes, h, hsum]
  refine BitVec.eq_of_getLsbD_eq fun i hi => ?_
  simp only [BitVec.getLsbD_or, BitVec.getLsbD_shiftLeft, BitVec.getLsbD_setWidth, BitVec.getLsbD_ofNat,
    Nat.testBit_or, Nat.testBit_shiftLeft, hi, decide_true, Bool.true_and, show i - 8 < w by omega]
  by_cases h8 : i < 8 <;> simp [h8, BitVec.getLsbD, show 8 ≤ i ↔ ¬ i < 8 by omega]

/-! ### Masks of the low bits -/

/-- The bits of a mask of the low `k` bits. -/
theorem getLsbD_lowMask (w k i : Nat) :
    (BitVec.ofNat w (2 ^ k - 1)).getLsbD i = (decide (i < w) && decide (i < k)) := by
  rw [BitVec.getLsbD_ofNat, Nat.testBit_two_pow_sub_one]

/-- A mask of the low `k` bits leaves the remainder by `2 ^ k`. -/
theorem toNat_and_lowMask {w : Nat} (v : BitVec w) (k : Nat) :
    (v &&& BitVec.ofNat w (2 ^ k - 1)).toNat = v.toNat % 2 ^ k := by
  refine Nat.eq_of_testBit_eq fun i => ?_
  rw [Nat.testBit_mod_two_pow, BitVec.testBit_toNat, BitVec.testBit_toNat, BitVec.getLsbD_and, getLsbD_lowMask]
  by_cases h : i < w
  · simp [h, Bool.and_comm]
  · simp [h, BitVec.getLsbD_of_ge v i (by omega)]

/-- A mask of the bits from `k` on leaves the multiple of `2 ^ k` below. -/
theorem toNat_and_not_lowMask {w : Nat} (v : BitVec w) (k : Nat) :
    (v &&& ~~~BitVec.ofNat w (2 ^ k - 1)).toNat = v.toNat / 2 ^ k * 2 ^ k := by
  refine Nat.eq_of_testBit_eq fun i => ?_
  rw [← Nat.shiftLeft_eq, ← Nat.shiftRight_eq_div_pow, Nat.testBit_shiftLeft, Nat.testBit_shiftRight,
    BitVec.testBit_toNat, BitVec.testBit_toNat, BitVec.getLsbD_and, BitVec.getLsbD_not, getLsbD_lowMask]
  by_cases h : i < w
  · by_cases hk : k ≤ i
    · simp [h, hk, show ¬ i < k by omega, show k + (i - k) = i by omega]
    · simp [h, hk, show i < k by omega]
  · simp [BitVec.getLsbD_of_ge v i (by omega)]
    intro hk
    exact BitVec.getLsbD_of_ge v _ (by omega)

/-- The bits from `k` on of one value joined to the low bits of another. -/
theorem toNat_or_of_disjoint {w : Nat} {u v : BitVec w} {k a : Nat} (hu : u.toNat = a * 2 ^ k)
    (hv : v.toNat < 2 ^ k) : (u ||| v).toNat = a * 2 ^ k + v.toNat := by
  rw [BitVec.toNat_or, hu, ← Nat.shiftLeft_eq, Nat.shiftLeft_add_eq_or_of_lt hv]

end Sys2Proof.Machine
end

section
/-! The address windows and the devices behind them: `ResetRouting` and `WindowsAndDevices`. -/

namespace Sys2Proof.Machine

/-! ### The window registers (R136) -/

/-- The addresses of the window registers name them in order. -/
theorem windowRegisterNumber_register {pa : BitVec 40} {r : Fin 24} (h : pa.toNat = 0x3FF00000 + 8 * r.val) :
    windowRegisterNumber pa = some r := by
  have hle : (0x3FF00000 : BitVec 40) ≤ pa := show 0x3FF00000 ≤ pa.toNat by omega
  have hn : (pa.toNat - 0x3FF00000) / 8 = r.val := by omega
  rw [windowRegisterNumber, if_pos hle]
  simp [hn]

/-- No other address names a window register. -/
theorem windowRegisterNumber_none {pa : BitVec 40} (h : pa.toNat < 0x3FF00000 ∨ 0x3FF000C0 ≤ pa.toNat) :
    windowRegisterNumber pa = none := by
  unfold windowRegisterNumber
  split
  · next hle =>
    have hle : 0x3FF00000 ≤ pa.toNat := hle
    simp only [show ¬ (pa.toNat - 0x3FF00000) / 8 < 24 by omega, dite_false]
  · rfl

theorem route_windowRegister (s : State) {pa : BitVec 40} {r : Fin 24} (h : pa.toNat = 0x3FF00000 + 8 * r.val) :
    s.route pa = .windowRegister r 0 := by
  have hb : pa.toNat % 8 = 0 := by omega
  rw [State.route, windowRegisterNumber_register h]
  simp only [hb]

/-- Outside the window registers an address goes through the windows of the core. -/
theorem route_outside (s : State) {pa : BitVec 40} (h : pa.toNat < 0x3FF00000 ∨ 0x3FF000C0 ≤ pa.toNat) :
    s.route pa = windowTarget s.cpuWindows (pa.setWidth 64) := by
  rw [State.route, windowRegisterNumber_none h]

/-! ### Windows (R135) -/

/-- The bits of MMAP that a hitting window puts into the address. -/
theorem mmap_and_not (m : Dword) : m &&& ~~~(0xFFFFF : Dword) = BitVec.ofNat 64 (m.toNat / 2 ^ 20 * 2 ^ 20) := by
  have h : (m &&& ~~~(0xFFFFF : Dword)).toNat = m.toNat / 2 ^ 20 * 2 ^ 20 := toNat_and_not_lowMask m 20
  rw [← h, BitVec.ofNat_toNat, BitVec.setWidth_eq]

theorem windowTarget_of_miss {w : Window} {a : Dword} (h : w.hits a = false) (rest : List Window) :
    windowTarget (w :: rest) a = windowTarget rest a := by
  simp [windowTarget, h]

theorem windowTarget_ddr {w : Window} {a : Dword} (h : w.hits a = true) (hm : w.mmap.toNat % 4 = 0)
    (rest : List Window) : windowTarget (w :: rest) a = .ddr (w.out a).toNat := by
  simp [windowTarget, h, hm]

theorem windowTarget_io {w : Window} {a : Dword} (h : w.hits a = true) (hm : w.mmap.toNat % 4 = 1)
    (rest : List Window) : windowTarget (w :: rest) a = .io (w.out a).toNat := by
  simp [windowTarget, h, hm]

/-! ### The windows after reset (R137) -/

/-- The windows of the CPU core after reset: DDR2, the I/O controller, and two at the top of the 64-bit space. -/
theorem cpuWindows_reset {s : State} (h : s.windows = State.reset.windows) :
    s.cpuWindows = [⟨0, 0xFFFFFFFFF0000000, 0⟩, ⟨0x10000000, 0xFFFFFFFFF0000000, 0x10000001⟩,
      ⟨0xFFFFFFFFFFF00000, 0xFFFFFFFFFFF00000, 0⟩, ⟨0xFFFFFFFFFFF00000, 0xFFFFFFFFFFF00000, 0⟩] := by
  rw [State.cpuWindows, h]
  rfl

/-- The windows of PCI DMA after reset: 2 GB, and three at the top of the 64-bit space. -/
theorem dmaWindows_reset {s : State} (h : s.windows = State.reset.windows) :
    s.dmaWindows = ⟨0x80000000, 0xFFFFFFFF80000000, 0⟩ ::
      List.replicate 3 ⟨0xFFFFFFFFFFF00000, 0xFFFFFFFFFFF00000, 0⟩ := by
  rw [State.dmaWindows, h]
  rfl

/-- A window whose mask takes the bits from `k` on hits the addresses that agree with its base there. -/
theorem hits_highMask {base mask mmap : Dword} {k : Nat} (hmask : mask = ~~~BitVec.ofNat 64 (2 ^ k - 1)) (a : Dword) :
    Window.hits ⟨base, mask, mmap⟩ a = decide (a.toNat / 2 ^ k * 2 ^ k = base.toNat) := by
  rw [Window.hits, hmask, ← toNat_and_not_lowMask, Bool.eq_iff_iff, beq_iff_eq, decide_eq_true_eq,
    BitVec.toNat_inj]

/-- Such a window sends on the low `k` bits below the base that MMAP gives. -/
theorem out_highMask {base mask mmap : Dword} {k b : Nat} (hmask : mask = ~~~BitVec.ofNat 64 (2 ^ k - 1))
    (hmap : (mmap &&& ~~~(0xFFFFF : Dword)).toNat = b * 2 ^ k) (a : Dword) :
    (Window.out ⟨base, mask, mmap⟩ a).toNat = b * 2 ^ k + a.toNat % 2 ^ k := by
  have hlow : (a &&& ~~~mask).toNat = a.toNat % 2 ^ k := by rw [hmask, BitVec.not_not, toNat_and_lowMask]
  rw [Window.out, BitVec.or_comm, toNat_or_of_disjoint hmap (hlow ▸ Nat.mod_lt _ (Nat.two_pow_pos k)), hlow]

theorem highMask_28 : (0xFFFFFFFFF0000000 : Dword) = ~~~BitVec.ofNat 64 (2 ^ 28 - 1) := by decide
theorem highMask_31 : (0xFFFFFFFF80000000 : Dword) = ~~~BitVec.ofNat 64 (2 ^ 31 - 1) := by decide
theorem highMask_20 : (0xFFFFFFFFFFF00000 : Dword) = ~~~BitVec.ofNat 64 (2 ^ 20 - 1) := by decide

theorem toNat_physical (pa : BitVec 40) : (pa.setWidth 64).toNat = pa.toNat := by
  rw [BitVec.toNat_setWidth]
  omega

/-- A window at the top of the 64-bit space takes no physical address. -/
theorem topWindow_misses (mmap : Dword) (pa : BitVec 40) :
    Window.hits ⟨0xFFFFFFFFFFF00000, 0xFFFFFFFFFFF00000, mmap⟩ (pa.setWidth 64) = false := by
  rw [hits_highMask highMask_20, toNat_physical, decide_eq_false_iff_not]
  have hb : (0xFFFFFFFFFFF00000 : Dword).toNat = 0xFFFFFFFFFFF00000 := rfl
  omega

/-- Settles O2: each of the reset windows takes the addresses of its range and no other. -/
theorem resetRouting : Obligations.ResetRouting := by
  intro s h
  have h0 : ∀ pa : BitVec 40, Window.hits ⟨0, 0xFFFFFFFFF0000000, 0⟩ (pa.setWidth 64) =
      decide (pa.toNat / 2 ^ 28 * 2 ^ 28 = 0) := fun pa => by
    rw [hits_highMask highMask_28, toNat_physical]; rfl
  have h1 : ∀ pa : BitVec 40, Window.hits ⟨0x10000000, 0xFFFFFFFFF0000000, 0x10000001⟩ (pa.setWidth 64) =
      decide (pa.toNat / 2 ^ 28 * 2 ^ 28 = 0x10000000) := fun pa => by
    rw [hits_highMask highMask_28, toNat_physical]; rfl
  refine ⟨fun pa hpa => ?_, fun pa hlo hhi => ?_, fun pa hlo hregs => ?_, fun w hw pa => ?_, fun a hlo hhi => ?_⟩
  · rw [route_outside s (by omega), cpuWindows_reset h,
      windowTarget_ddr (by rw [h0]; exact decide_eq_true (by omega)) (by decide),
      out_highMask (b := 0) highMask_28 (by decide), toNat_physical]
    exact congrArg Target.ddr (by omega)
  · rw [route_outside s (by omega), cpuWindows_reset h,
      windowTarget_of_miss (by rw [h0]; exact decide_eq_false (by omega)),
      windowTarget_io (by rw [h1]; exact decide_eq_true (by omega)) (by decide),
      out_highMask (b := 1) highMask_28 (by decide), toNat_physical]
    exact congrArg Target.io (by omega)
  · rw [route_outside s hregs, cpuWindows_reset h,
      windowTarget_of_miss (by rw [h0]; exact decide_eq_false (by omega)),
      windowTarget_of_miss (by rw [h1]; exact decide_eq_false (by omega)),
      windowTarget_of_miss (topWindow_misses 0 pa), windowTarget_of_miss (topWindow_misses 0 pa)]
    rfl
  · rw [cpuWindows_reset h] at hw
    obtain rfl : w = ⟨0xFFFFFFFFFFF00000, 0xFFFFFFFFFFF00000, 0⟩ := by simpa using hw
    exact topWindow_misses 0 pa
  · have ha : (BitVec.ofNat 64 a).toNat = a := by rw [BitVec.toNat_ofNat]; omega
    have hhits : Window.hits ⟨0x80000000, 0xFFFFFFFF80000000, 0⟩ (BitVec.ofNat 64 a) = true := by
      have hb : (0x80000000 : Dword).toNat = 0x80000000 := rfl
      rw [hits_highMask highMask_31, ha]
      exact decide_eq_true (by omega)
    rw [dmaWindows_reset h, windowTarget_ddr hhits (by decide), out_highMask (b := 0) highMask_31 (by decide), ha]
    exact congrArg Target.ddr (by omega)

/-! ### Accesses to the window registers and past the windows -/

/-- A read of a window register answers it (R136). -/
theorem physRead_windowRegister (s : State) {pa : BitVec 40} {r : Fin 24}
    (h : pa.toNat = 0x3FF00000 + 8 * r.val) : physRead s pa 8 = .ok (toBytes s.windows[r] 8) s := by
  simp [physRead, route_windowRegister s h]

/-- A doubleword written to a window register is its new value (R136). -/
theorem physWrite_windowRegister (s : State) {pa : BitVec 40} {r : Fin 24}
    (h : pa.toNat = 0x3FF00000 + 8 * r.val) (v : Dword) :
    physWrite s pa (toBytes v 8) = .ok () { s with windows := s.windows.set r v } := by
  simp [physWrite, route_windowRegister s h, ofBytes_toBytes]

theorem windows_set_get (ws : Vector Dword 24) (r q : Fin 24) (v : Dword) :
    (ws.set r v)[q] = if q = r then v else ws[q] := by
  simp [Vector.getElem_set, Fin.ext_iff, eq_comm]

/-! ### The interrupt enables (R740, R742) -/

/-- The addresses of Intenset, Intenclr and Inten lie in the register block, whatever is enabled. -/
theorem region_interruptRegisters (s : State) :
    s.region 0x1FE00130 = .regs 0x30 ∧ s.region 0x1FE00134 = .regs 0x34 ∧ s.region 0x1FE00138 = .regs 0x38 := by
  simp [State.region]

/-- A word at a multiple of four names all the lanes of its register. -/
theorem and_laneMask_word {offset : Nat} (h : offset % 4 = 0) (v : Word) : v &&& laneMask offset 4 = v := by
  have hm : laneMask offset 4 = BitVec.allOnes 32 := by
    rw [laneMask, h]
    decide
  rw [hm, BitVec.and_allOnes]

theorem laneValue_word {offset : Nat} (h : offset % 4 = 0) (v : Word) : laneValue offset (toBytes v 4) = v := by
  simp [laneValue, h, ofBytes_toBytes]

/-- A word written to Intenset sets the enable bits it names. -/
theorem ioWrite_intenset (s : State) (v : Word) :
    ioWrite s 0x1FE00130 (toBytes v 4) = .ok () (s.setReg 14 (s.reg 14 ||| (v &&& 0x7FF))) := by
  obtain ⟨hr, -, -⟩ := region_interruptRegisters s
  simp [ioWrite, hr, narrowWidth, and_laneMask_word, laneValue_word, wordNumber, State.writeReg]

/-- A word written to Intenclr clears the enable bits and the latched pulses it names. -/
theorem ioWrite_intenclr (s : State) (v : Word) :
    ioWrite s 0x1FE00134 (toBytes v 4) = .ok ()
      { s with io := { (s.setReg 14 (s.reg 14 &&& ~~~v)).io with pulse := s.io.pulse &&& ~~~(v.setWidth 15) } } := by
  obtain ⟨-, hr, -⟩ := region_interruptRegisters s
  have hv : v.extractLsb' 0 15 = v.setWidth 15 := BitVec.eq_of_toNat_eq rfl
  simp [ioWrite, hr, narrowWidth, and_laneMask_word, laneValue_word, wordNumber, State.writeReg, State.setReg,
    hv]

/-- Inten reads the enable bits. -/
theorem ioRead_inten (s : State) : ioRead s 0x1FE00138 4 = .ok (toBytes (s.reg 14) 4) s := by
  obtain ⟨-, -, hr⟩ := region_interruptRegisters s
  simp [ioRead, hr, narrowWidth, wordNumber, State.readReg]

theorem reg_setReg_same (s : State) (n : Fin 64) (v : Word) : (s.setReg n v).reg n = v := by
  simp [State.reg, State.setReg]

/-! ### The DDR2 memory that is not there (R774, R784) -/

/-- Before its initialisation the memory takes no write below its size. -/
theorem ddrMemWrite_of_not_ready {s : State} (hr : s.ddr.ready = false) {a : Nat} (ha : a < s.ddrSize)
    (bytes : List Byte) : s.ddrMemWrite a bytes = s := by
  simp [State.ddrMemWrite, hr, Nat.not_le.mpr ha]

theorem ddrField_mem (s : State) (n : Fin 29) (m v : Dword) : (s.ddrField n m v).mem = s.mem := rfl
theorem ddrReport_mem (s : State) (cause : Nat) : (s.ddrReport cause).mem = s.mem := rfl

/-- Recording an access out of range changes no byte. -/
theorem ddrOutOfRange_mem (s : State) (a n : Nat) : (s.ddrOutOfRange a n).mem = s.mem := by
  simp only [State.ddrOutOfRange, ddrReport_mem, ddrField_mem]

theorem ddrMemRead_out_of_range {s : State} {a : Nat} (h : s.ddrSize ≤ a) (n : Nat) :
    s.ddrMemRead a n = (List.replicate n 0, s.ddrOutOfRange a n) := by
  simp [State.ddrMemRead, h]

theorem ddrMemWrite_out_of_range {s : State} {a : Nat} (h : s.ddrSize ≤ a) (bytes : List Byte) :
    s.ddrMemWrite a bytes = s.ddrOutOfRange a bytes.length := by
  simp [State.ddrMemWrite, h]

/-- Outside the configuration port a running controller reads the memory. -/
theorem ddrRead_memory {s : State} {a : Nat} (hp : s.inDdrPort a = false) (hs : s.ddrStopped = false) (n : Nat) :
    ddrRead s a n = .ok (s.ddrMemRead a n).1 (s.ddrMemRead a n).2 := by
  simp [ddrRead, hp, hs]

theorem ddrWrite_memory {s : State} {a : Nat} (hp : s.inDdrPort a = false) (hs : s.ddrStopped = false)
    (bytes : List Byte) : ddrWrite s a bytes = .ok () (s.ddrMemWrite a bytes) := by
  simp [ddrWrite, hp, hs]

/-! ### A write behind a read that waits (R717) -/

/-- Accepting an access sets at most a flag of the PCI header. -/
theorem acceptDma_eq (s : State) (a : Dword) :
    s.acceptDma a = s ∨ s.acceptDma a = s.orHeader 16 0x80000000 := by
  unfold State.acceptDma
  split <;> simp

theorem acceptDma_ddr (s : State) (a : Dword) : (s.acceptDma a).ddr = s.ddr := by
  rcases acceptDma_eq s a with h | h <;> rw [h]; rfl
theorem acceptDma_reg (s : State) (a : Dword) (n : Fin 64) : (s.acceptDma a).reg n = s.reg n := by
  rcases acceptDma_eq s a with h | h <;> rw [h]; rfl
theorem acceptDma_windows (s : State) (a : Dword) : (s.acceptDma a).windows = s.windows := by
  rcases acceptDma_eq s a with h | h <;> rw [h]; rfl

theorem readWaits_of_mem {s : State} {bus a n : Nat} (h : DmaBeat.read bus a n ∈ s.ddr.waiting) :
    s.readWaits = true :=
  List.any_eq_true.mpr ⟨_, h, rfl⟩

/-- While a read waits and pcix_ro_en is 0, a write for the I/O controller joins those that wait. -/
theorem dmaWriteBeat_behind_read {s : State} {addr x : Nat} (bytes : List Byte) (hp : s.writesPass = false)
    (hr : s.readWaits = true) (hi : s.incoming (BitVec.ofNat 64 addr) = true)
    (hw : windowTarget s.dmaWindows (BitVec.ofNat 64 addr) = .io x) :
    dmaWriteBeat s addr bytes = .ok () { s.acceptDma (BitVec.ofNat 64 addr) with
      ddr := { s.ddr with waiting := s.ddr.waiting ++ [.ioWrite x bytes] } } := by
  have hd := acceptDma_ddr s (BitVec.ofNat 64 addr)
  have hwait : (s.acceptDma (BitVec.ofNat 64 addr)).beatWaits (.ioWrite x bytes) = true := by
    refine beatWaits_of_read_waiting rfl ?_ ?_
    · rw [State.readWaits, hd]
      exact hr
    · rw [State.writesPass, acceptDma_reg]
      exact hp
  have ht : windowTarget (s.acceptDma (BitVec.ofNat 64 addr)).dmaWindows (BitVec.ofNat 64 addr) = .io x := by
    rw [State.dmaWindows, acceptDma_windows]
    exact hw
  simp only [dmaWriteBeat, hi, ht, arriveBeat, hwait, hd, Bool.not_true, Bool.false_eq_true, if_false, if_true]

/-! ### The statement -/

/-- Settles O51, from what each window and each device does. -/
theorem windowsAndDevices : Obligations.WindowsAndDevices := by
  intro s
  refine ⟨rfl, rfl, fun pa h => route_outside s h, fun pa n bytes h => ?_, fun r pa v h => ?_, fun a => rfl,
    fun w rest a => ⟨rfl, fun h => ⟨fun hm => ?_, fun hm => ?_⟩, fun h => windowTarget_of_miss h rest⟩,
    fun v => ⟨⟨_, ioWrite_intenset s v, ?_⟩, _, ioWrite_intenclr s v, ?_, rfl⟩,
    fun x n bytes hp hs => ⟨fun hr hx => ?_, fun hx => ⟨⟨_, ?_, ddrOutOfRange_mem s x n⟩, _, ?_,
      ddrOutOfRange_mem s x bytes.length⟩⟩, fun addr x bytes hp hr hi hw => ?_⟩
  · simp [physRead, physWrite, h]
  · refine ⟨_, physWrite_windowRegister s h v, rfl, fun q => windows_set_get s.windows r q v, ?_⟩
    rw [physRead_windowRegister _ h, windows_set_get, if_pos rfl]
  · rw [windowTarget_ddr h hm, Window.out, mmap_and_not]
  · rw [windowTarget_io h hm, Window.out, mmap_and_not]
  · rw [ioRead_inten, reg_setReg_same]
  · rw [ioRead_inten]
    exact congrArg (fun w => Res.ok (toBytes w 4) _) (reg_setReg_same s 14 _)
  · rw [ddrWrite_memory hp hs, ddrMemWrite_of_not_ready hr hx]
  · rw [ddrRead_memory hp hs, ddrMemRead_out_of_range hx]
  · rw [ddrWrite_memory hp hs, ddrMemWrite_out_of_range hx]
  · obtain ⟨bus, a, n, hmem⟩ := hr
    exact dmaWriteBeat_behind_read bytes hp (readWaits_of_mem hmem) hi hw

end Sys2Proof.Machine
end

section
/-! Translation of virtual addresses: the segments by mode, the JTLB and the ITLB: `SupervisorSegments`,
`SegmentsByMode`, `MappedTranslation` and `FetchTranslation`. -/

namespace Sys2Proof.Machine

variable {s : State} {m : Mode} {k : Access} {va : Dword}

/-! ### The mode (R43, R660) -/

theorem mode_kernel_iff (s : State) : s.mode = some .kernel ↔ s.exl = true ∨ s.erl = true ∨ s.ksu = 0 := by
  unfold State.mode
  generalize s.erl = erl, s.exl = exl, s.ksu = ksu
  revert erl exl ksu
  decide

theorem mode_supervisor_iff (s : State) :
    s.mode = some .supervisor ↔ s.exl = false ∧ s.erl = false ∧ s.ksu = 1 := by
  unfold State.mode
  generalize s.erl = erl, s.exl = exl, s.ksu = ksu
  revert erl exl ksu
  decide

theorem mode_user_iff (s : State) : s.mode = some .user ↔ s.exl = false ∧ s.erl = false ∧ s.ksu = 2 := by
  unfold State.mode
  generalize s.erl = erl, s.exl = exl, s.ksu = ksu
  revert erl exl ksu
  decide

/-! ### Translation by the segment (R129) -/

theorem isStore_eq (k : Access) : k.isStore = (k == .store) := by cases k <;> rfl

theorem translate_of_no_mode (h : s.mode = none) (k : Access) (va : Dword) :
    translate s k va = .refuse .undefinedMode := by
  simp [translate, h]

theorem translate_of_illegal (hm : s.mode = some m) (hs : segmentOf m s.cp0.k0 va = .illegal) (k : Access) :
    translate s k va = .raise (.addressError (k == .store) va) s := by
  simp [translate, hm, hs, isStore_eq]

theorem translate_of_mapped (hm : s.mode = some m) (hs : segmentOf m s.cp0.k0 va = .mapped) (k : Access) :
    translate s k va = if k = .fetch then translateFetch s va else translateMapped s k va := by
  simp [translate, hm, hs]

theorem translate_of_direct {pa : BitVec 40} {c : BitVec 3} (hm : s.mode = some m)
    (hs : segmentOf m s.cp0.k0 va = .direct pa c) (k : Access) : translate s k va = .ok (pa, c) s := by
  simp [translate, hm, hs]

/-! ### The segments (R110 to R115) -/

theorem region_toNat (va : Dword) : (va.extractLsb' 62 2).toNat = va.toNat / 2 ^ 62 := by
  rw [BitVec.extractLsb'_toNat, Nat.shiftRight_eq_div_pow]
  omega

theorem beyond40_eq_zero (va : Dword) : va.extractLsb' 40 22 = 0 ↔ va.toNat / 2 ^ 40 % 2 ^ 22 = 0 := by
  rw [← BitVec.toNat_inj, BitVec.extractLsb'_toNat, Nat.shiftRight_eq_div_pow]
  rfl

/-- XUSEG. -/
theorem segmentOf_useg (m : Mode) (k0 : BitVec 3) (h : va.toNat < 0x10000000000) :
    segmentOf m k0 va = .mapped := by
  have hr : (va.extractLsb' 62 2).toNat = 0 := by rw [region_toNat]; omega
  have hz : va.extractLsb' 40 22 = 0 := (beyond40_eq_zero va).mpr (by omega)
  simp only [segmentOf, hr, hz, if_true]

theorem segmentOf_beyond_useg (m : Mode) (k0 : BitVec 3) (hlo : 0x10000000000 ≤ va.toNat)
    (hhi : va.toNat < 0x4000000000000000) : segmentOf m k0 va = .illegal := by
  have hr : (va.extractLsb' 62 2).toNat = 0 := by rw [region_toNat]; omega
  have hz : va.extractLsb' 40 22 ≠ 0 := fun h => by have := (beyond40_eq_zero va).mp h; omega
  simp only [segmentOf, hr, hz, if_false]

/-- XSSEG. -/
theorem segmentOf_sseg (m : Mode) (k0 : BitVec 3) (hlo : 0x4000000000000000 ≤ va.toNat)
    (hhi : va.toNat < 0x4000010000000000) : segmentOf m k0 va = if m = .user then .illegal else .mapped := by
  have hr : (va.extractLsb' 62 2).toNat = 1 := by rw [region_toNat]; omega
  have hz : va.extractLsb' 40 22 = 0 := (beyond40_eq_zero va).mpr (by omega)
  cases m <;> simp [segmentOf, hr, hz]

theorem segmentOf_beyond_sseg (m : Mode) (k0 : BitVec 3) (hlo : 0x4000010000000000 ≤ va.toNat)
    (hhi : va.toNat < 0x8000000000000000) : segmentOf m k0 va = .illegal := by
  have hr : (va.extractLsb' 62 2).toNat = 1 := by rw [region_toNat]; omega
  have hz : va.extractLsb' 40 22 ≠ 0 := fun h => by have := (beyond40_eq_zero va).mp h; omega
  simp only [segmentOf, hr, hz, decide_false, Bool.false_and, Bool.false_eq_true, if_false]

/-- XKPHY. -/
theorem segmentOf_kphy (m : Mode) (k0 : BitVec 3) (hlo : 0x8000000000000000 ≤ va.toNat)
    (hhi : va.toNat < 0xC000000000000000) :
    segmentOf m k0 va = if m = .kernel ∧ va.toNat / 2 ^ 40 % 2 ^ 19 = 0 then
      .direct (BitVec.ofNat 40 va.toNat) (BitVec.ofNat 3 (va.toNat / 2 ^ 59)) else .illegal := by
  have hr : (va.extractLsb' 62 2).toNat = 2 := by rw [region_toNat]; omega
  have hz : va.extractLsb' 40 19 = 0 ↔ va.toNat / 2 ^ 40 % 2 ^ 19 = 0 := by
    rw [← BitVec.toNat_inj, BitVec.extractLsb'_toNat, Nat.shiftRight_eq_div_pow]
    rfl
  have hpa : va.extractLsb' 0 40 = BitVec.ofNat 40 va.toNat := BitVec.eq_of_toNat_eq rfl
  have hc : va.extractLsb' 59 3 = BitVec.ofNat 3 (va.toNat / 2 ^ 59) := by
    refine BitVec.eq_of_toNat_eq ?_
    rw [BitVec.extractLsb'_toNat, Nat.shiftRight_eq_div_pow, BitVec.toNat_ofNat]
  simp only [segmentOf, hr, Bool.and_eq_true, beq_iff_eq, hz, hpa, hc]

/-- XKSEG, and what lies between it and the compatibility segments. -/
theorem segmentOf_high (m : Mode) (k0 : BitVec 3) (hlo : 0xC000000000000000 ≤ va.toNat)
    (hhi : va.toNat < 0xFFFFFFFF80000000) :
    segmentOf m k0 va = if m = .kernel ∧ va.toNat < 0xC00000FF80000000 then .mapped else .illegal := by
  have hr : (va.extractLsb' 62 2).toNat = 3 := by rw [region_toNat]; omega
  have hc : ¬ (0xFFFFFFFF80000000 : Dword) ≤ va := show ¬ 0xFFFFFFFF80000000 ≤ va.toNat by omega
  have hx : va < (0xC00000FF80000000 : Dword) ↔ va.toNat < 0xC00000FF80000000 := Iff.rfl
  simp only [segmentOf, hr, hc, if_false, Bool.and_eq_true, beq_iff_eq, decide_eq_true_eq, hx]

/-- The bits that tell the compatibility segments apart. -/
theorem compatibility_bits (h : 0xFFFFFFFF80000000 ≤ va.toNat) :
    (va.extractLsb' 62 2).toNat = 3 ∧ (0xFFFFFFFF80000000 : Dword) ≤ va ∧
      (va.extractLsb' 29 2).toNat = va.toNat / 2 ^ 29 % 4 := by
  have hmax := va.isLt
  refine ⟨by rw [region_toNat]; omega, h, ?_⟩
  rw [BitVec.extractLsb'_toNat, Nat.shiftRight_eq_div_pow]

theorem low29_eq {b : Nat} (h : va.toNat % 2 ^ 29 = b) :
    (va.extractLsb' 0 29).setWidth 40 = BitVec.ofNat 40 b := by
  refine BitVec.eq_of_toNat_eq ?_
  rw [BitVec.toNat_setWidth, BitVec.extractLsb'_toNat, BitVec.toNat_ofNat, Nat.shiftRight_zero, h]

/-- CKSEG0. -/
theorem segmentOf_ckseg0 (m : Mode) (k0 : BitVec 3) (hlo : 0xFFFFFFFF80000000 ≤ va.toNat)
    (hhi : va.toNat < 0xFFFFFFFFA0000000) :
    segmentOf m k0 va =
      if m = .kernel then .direct (BitVec.ofNat 40 (va.toNat - 0xFFFFFFFF80000000)) k0 else .illegal := by
  obtain ⟨hr, hc, hb⟩ := compatibility_bits hlo
  rw [show va.toNat / 2 ^ 29 % 4 = 0 by omega] at hb
  have hpa := low29_eq (show va.toNat % 2 ^ 29 = va.toNat - 0xFFFFFFFF80000000 by omega)
  simp only [segmentOf, hr, hc, hb, hpa, if_true, beq_iff_eq]

/-- CKSEG1. -/
theorem segmentOf_ckseg1 (m : Mode) (k0 : BitVec 3) (hlo : 0xFFFFFFFFA0000000 ≤ va.toNat)
    (hhi : va.toNat < 0xFFFFFFFFC0000000) :
    segmentOf m k0 va =
      if m = .kernel then .direct (BitVec.ofNat 40 (va.toNat - 0xFFFFFFFFA0000000)) 2 else .illegal := by
  obtain ⟨hr, hc, hb⟩ := compatibility_bits (va := va) (by omega)
  rw [show va.toNat / 2 ^ 29 % 4 = 1 by omega] at hb
  have hpa := low29_eq (show va.toNat % 2 ^ 29 = va.toNat - 0xFFFFFFFFA0000000 by omega)
  simp only [segmentOf, hr, hc, hb, hpa, if_true, beq_iff_eq]

/-- CSSEG. -/
theorem segmentOf_csseg (m : Mode) (k0 : BitVec 3) (hlo : 0xFFFFFFFFC0000000 ≤ va.toNat)
    (hhi : va.toNat < 0xFFFFFFFFE0000000) : segmentOf m k0 va = if m = .user then .illegal else .mapped := by
  obtain ⟨hr, hc, hb⟩ := compatibility_bits (va := va) (by omega)
  rw [show va.toNat / 2 ^ 29 % 4 = 2 by omega] at hb
  simp only [segmentOf, hr, hc, hb, if_true, bne_iff_ne, ne_eq, ite_not]

/-- CKSEG3. -/
theorem segmentOf_ckseg3 (m : Mode) (k0 : BitVec 3) (hlo : 0xFFFFFFFFE0000000 ≤ va.toNat) :
    segmentOf m k0 va = if m = .kernel then .mapped else .illegal := by
  have hmax := va.isLt
  obtain ⟨hr, hc, hb⟩ := compatibility_bits (va := va) (by omega)
  rw [show va.toNat / 2 ^ 29 % 4 = 3 by omega] at hb
  simp only [segmentOf, hr, hc, hb, if_true, beq_iff_eq]

/-- A segment that depends on a condition. -/
theorem translate_of_ite {c : Prop} [Decidable c] {x y : Res (BitVec 40 × BitVec 3)} {a b : Segment}
    (hs : segmentOf m s.cp0.k0 va = if c then a else b)
    (ha : segmentOf m s.cp0.k0 va = a → translate s k va = x)
    (hb : segmentOf m s.cp0.k0 va = b → translate s k va = y) : translate s k va = if c then x else y := by
  by_cases hc : c
  · rw [if_pos hc]
    exact ha (by rw [hs, if_pos hc])
  · rw [if_neg hc]
    exact hb (by rw [hs, if_neg hc])

/-- Settles O31, segment by segment. -/
theorem segmentsByMode : Obligations.SegmentsByMode := by
  intro s k va
  refine ⟨mode_kernel_iff s, mode_supervisor_iff s, mode_user_iff s, fun h => translate_of_no_mode h k va,
    fun m hm => ?_⟩
  intro a mapped illegal
  have hmap : segmentOf m s.cp0.k0 va = .mapped → translate s k va = mapped := fun h => translate_of_mapped hm h k
  have hill : segmentOf m s.cp0.k0 va = .illegal → translate s k va = illegal := fun h => translate_of_illegal hm h k
  have hdir : ∀ pa c, segmentOf m s.cp0.k0 va = .direct pa c → translate s k va = .ok (pa, c) s :=
    fun _ _ h => translate_of_direct hm h k
  refine ⟨fun h => ?_, fun hlo hhi => ?_, fun hlo hhi => ?_, fun hlo hhi => ?_, fun hlo hhi => ?_, fun hlo hhi => ?_,
    fun hlo hhi => ?_, fun hlo hhi => ?_, fun hlo hhi => ?_, fun hlo hhi => ?_, fun hlo => ?_⟩
  · exact hmap (segmentOf_useg m _ h)
  · exact hill (segmentOf_beyond_useg m _ hlo hhi)
  · exact translate_of_ite (segmentOf_sseg m _ hlo hhi) hill hmap
  · exact hill (segmentOf_beyond_sseg m _ hlo hhi)
  · exact translate_of_ite (segmentOf_kphy m _ hlo hhi) (hdir _ _) hill
  · refine translate_of_ite ?_ hmap hill
    rw [segmentOf_high m _ hlo (by omega)]
    simp only [show va.toNat < 0xC00000FF80000000 from hhi, and_true]
  · refine hill ?_
    rw [segmentOf_high m _ (by omega) hhi, if_neg fun h => absurd h.2 (by omega)]
  · exact translate_of_ite (segmentOf_ckseg0 m _ hlo hhi) (hdir _ _) hill
  · exact translate_of_ite (segmentOf_ckseg1 m _ hlo hhi) (hdir _ _) hill
  · exact translate_of_ite (segmentOf_csseg m _ hlo hhi) hill hmap
  · exact translate_of_ite (segmentOf_ckseg3 m _ hlo) hmap hill

/-- Settles O19: what `segmentsByMode` says of supervisor mode. -/
theorem supervisorSegments : Obligations.SupervisorSegments := by
  intro s k va hksu hexl herl legal
  have hm : s.mode = some .supervisor := (mode_supervisor_iff s).mpr ⟨hexl, herl, hksu⟩
  obtain ⟨-, -, -, -, hsegments⟩ := segmentsByMode s k va
  obtain ⟨useg, useg', sseg, sseg', kphy, kseg, kseg', ckseg0, ckseg1, csseg, ckseg3⟩ := hsegments _ hm
  refine ⟨fun h => ?_, fun h => ?_⟩
  · rcases h with h | ⟨hlo, hhi⟩ | ⟨hlo, hhi⟩
    · exact useg (by omega)
    · exact sseg hlo (by omega)
    · exact csseg hlo (by omega)
  · simp only [legal] at h
    have hsegment : (0x10000000000 ≤ va.toNat ∧ va.toNat < 0x4000000000000000) ∨
        (0x4000010000000000 ≤ va.toNat ∧ va.toNat < 0x8000000000000000) ∨
        (0x8000000000000000 ≤ va.toNat ∧ va.toNat < 0xC000000000000000) ∨
        (0xC000000000000000 ≤ va.toNat ∧ va.toNat < 0xC00000FF80000000) ∨
        (0xC00000FF80000000 ≤ va.toNat ∧ va.toNat < 0xFFFFFFFF80000000) ∨
        (0xFFFFFFFF80000000 ≤ va.toNat ∧ va.toNat < 0xFFFFFFFFA0000000) ∨
        (0xFFFFFFFFA0000000 ≤ va.toNat ∧ va.toNat < 0xFFFFFFFFC0000000) ∨ 0xFFFFFFFFE0000000 ≤ va.toNat := by
      omega
    rcases hsegment with ⟨hlo, hhi⟩ | ⟨hlo, hhi⟩ | ⟨hlo, hhi⟩ | ⟨hlo, hhi⟩ | ⟨hlo, hhi⟩ | ⟨hlo, hhi⟩ | ⟨hlo, hhi⟩ | hlo
    · exact useg' hlo hhi
    · exact sseg' hlo hhi
    · exact (kphy hlo hhi).trans (if_neg (by simp))
    · exact kseg hlo hhi
    · exact kseg' hlo hhi
    · exact ckseg0 hlo hhi
    · exact ckseg1 hlo hhi
    · exact ckseg3 hlo

end Sys2Proof.Machine
end

section
/-! Translation of mapped addresses by the JTLB and by the ITLB: `MappedTranslation` and `FetchTranslation`. -/

namespace Sys2Proof.Machine

variable {s : State} {k : Access} {va : Dword}

/-! ### Page masks (R35, R121) -/

theorem getLsbD_vpn2Mask (mask : BitVec 12) (b : Nat) : (vpn2Mask mask).getLsbD b = mask.getLsbD b := by
  rw [vpn2Mask, BitVec.getLsbD_append]
  by_cases h : b < 12
  · simp [h]
  · simp [h, BitVec.getLsbD_of_ge mask b (by omega)]

/-- The legal masks are the seven values of `PageMaskOf`. -/
theorem pageMaskOf_cases {mask : BitVec 12} {j : Nat} (h : PageMaskOf mask j) :
    (j = 0 ∧ mask = 0x000) ∨ (j = 1 ∧ mask = 0x003) ∨ (j = 2 ∧ mask = 0x00F) ∨ (j = 3 ∧ mask = 0x03F) ∨
      (j = 4 ∧ mask = 0x0FF) ∨ (j = 5 ∧ mask = 0x3FF) ∨ (j = 6 ∧ mask = 0xFFF) := by
  obtain ⟨hj, hmask⟩ := h
  interval_cases j <;> simp <;> bv_omega

/-- A legal mask with `2 * j` ones gives `12 + 2 * j` offset bits. -/
theorem offsetBits_of_pageMask {mask : BitVec 12} {j : Nat} (h : PageMaskOf mask j) : offsetBits mask = 12 + 2 * j := by
  rcases pageMaskOf_cases h with ⟨rfl, rfl⟩ | ⟨rfl, rfl⟩ | ⟨rfl, rfl⟩ | ⟨rfl, rfl⟩ | ⟨rfl, rfl⟩ | ⟨rfl, rfl⟩ |
    ⟨rfl, rfl⟩ <;> rfl

theorem legalMask_iff (mask : BitVec 12) : legalMask mask = true ↔ ∃ j, PageMaskOf mask j := by
  constructor
  · intro h
    simp only [legalMask, List.contains_eq_mem, List.mem_cons, List.not_mem_nil, or_false, decide_eq_true_eq] at h
    unfold PageMaskOf
    rcases h with h | h | h | h | h | h | h
    exacts [⟨0, by omega⟩, ⟨1, by omega⟩, ⟨2, by omega⟩, ⟨3, by omega⟩, ⟨4, by omega⟩, ⟨5, by omega⟩, ⟨6, by omega⟩]
  · rintro ⟨j, h⟩
    rcases pageMaskOf_cases h with ⟨-, rfl⟩ | ⟨-, rfl⟩ | ⟨-, rfl⟩ | ⟨-, rfl⟩ | ⟨-, rfl⟩ | ⟨-, rfl⟩ | ⟨-, rfl⟩ <;> rfl

/-! ### The physical address in a page (R121) -/

theorem lowOnes_eq (n : Nat) : ((1 <<< n) - 1 : BitVec 40) = BitVec.ofNat 40 (2 ^ n - 1) := by
  have hpos : 0 < 2 ^ n := Nat.two_pow_pos n
  have hone : (1 : BitVec 40).toNat = 1 := rfl
  refine BitVec.eq_of_toNat_eq ?_
  rw [BitVec.toNat_sub, hone, BitVec.natCast_eq_ofNat, BitVec.toNat_ofNat, BitVec.toNat_ofNat, Nat.shiftLeft_eq,
    one_mul]
  omega

/-- The page frame followed by the page offset. -/
theorem pageAddress_eq {n : Nat} (hlo : 12 ≤ n) (hhi : n < 40) (pfn : BitVec 28) (va : Dword) :
    pageAddress n pfn va = BitVec.ofNat 40 (pfn.toNat / 2 ^ (n - 12) * 2 ^ n + va.toNat % 2 ^ n) := by
  have hframe : (pfn ++ (0 : BitVec 12)).toNat / 2 ^ n = pfn.toNat / 2 ^ (n - 12) := by
    have hn : 2 ^ n = 2 ^ (n - 12) * 2 ^ 12 := by rw [← Nat.pow_add]; congr 1; omega
    rw [BitVec.toNat_append, Nat.shiftLeft_eq, hn, show (0 : BitVec 12).toNat = 0 from rfl, Nat.or_zero]
    exact Nat.mul_div_mul_right _ _ (Nat.two_pow_pos 12)
  have hhigh : ((pfn ++ (0 : BitVec 12)) &&& ~~~BitVec.ofNat 40 (2 ^ n - 1)).toNat =
      pfn.toNat / 2 ^ (n - 12) * 2 ^ n := by
    rw [toNat_and_not_lowMask, hframe]
  have hlow : (va.extractLsb' 0 40 &&& BitVec.ofNat 40 (2 ^ n - 1)).toNat = va.toNat % 2 ^ n := by
    rw [toNat_and_lowMask, BitVec.extractLsb'_toNat, Nat.shiftRight_zero]
    exact Nat.mod_mod_of_dvd _ (Nat.pow_dvd_pow 2 hhi.le)
  simp only [pageAddress, lowOnes_eq]
  refine BitVec.eq_of_toNat_eq ?_
  have hsum := toNat_or_of_disjoint hhigh (hlow ▸ Nat.mod_lt _ (Nat.two_pow_pos n))
  rw [BitVec.toNat_ofNat, ← hlow, ← hsum, Nat.mod_eq_of_lt (BitVec.isLt _)]

/-- The page that the bit above the page offset selects. -/
theorem page_eq (e : TlbEntry) (va : Dword) :
    e.page va = if va.toNat / 2 ^ offsetBits e.mask % 2 = 1 then e.odd else e.even := by
  simp only [TlbEntry.page, BitVec.getLsbD, Nat.testBit_eq_decide_div_mod_eq, decide_eq_true_eq]

/-! ### The checks on the page (R122) -/

theorem checkPage_invalid (s : State) (k : Access) (va : Dword) {p : TlbPage} (hv : p.v = false) (n : Nat) :
    checkPage s k va p n = .raise (.tlbInvalid (k == .store) va) s := by
  simp [checkPage, hv, isStore_eq]

theorem checkPage_modified (s : State) (va : Dword) {p : TlbPage} (hv : p.v = true) (hd : p.d = false) (n : Nat) :
    checkPage s .store va p n = .raise (.tlbModified va) s := by
  simp [checkPage, hv, hd, Access.isStore]

theorem checkPage_notExecutable (s : State) (va : Dword) {p : TlbPage} (hv : p.v = true) (he : p.e = true) (n : Nat) :
    checkPage s .fetch va p n = .raise (.addressError false va) s := by
  simp [checkPage, hv, he, Access.isStore]

theorem checkPage_passes (s : State) {k : Access} (va : Dword) {p : TlbPage} (hv : p.v = true)
    (hd : k = .store → p.d = true) (he : k = .fetch → p.e = false) (n : Nat) :
    checkPage s k va p n = .ok (pageAddress n p.pfn va, p.c) s := by
  cases k <;> simp_all [checkPage, Access.isStore]

/-- The checks leave the state alone. -/
theorem checkPage_state (s : State) (k : Access) (va : Dword) (p : TlbPage) (n : Nat) :
    (checkPage s k va p n).Keeps (· = s) := by
  unfold checkPage
  repeat' split
  all_goals rfl

/-! ### The match (R120) -/

theorem asid_toNat (s : State) : s.asid.toNat = s.cp0.entryHi.toNat % 256 := by
  rw [State.asid, BitVec.extractLsb'_toNat, Nat.shiftRight_zero]

/-- Two numbers that agree outside a mask. -/
theorem masked_eq_iff {w : Nat} (a b mask : BitVec w) :
    a &&& ~~~mask = b &&& ~~~mask ↔ ∀ i, i < w → a.getLsbD i = b.getLsbD i ∨ mask.getLsbD i = true := by
  constructor
  · intro h i hi
    have hbit := congrArg (fun v => v.getLsbD i) h
    simp only [BitVec.getLsbD_and, BitVec.getLsbD_not, hi, decide_true, Bool.true_and] at hbit
    cases hm : mask.getLsbD i
    · exact .inl (by simpa [hm] using hbit)
    · exact .inr rfl
  · intro h
    refine BitVec.eq_of_getLsbD_eq fun i hi => ?_
    rw [BitVec.getLsbD_and, BitVec.getLsbD_and, BitVec.getLsbD_not]
    rcases h i hi with hab | hm
    · rw [hab]
    · simp [hm]

/-- An entry hits exactly when `TlbMatches` says that it matches. -/
theorem hit_iff (s : State) (i : Fin 64) (va : Dword) :
    s.tlb[i].hit (va.extractLsb' 62 2) (va.extractLsb' 13 27) s.asid = true ↔ TlbMatches s i va := by
  have hvpn : ∀ b < 27, (va.extractLsb' 13 27).getLsbD b = va.getLsbD (13 + b) := fun b hb => by
    simp [hb]
  simp only [TlbEntry.hit, Bool.and_eq_true, Bool.or_eq_true, beq_iff_eq, masked_eq_iff, getLsbD_vpn2Mask, and_assoc,
    TlbMatches, ← region_toNat, ← asid_toNat, BitVec.toNat_inj]
  refine and_congr_right fun _ => and_congr_left fun _ => forall₂_congr fun b hb => ?_
  rw [hvpn b hb]

theorem mem_tlbHits (s : State) (i : Fin 64) (va : Dword) :
    i ∈ s.tlbHits (va.extractLsb' 62 2) (va.extractLsb' 13 27) s.asid ↔ TlbMatches s i va := by
  rw [State.tlbHits, List.mem_filter, hit_iff]
  exact and_iff_right (List.mem_finRange i)

/-! ### What a lookup answers -/

theorem tlbLookup_miss (h : ∀ i, ¬ TlbMatches s i va) :
    s.tlbLookup (va.extractLsb' 62 2) (va.extractLsb' 13 27) s.asid = .miss := by
  have hnil : s.tlbHits (va.extractLsb' 62 2) (va.extractLsb' 13 27) s.asid = [] :=
    List.eq_nil_iff_forall_not_mem.mpr fun i hi => h i ((mem_tlbHits s i va).mp hi)
  rw [State.tlbLookup, hnil]

theorem tlbLookup_several {i j : Fin 64} (hij : i ≠ j) (hi : TlbMatches s i va) (hj : TlbMatches s j va) :
    s.tlbLookup (va.extractLsb' 62 2) (va.extractLsb' 13 27) s.asid = .several := by
  have hi := (mem_tlbHits s i va).mpr hi
  have hj := (mem_tlbHits s j va).mpr hj
  unfold State.tlbLookup
  generalize s.tlbHits (va.extractLsb' 62 2) (va.extractLsb' 13 27) s.asid = hits at hi hj
  match hits, hi, hj with
  | [a], hi, hj => exact absurd ((List.mem_singleton.mp hi).trans (List.mem_singleton.mp hj).symm) hij
  | _ :: _ :: _, _, _ => rfl

theorem tlbLookup_found {i : Fin 64} (h : OnlyTlbMatch s i va) :
    s.tlbLookup (va.extractLsb' 62 2) (va.extractLsb' 13 27) s.asid = .found i := by
  have hone : s.tlbHits (va.extractLsb' 62 2) (va.extractLsb' 13 27) s.asid = [i] := by
    have hnodup := (List.nodup_finRange 64).filter
      fun j => s.tlb[j].hit (va.extractLsb' 62 2) (va.extractLsb' 13 27) s.asid
    refine List.perm_singleton.mp ((List.perm_ext_iff_of_nodup hnodup (List.nodup_singleton i)).mpr fun j => ?_)
    rw [List.mem_singleton, ← h j]
    exact mem_tlbHits s j va
  rw [State.tlbLookup, hone]

theorem onlyTlbMatch_of_found {i : Fin 64}
    (h : s.tlbLookup (va.extractLsb' 62 2) (va.extractLsb' 13 27) s.asid = .found i) : OnlyTlbMatch s i va := by
  intro j
  rw [← mem_tlbHits]
  unfold State.tlbLookup at h
  split at h
  · cases h
  · next hone =>
    cases h
    rw [hone, List.mem_singleton]
  · cases h

/-! ### Translation by the JTLB -/

theorem translateMapped_found {i : Fin 64} (h : OnlyTlbMatch s i va) (k : Access) :
    translateMapped s k va = checkPage s k va (s.tlb[i].page va) (offsetBits s.tlb[i].mask) := by
  rw [translateMapped, tlbLookup_found h]

/-- The JTLB answers without changing the state. -/
theorem translateMapped_state (s : State) (k : Access) (va : Dword) : (translateMapped s k va).Keeps (· = s) := by
  unfold translateMapped
  split
  · rfl
  · trivial
  · exact checkPage_state s k va _ _

theorem translateMapped_raise_state {x : Exc} {u : State} (h : translateMapped s k va = .raise x u) : u = s := by
  have hk := translateMapped_state s k va
  rwa [h] at hk

theorem translateMapped_ok_state {r : BitVec 40 × BitVec 3} {u : State} (h : translateMapped s k va = .ok r u) :
    u = s := by
  have hk := translateMapped_state s k va
  rwa [h] at hk

/-- The page that an entry with a legal mask selects. -/
theorem page_of_pageMask {e : TlbEntry} {j : Nat} (h : PageMaskOf e.mask j) (va : Dword) :
    e.page va = if va.toNat / 2 ^ (12 + 2 * j) % 2 = 1 then e.odd else e.even := by
  rw [page_eq, offsetBits_of_pageMask h]

/-- Settles O32: the answer of the lookup, then the checks on the page. -/
theorem mappedTranslation : Obligations.MappedTranslation := by
  intro s k va
  refine ⟨fun h => ?_, fun i j hij hi hj => ?_, fun i j hone hmask => ?_⟩
  · rw [translateMapped, tlbLookup_miss h, isStore_eq]
  · rw [translateMapped, tlbLookup_several hij hi hj]
  · intro n p
    have hcheck : translateMapped s k va = checkPage s k va p n := by
      rw [translateMapped_found hone, offsetBits_of_pageMask hmask, page_of_pageMask hmask]
    obtain ⟨hj, -⟩ := hmask
    rw [hcheck]
    refine ⟨fun hv => checkPage_invalid s k va hv n, fun hv hk hd => ?_, fun hv hk he => ?_, fun hv hd he => ?_⟩
    · rw [hk]
      exact checkPage_modified s va hv hd n
    · rw [hk]
      exact checkPage_notExecutable s va hv he n
    · rw [checkPage_passes s va hv hd he, pageAddress_eq (by omega) (by omega)]

/-! ### The ITLB (R72, R128) -/

/-- An ITLB entry translates an address when it holds its region and its page number. -/
def HoldsPage (e : ItlbEntry) (j : Nat) (va : Dword) : Prop :=
  e.r.toNat = va.toNat / 2 ^ 62 ∧ e.vpn.toNat / 4 ^ j = va.toNat / 2 ^ (12 + 2 * j) % 2 ^ (28 - 2 * j)

theorem pageNumber_toNat (va : Dword) : (va.extractLsb' 12 28).toNat = va.toNat / 2 ^ 12 % 2 ^ 28 := by
  rw [BitVec.extractLsb'_toNat, Nat.shiftRight_eq_div_pow]

theorem itlbHit_iff {j : Nat} (hj : j ≤ 6) (e : ItlbEntry) (va : Dword) :
    e.hit (12 + 2 * j) va = true ↔ HoldsPage e j va := by
  have hpage : va.toNat / 2 ^ 12 % 2 ^ 28 / 2 ^ (2 * j) = va.toNat / 2 ^ (12 + 2 * j) % 2 ^ (28 - 2 * j) := by
    have h28 : 2 ^ 28 = 2 ^ (2 * j) * 2 ^ (28 - 2 * j) := by rw [← Nat.pow_add]; congr 1; omega
    rw [h28, Nat.mod_mul_right_div_self, Nat.div_div_eq_div_mul, ← Nat.pow_add]
  simp only [ItlbEntry.hit, HoldsPage, Bool.and_eq_true, beq_iff_eq, ← BitVec.toNat_inj, region_toNat,
    BitVec.toNat_ushiftRight, Nat.shiftRight_eq_div_pow, pageNumber_toNat, Nat.add_sub_cancel_left, hpage,
    show 4 ^ j = 2 ^ (2 * j) by rw [Nat.pow_mul]]

theorem itlbLookup_none {n : Nat} (h : ∀ (m : Fin 16) e, s.itlb[m] = some e → e.hit n va = false) :
    s.itlbLookup n va = none := by
  refine List.findSome?_eq_none_iff.mpr fun o ho => ?_
  obtain ⟨m, hm, rfl⟩ := Vector.mem_iff_getElem.mp (Vector.mem_toList_iff.mp ho)
  cases hc : s.itlb[m] with
  | none => rfl
  | some e =>
    have hmiss := h ⟨m, hm⟩ e hc
    simp [hmiss]

/-- The first entry that translates an address answers. -/
theorem itlbLookup_first {n : Nat} {m : Fin 16} {e : ItlbEntry} (hm : s.itlb[m] = some e) (he : e.hit n va = true)
    (h : ∀ (q : Fin 16) d, q < m → s.itlb[q] = some d → d.hit n va = false) : s.itlbLookup n va = some e := by
  have hlen : m.val < s.itlb.toList.length := by simp
  have hsplit : s.itlb.toList = s.itlb.toList.take m ++ s.itlb.toList[m.val] :: s.itlb.toList.drop (m + 1) := by
    rw [List.getElem_cons_drop, List.take_append_drop]
  refine List.findSome?_eq_some_iff.mpr ⟨_, _, _, hsplit, ?_, fun o ho => ?_⟩
  · have hget : s.itlb.toList[m.val] = some e := by simpa using hm
    simp [hget, he]
  · obtain ⟨q, hq, rfl⟩ := List.mem_take_iff_getElem.mp ho
    have hqm : q < m.val := by omega
    rw [Vector.getElem_toList]
    cases hc : s.itlb[q] with
    | none => rfl
    | some d =>
      have hmiss := h ⟨q, by omega⟩ d hqm hc
      simp [hmiss]

/-- With a mask that gives no page size the JTLB alone translates. -/
theorem translateFetch_no_size (h : legalMask s.pageMaskField = false) (va : Dword) :
    translateFetch s va = translateMapped s .fetch va := by
  simp [translateFetch, h]

/-- An ITLB entry that holds the page answers. -/
theorem translateFetch_held (hl : legalMask s.pageMaskField = true) {e : ItlbEntry}
    (h : s.itlbLookup (offsetBits s.pageMaskField) va = some e) :
    translateFetch s va = checkPage s .fetch va e.page (offsetBits s.pageMaskField) := by
  simp [translateFetch, hl, h]

/-- A page that no ITLB entry holds raises what the JTLB raises. -/
theorem translateFetch_raises (hl : legalMask s.pageMaskField = true)
    (h : s.itlbLookup (offsetBits s.pageMaskField) va = none) {x : Exc} {u : State}
    (hx : translateMapped s .fetch va = .raise x u) : translateFetch s va = .raise x u := by
  unfold translateMapped at hx
  simp only [translateFetch, hl, h, Bool.not_true, Bool.false_eq_true, if_false]
  split at hx
  · exact hx
  · cases hx
  · simp only [hx, Res.bind_raise]

/-- A page that no ITLB entry holds is filled from the JTLB. -/
theorem translateFetch_fills (hl : legalMask s.pageMaskField = true)
    (h : s.itlbLookup (offsetBits s.pageMaskField) va = none) {r : BitVec 40 × BitVec 3} {u : State}
    (hr : translateMapped s .fetch va = .ok r u) :
    ∃ i, OnlyTlbMatch s i va ∧ translateFetch s va = .ok r (s.itlbFill va (s.tlb[i].page va)) := by
  obtain rfl := translateMapped_ok_state hr
  unfold translateMapped at hr
  simp only [translateFetch, hl, h, Bool.not_true, Bool.false_eq_true, if_false]
  split at hr
  · cases hr
  · cases hr
  · next i hfound =>
    refine ⟨i, onlyTlbMatch_of_found hfound, ?_⟩
    simp only [hr, Res.bind_ok]

/-- A fill changes one entry of the ITLB. -/
theorem itlbFill_spec (s : State) (va : Dword) (p : TlbPage) :
    ∃ n : Fin 16, (s.itlbFill va p).itlb[n] =
        some { r := va.extractLsb' 62 2, vpn := va.extractLsb' 12 28, page := p } ∧
      ∀ m : Fin 16, m ≠ n → (s.itlbFill va p).itlb[m] = s.itlb[m] := by
  let victim : BitVec 4 := (s.free .itlbEntry 0).extractLsb' 0 4
  refine ⟨⟨victim.toNat, victim.isLt⟩, Vector.getElem_set_self _, fun m hm => ?_⟩
  exact Vector.getElem_set_ne victim.isLt m.isLt fun h => hm (Fin.ext h.symm)

/-- Settles O33: the ITLB entry that holds the page, or the JTLB and a fill. -/
theorem fetchTranslation : Obligations.FetchTranslation := by
  intro s va
  refine ⟨fun h => translateFetch_no_size ?_ va, fun j hmask => ?_⟩
  · exact Bool.eq_false_iff.mpr fun hl => absurd ((legalMask_iff _).mp hl) (not_exists.mpr h)
  intro holds
  have hl : legalMask s.pageMaskField = true := (legalMask_iff _).mpr ⟨j, hmask⟩
  have hbits : offsetBits s.pageMaskField = 12 + 2 * j := offsetBits_of_pageMask hmask
  have hj : j ≤ 6 := hmask.1
  have hmiss : ∀ (n : Fin 16) (e : ItlbEntry), ¬ holds n e → s.itlb[n] = some e →
      e.hit (offsetBits s.pageMaskField) va = false := fun n e hn he => by
    rw [hbits]
    exact Bool.eq_false_iff.mpr fun hit => hn ⟨he, (itlbHit_iff hj e va).mp hit⟩
  refine ⟨fun hno => ⟨fun x u hx => ?_, fun r u hr => ?_⟩, fun n e hn hfirst => ?_⟩
  · obtain rfl := translateMapped_raise_state hx
    exact translateFetch_raises hl (itlbLookup_none fun n e he => hmiss n e (hno n e) he) hx
  · have hnone := itlbLookup_none fun n e he => hmiss n e (hno n e) he
    obtain ⟨i, hone, hfetch⟩ := translateFetch_fills hl hnone hr
    obtain ⟨n, hn, hothers⟩ := itlbFill_spec s va (s.tlb[i].page va)
    refine ⟨_, n, _, hfetch, rfl, hn, hothers, region_toNat va, pageNumber_toNat va, fun q m hq hm => ?_⟩
    obtain rfl : q = i := (hone q).mp ((hq q).mpr rfl)
    exact page_of_pageMask hm va
  · have hheld := translateFetch_held hl (itlbLookup_first hn.1 (by rw [hbits]; exact (itlbHit_iff hj e va).mpr hn.2)
      fun q d hq hd => hmiss q d (hfirst q d hq) hd)
    rw [hheld, hbits]
    refine ⟨fun hv => checkPage_invalid s _ va hv _, fun hv he => checkPage_notExecutable s va hv he _,
      fun hv he => ?_⟩
    rw [checkPage_passes s va hv (fun h => Access.noConfusion h) (fun _ => he), pageAddress_eq (by omega) (by omega),
      Nat.add_sub_cancel_left, Nat.pow_mul]

end Sys2Proof.Machine
end

section
/-! The loads and stores: their address, what each primitive does with it, and their exceptions in order:
`DataAccessExceptions`. -/

namespace Sys2Proof.Machine

variable {s : State} {va : Dword}

/-! ### Addresses -/

theorem addressOf_eq (s : State) (base : Reg) (offset : BitVec 16) :
    addressOf s base offset = s.effectiveAddress base offset := by
  rw [addressOf, State.regInt, BitVec.ofInt_add, BitVec.ofInt_toInt]
  rfl

theorem aligned_iff (va : Dword) (n : Nat) : aligned va n = true ↔ va.toNat % n = 0 := by simp [aligned]

/-- The partial accesses need no alignment. -/
theorem alignedAddress_one (s : State) (store : Bool) (va : Dword) :
    alignedAddress s store va 1 = dataAddress s store va := by
  simp [alignedAddress, aligned, Nat.mod_one]

/-- The address where a partial access begins lies in the doubleword of the physical address. -/
theorem atByte_doubleword (pa : BitVec 40) (first : Dword) : (atByte pa first).toNat / 8 = pa.toNat / 8 := by
  have hhigh : (pa.extractLsb' 3 37).toNat = pa.toNat / 8 := by
    rw [BitVec.extractLsb'_toNat, Nat.shiftRight_eq_div_pow]
    omega
  have hlow : (first.extractLsb' 0 3).toNat < 8 := (first.extractLsb' 0 3).isLt
  rw [atByte, BitVec.toNat_append, ← Nat.shiftLeft_add_eq_or_of_lt hlow, Nat.shiftLeft_eq, hhigh]
  omega

/-! ### The address check in its order (R130) -/

theorem alignedAddress_misaligned {n : Nat} (h : va.toNat % n ≠ 0) (s : State) (store : Bool) :
    alignedAddress s store va n = .raise (.addressError store va) s := by
  simp [alignedAddress, aligned, h]

theorem alignedAddress_aligned {n : Nat} (h : va.toNat % n = 0) (s : State) (store : Bool) :
    alignedAddress s store va n = dataAddress s store va := by
  simp [alignedAddress, aligned, h]

theorem dataAddress_of_raise {store : Bool} {e : Exc} {u : State}
    (h : translate s (if store then .store else .load) va = .raise e u) : dataAddress s store va = .raise e u := by
  simp [dataAddress, h]

/-- Whether an access is watched depends on CP0 alone. -/
theorem watched_iff (s : State) (store : Bool) (va : Dword) :
    s.watched store va = true ↔
      va.toNat / 8 = s.cp0.watch.toNat / 8 ∧ s.cp0.watch.getLsbD (if store then 0 else 1) = true := by
  have hd : ∀ v : Dword, (v.extractLsb' 3 61).toNat = v.toNat / 8 := fun v => by
    rw [BitVec.extractLsb'_toNat, Nat.shiftRight_eq_div_pow]
    omega
  cases store <;> simp [State.watched, ← BitVec.toNat_inj, hd]

/-- A translation leaves CP0 alone. -/
theorem translate_ok_cp0 {k : Access} {r : BitVec 40 × BitVec 3} {u : State} (h : translate s k va = .ok r u) :
    u.cp0 = s.cp0 := by
  have hc := translate_core (hasCore_core s) k va
  rw [h] at hc
  exact hc.cp0

theorem dataAddress_watched {store : Bool} {r : BitVec 40 × BitVec 3} {u : State}
    (h : translate s (if store then .store else .load) va = .ok r u) (hw : s.watched store va = true) :
    dataAddress s store va = .raise .watch u := by
  have hu : u.watched store va = true := by
    rw [State.watched, translate_ok_cp0 h]
    exact hw
  simp [dataAddress, h, hu]

theorem dataAddress_of_translates {store : Bool} {pa : BitVec 40} {c : BitVec 3} (h : Translates s store va pa c) :
    dataAddress s store va = .ok (pa, c) s := by
  simp [dataAddress, h.1, h.2]

/-! ### Ends of loads and stores -/

theorem load_of_raise {rt : Reg} {n : Nat} {extend : Dword → Dword} {e : Exc} {u : State} (h0 : rt ≠ 0)
    (h : memRead s va n = .raise e u) : load s rt va n extend = .next (takeException e u) := by
  rw [load, if_neg h0, h]
  rfl

theorem load_of_ok {rt : Reg} {n : Nat} {extend : Dword → Dword} {v : Dword} {u : State} (h0 : rt ≠ 0)
    (h : memRead s va n = .ok v u) : load s rt va n extend = .next (u.writeGpr rt (extend v)).advance := by
  rw [load, if_neg h0, h]
  rfl

theorem loadLinked_of_raise {rt : Reg} {n : Nat} {extend : Dword → Dword} {e : Exc} {u : State} (h0 : rt ≠ 0)
    (h : memRead s va n = .raise e u) : loadLinked s rt va n extend = .next (takeException e u) := by
  rw [loadLinked, if_neg h0, h]
  rfl

theorem loadPart_of_raise {rt : Reg} {p : Part} {merge : Dword → Dword → Dword} {e : Exc} {u : State} (h0 : rt ≠ 0)
    (h : memReadPart s p.va p.first p.count = .raise e u) : loadPart s rt p merge = .next (takeException e u) := by
  rw [loadPart, if_neg h0, h]
  rfl

theorem storePart_of_raise {p : Part} {v : Dword} {e : Exc} {u : State}
    (h : memWritePart s p.va p.first p.count v = .raise e u) : storePart s p v = .next (takeException e u) := by
  simp [storePart, h]

theorem storeConditional_of_raise {rt : Reg} {n : Nat} {e : Exc} {u : State}
    (h : memWriteConditional s va n (s.readGpr rt) = .raise e u) :
    storeConditional s rt va n = .next (takeException e u) := by
  simp [storeConditional, h]

theorem fpInstruction_of_raise {k : State → Res Unit} {e : Exc} {u : State} (hc : s.cu 1 = true)
    (h : k s = .raise e u) : fpInstruction s k = .next (takeException e u) := by
  simp [fpInstruction_eq, hc, h]

/-! ### An exception of a load or a store leaves the state before it (R621) -/

/-- What the address check of an instruction raises, its primitive raises. -/
theorem memRead_of_address_raise {n : Nat} {e : Exc} {u : State} (h : alignedAddress s false va n = .raise e u) :
    memRead s va n = .raise e s := by
  simp [memRead, h]

theorem memWrite_of_address_raise {n : Nat} {e : Exc} {u : State} (h : alignedAddress s true va n = .raise e u)
    (v : Dword) : memWrite s va n v = .raise e s := by
  simp [memWrite, h]

theorem memReadPart_of_address_raise {e : Exc} {u : State} (h : alignedAddress s false va 1 = .raise e u)
    (first : Dword) (n : Nat) : memReadPart s va first n = .raise e s := by
  rw [alignedAddress_one] at h
  simp [memReadPart, h]

theorem memWritePart_of_address_raise {e : Exc} {u : State} (h : alignedAddress s true va 1 = .raise e u)
    (first : Dword) (n : Nat) (v : Dword) : memWritePart s va first n v = .raise e s := by
  rw [alignedAddress_one] at h
  simp [memWritePart, h]

theorem memWriteConditional_of_address_raise {n : Nat} {e : Exc} {u : State}
    (h : alignedAddress s true va n = .raise e u) (v : Dword) : memWriteConditional s va n v = .raise e s := by
  simp [memWriteConditional, h]

/-- What the address check raises, the instruction takes from the state before it: loads, stores, partial accesses,
linked and conditional ones, and those of coprocessor 1. -/
theorem exec_of_address_raise {i : Instr} {a : DataAccess} (hi : dataAccessOf i = some a) (hp : a.prefetch = false)
    (hc : a.cp1 = true → s.cu 1 = true) {e : Exc} {u : State}
    (h : alignedAddress s a.store (addressOf s a.base a.offset) a.alignment = .raise e u) :
    exec i s = .next (takeException e s) := by
  rw [addressOf_eq] at h
  cases i
  case lb | lbu | lh | lhu | lw | lwu | ld =>
    cases hi
    exact load_of_raise (by simpa using hp) (memRead_of_address_raise h)
  case ll | lld =>
    cases hi
    exact loadLinked_of_raise (by simpa using hp) (memRead_of_address_raise h)
  case lwl | lwr | ldl | ldr =>
    cases hi
    exact loadPart_of_raise (by simpa using hp) (memReadPart_of_address_raise h _ _)
  case sb | sh | sw | sd =>
    cases hi
    exact congrArg Res.finish (memWrite_of_address_raise h _)
  case swl | swr | sdl | sdr =>
    cases hi
    exact storePart_of_raise (memWritePart_of_address_raise h _ _ _)
  case sc | scd =>
    cases hi
    exact storeConditional_of_raise (memWriteConditional_of_address_raise h _)
  case lwc1 | ldc1 =>
    cases hi
    exact fpInstruction_of_raise (hc rfl) (by rw [memRead_of_address_raise h]; rfl)
  case swc1 | sdc1 =>
    cases hi
    exact fpInstruction_of_raise (hc rfl) (memWrite_of_address_raise h _)
  all_goals cases hi

/-! ### The error reply to an uncached load (R648) -/

@[simp] theorem flushGather_of_none (h : s.gather = none) : flushGather s = .ok () s := by simp [flushGather, h]

theorem dataRead_busError {c : BitVec 3} {pa : BitVec 40} (hc : c ≠ 3) (hg : s.gather = none)
    (hb : s.busErrorAt pa false = true) (va : Dword) (n : Nat) :
    dataRead s c va pa n = .raise (.busError false) s := by
  rw [dataRead, if_neg hc, flushGather_of_none hg, Res.bind_ok, if_pos hb]

theorem memRead_of_read_raise {n : Nat} {pa : BitVec 40} {c : BitVec 3} {e : Exc} {u : State}
    (ha : alignedAddress s false va n = .ok (pa, c) s) (h : dataRead s c va pa n = .raise e u) :
    memRead s va n = .raise e s := by
  simp [memRead, ha, h]

theorem memReadPart_of_read_raise {n : Nat} {first : Dword} {pa : BitVec 40} {c : BitVec 3} {e : Exc} {u : State}
    (ha : alignedAddress s false va 1 = .ok (pa, c) s) (h : dataRead s c va (atByte pa first) n = .raise e u) :
    memReadPart s va first n = .raise e s := by
  rw [alignedAddress_one] at ha
  simp [memReadPart, ha, h]

/-- What every read in the doubleword of its address raises, a load takes from the state before it. -/
theorem exec_of_read_raise {i : Instr} {a : DataAccess} (hi : dataAccessOf i = some a) (hp : a.prefetch = false)
    (hc : a.cp1 = true → s.cu 1 = true) (hl : a.store = false) {pa : BitVec 40} {c : BitVec 3} {e : Exc}
    (ha : alignedAddress s false (addressOf s a.base a.offset) a.alignment = .ok (pa, c) s)
    (h : ∀ (q : BitVec 40) (n : Nat), q.toNat / 8 = pa.toNat / 8 →
      dataRead s c (addressOf s a.base a.offset) q n = .raise e s) : exec i s = .next (takeException e s) := by
  rw [addressOf_eq] at ha h
  cases i
  case lb | lbu | lh | lhu | lw | lwu | ld =>
    cases hi
    exact load_of_raise (by simpa using hp) (memRead_of_read_raise ha (h pa _ rfl))
  case ll | lld =>
    cases hi
    exact loadLinked_of_raise (by simpa using hp) (memRead_of_read_raise ha (h pa _ rfl))
  case lwl | lwr | ldl | ldr =>
    cases hi
    exact loadPart_of_raise (by simpa using hp) (memReadPart_of_read_raise ha (h _ _ (atByte_doubleword pa _)))
  case lwc1 | ldc1 =>
    cases hi
    exact fpInstruction_of_raise (hc rfl) (by rw [memRead_of_read_raise ha (h pa _ rfl)]; rfl)
  case sb | sh | sw | sd | swl | swr | sdl | sdr | sc | scd | swc1 | sdc1 =>
    cases hi
    cases hl
  all_goals cases hi

/-- Settles O41: the address check in its order, then the error reply. -/
theorem dataAccessExceptions : Obligations.DataAccessExceptions := by
  intro i a s hi hp hc va kind
  have hraise := fun e u h => exec_of_address_raise (s := s) hi hp hc (e := e) (u := u) h
  refine ⟨fun h => hraise _ _ (alignedAddress_misaligned h s a.store), fun h => ?_⟩
  rw [alignedAddress_aligned h] at hraise
  refine ⟨fun e u he => hraise e u (dataAddress_of_raise he), fun r u hr hwatch hkind => ?_,
    fun pa c hl ht hcached hg hb => ?_⟩
  · exact hraise .watch u (dataAddress_watched hr ((watched_iff s a.store va).mpr ⟨hwatch, hkind⟩))
  · refine exec_of_read_raise hi hp hc hl ?_ fun q n hq => dataRead_busError hcached hg (hb q hq) va n
    rw [alignedAddress_aligned h]
    exact dataAddress_of_translates ht

end Sys2Proof.Machine
end

section
/-! SUPPORT. Memory, the gather buffer and the lines of the caches: what an access to initialised DDR2 memory reads and
writes, what writing the gather buffer out does, and which lines a replacement leaves. -/

namespace Sys2Proof.Machine

variable {s : State} {va : Dword} {pa : BitVec 40}

/-! ### Bytes of memory and of a line as numbers (R101) -/

theorem readBytes_succ (m : List Host.Cell) (a n : Nat) :
    readBytes m a (n + 1) = readByte m a :: readBytes m (a + 1) n := by
  simp [readBytes, List.range_succ_eq_map, Function.comp_def, Nat.add_assoc, Nat.add_comm 1]

/-- The bytes of memory from an address on make the number that `memNat` says. -/
theorem ofBytes_readBytes (w : Nat) (m : List Host.Cell) (a n : Nat) :
    ofBytes w (readBytes m a n) = BitVec.ofNat w (memNat m a n) := by
  induction n generalizing a with
  | zero => rfl
  | succ n ih => rw [readBytes_succ, ofBytes_cons_ofNat (ih (a + 1)), memNat]

/-- The bytes of a line from the place of an address on make the number that `lineNat` says. -/
theorem ofBytes_lineBytes (w : Nat) (d : LineData) (pa : BitVec 40) (n : Nat) :
    ofBytes w (lineBytes d pa n) = BitVec.ofNat w (lineNat d (pa.toNat % 32) n) := by
  rw [lineBytes, ofBytes_toBytes_eq_ofNat, BitVec.toNat_ushiftRight, Nat.shiftRight_eq_div_pow, lineNat]

/-- Bit `i` of a value after bytes are put into it. -/
theorem getLsbD_insertBytes {w : Nat} (v : BitVec w) (o : Nat) (bs : List Byte) (i : Nat) (hi : i < w) :
    (insertBytes v o bs).getLsbD i =
      if o ≤ i / 8 ∧ i / 8 < o + bs.length then (bs.getD (i / 8 - o) 0).getLsbD (i % 8) else v.getLsbD i := by
  induction bs generalizing v o with
  | nil =>
    rw [if_neg (by simp only [List.length_nil]; omega)]
    rfl
  | cons b bs ih =>
    have hbyte : (((0xFF : BitVec w)) <<< (8 * o)).getLsbD i = decide (i / 8 = o) := by
      have hff : (0xFF : BitVec w) = BitVec.ofNat w (2 ^ 8 - 1) := rfl
      rw [BitVec.getLsbD_shiftLeft, hff, getLsbD_lowMask, Bool.eq_iff_iff]
      simp only [Bool.and_eq_true, Bool.not_eq_true', decide_eq_true_eq, decide_eq_false_iff_not]
      omega
    have hnew : (b.setWidth w <<< (8 * o)).getLsbD i = (decide (i / 8 = o) && b.getLsbD (i % 8)) := by
      rw [BitVec.getLsbD_shiftLeft, BitVec.getLsbD_setWidth]
      by_cases ho : i / 8 = o
      · have hsub : i - 8 * o = i % 8 := by omega
        simp [ho, hi, hsub, show ¬ i < 8 * o by omega, show i % 8 < w by omega]
      · by_cases hlt : i < 8 * o
        · simp [ho, hlt]
        · simp [ho, BitVec.getLsbD_of_ge b (i - 8 * o) (by omega)]
    rw [insertBytes, ih, BitVec.getLsbD_or, BitVec.getLsbD_and, BitVec.getLsbD_not, hbyte, hnew, List.length_cons]
    by_cases ho : i / 8 = o
    · rw [if_neg (by omega), if_pos (by omega)]
      simp [ho]
    · by_cases hin : o + 1 ≤ i / 8 ∧ i / 8 < o + 1 + bs.length
      · rw [if_pos hin, if_pos (by omega), show i / 8 - o = i / 8 - (o + 1) + 1 by omega, List.getD_cons_succ]
      · rw [if_neg hin, if_neg (by omega)]
        simp [ho, hi]

/-- The bytes just put into a line are read back from it. -/
theorem lineBytes_insertBytes (d : LineData) (pa : BitVec 40) (bs : List Byte)
    (h : pa.toNat % 32 + bs.length ≤ 32) :
    lineBytes (insertBytes d (pa.toNat % 32) bs) pa bs.length = bs := by
  unfold lineBytes
  generalize pa.toNat % 32 = o at h
  refine List.ext_getElem (by simp) fun i h1 hi => ?_
  rw [getElem_toBytes]
  refine BitVec.eq_of_getLsbD_eq fun b hb => ?_
  have hbyte : (8 * o + (8 * i + b)) / 8 = o + i := by omega
  have hbit : (8 * o + (8 * i + b)) % 8 = b := by omega
  rw [BitVec.getLsbD_extractLsb', BitVec.getLsbD_ushiftRight, getLsbD_insertBytes _ _ _ _ (by omega), hbyte, hbit,
    if_pos (by omega), Nat.add_sub_cancel_left, List.getD_eq_getElem bs 0 hi]
  simp [hb]

/-! ### The lines after an update -/

theorem iLine_setILine (h : s.canonical) (k j : Nat) (l : ILine) :
    (s.setILine k l).iLine j = if j = k then l else s.iLine j := by
  obtain ⟨-, -, hi, -⟩ := h
  split
  · next hj =>
    rw [hj]
    exact cellGet_cellSet_same _ hi k l
  · next hj => exact cellGet_cellSet_other _ hj l

theorem dLine_setDLine (h : s.canonical) (k j : Nat) (l : DLine) :
    (s.setDLine k l).dLine j = if j = k then l else s.dLine j := by
  obtain ⟨-, -, -, hd, -⟩ := h
  split
  · next hj =>
    rw [hj]
    exact cellGet_cellSet_same _ hd k l
  · next hj => exact cellGet_cellSet_other _ hj l

theorem sLine_setSLine (h : s.canonical) (k j : Nat) (l : SLine) :
    (s.setSLine k l).sLine j = if j = k then l else s.sLine j := by
  obtain ⟨-, -, -, -, hs, -⟩ := h
  split
  · next hj =>
    rw [hj]
    exact cellGet_cellSet_same _ hs k l
  · next hj => exact cellGet_cellSet_other _ hj l

@[simp] theorem iLine_setSLine (s : State) (k j : Nat) (l : SLine) : (s.setSLine k l).iLine j = s.iLine j := rfl
@[simp] theorem dLine_setSLine (s : State) (k j : Nat) (l : SLine) : (s.setSLine k l).dLine j = s.dLine j := rfl

/-- The line of a way of a set is one of the lines of the set. -/
theorem lineKey_mem_waysOf (set : Nat) (way : BitVec 2) : lineKey set way.toNat ∈ waysOf set := by
  have hway : way.toNat = 0 ∨ way.toNat = 1 ∨ way.toNat = 2 ∨ way.toNat = 3 := by omega
  rcases hway with h | h | h | h <;> simp [waysOf, h]

/-- The data cache still hits a line whose new contents hold the address too. -/
theorem dHit_setDLine (h : s.canonical) {k : Nat} {l : DLine} (hk : s.dHit va pa = some k) (hl : l.matches pa = true) :
    (s.setDLine k l).dHit va pa = some k := by
  have hold : (s.dLine k).matches pa = true := List.find?_some (p := fun j => (s.dLine j).matches pa) hk
  have hsame : (fun j => ((s.setDLine k l).dLine j).matches pa) = fun j => (s.dLine j).matches pa := by
    funext j
    rw [dLine_setDLine h]
    split
    · next hj => rw [hj, hl, hold]
    · rfl
  unfold State.dHit
  rw [hsame]
  exact hk

/-! ### Initialised DDR2 memory (R786) -/

theorem physRead_dram {x : Nat} (h : DramAt s pa x) (n : Nat) : physRead s pa n = .ok (readBytes s.mem x n) s := by
  obtain ⟨hroute, hport, hrun, hready, hsize, hflips⟩ := h
  simp [physRead, hroute, ddrRead_memory hport hrun, ddrMemRead_of_no_flips hready hflips hsize]

theorem physWrite_dram {x : Nat} (h : DramAt s pa x) (bs : List Byte) :
    physWrite s pa bs = .ok () { s with mem := writeBytes s.mem x bs } := by
  obtain ⟨hroute, hport, hrun, hready, hsize, hflips⟩ := h
  simp [physWrite, hroute, ddrWrite_memory hport hrun, ddrMemWrite_of_no_flips hready hflips hsize]

/-- Where an address lies in memory depends on neither the bytes there nor the gather buffer. -/
theorem DramAt.withMem {x : Nat} (h : DramAt s pa x) (m : List Host.Cell) : DramAt { s with mem := m } pa x := h

/-! ### Writing the gather buffer out (R143) -/

/-- Bytes stored one by one in memory. -/
theorem physWriteEach_dram {bs : List Byte} {x : Nat}
    (h : ∀ i, i < bs.length → DramAt s (pa + BitVec.ofNat 40 i) (x + i)) :
    physWriteEach s pa bs = .ok () { s with mem := writeBytes s.mem x bs } := by
  induction bs generalizing s pa x with
  | nil => rfl
  | cons b bs ih =>
    have h0 : DramAt s pa x := by simpa using h 0 (by simp)
    have hrest : ∀ i, i < bs.length →
        DramAt { s with mem := writeBytes s.mem x [b] } (pa + 1 + BitVec.ofNat 40 i) (x + 1 + i) := fun i hi => by
      have hi' := (h (i + 1) (by simpa using hi)).withMem (writeBytes s.mem x [b])
      have haddr : pa + 1 + BitVec.ofNat 40 i = pa + BitVec.ofNat 40 (i + 1) := by
        rw [BitVec.add_assoc, Nat.add_comm i 1, BitVec.ofNat_add]
        rfl
      rw [haddr, Nat.add_assoc, Nat.add_comm 1 i]
      exact hi'
    rw [physWriteEach, physWrite_dram h0, Res.bind_ok, ih hrest]
    rfl

/-- The state with the bytes of the gather buffer in memory and the buffer empty. -/
def State.gatherStored (s : State) (g : Gather) (x : Nat) : State :=
  { s with mem := writeBytes s.mem x g.bytes, gather := none }

/-- Bytes that wait for initialised memory are stored there. -/
theorem flushGather_of_gatherAt {g : Gather} {x : Nat} (h : GatherAt s g x) :
    flushGather s = .ok () (s.gatherStored g x) := by
  obtain ⟨-, hg, hne, -, hat⟩ := h
  have hpos : 0 < g.bytes.length := List.length_pos_of_ne_nil hne
  have h0 : DramAt s g.first x := by simpa using hat 0 hpos
  unfold flushGather
  rw [hg]
  simp only []
  split
  · exact physWrite_dram (s := { s with gather := none }) h0 g.bytes
  · exact physWriteEach_dram (s := { s with gather := none }) hat

theorem writtenOut_gatherStored {g : Gather} {x : Nat} (h : GatherAt s g x) :
    WrittenOut s (s.gatherStored g x) g x := by
  obtain ⟨⟨hmem, -⟩, -⟩ := h
  exact ⟨fun i hi => readByte_writeBytes hmem x g.bytes i hi,
    fun a ha => readByte_writeBytes_other s.mem x g.bytes ha, rfl⟩

end Sys2Proof.Machine
end

section
/-! A load after a store to the same address: `StoreThenLoad`. -/

namespace Sys2Proof.Machine

variable {s t : State} {va : Dword} {pa : BitVec 40} {c : BitVec 3}

/-! ### Translation keeps the place in the page -/

theorem offsetBits_bounds (mask : BitVec 12) : 12 ≤ offsetBits mask ∧ offsetBits mask < 40 := by
  have hle := List.length_filter_le (fun i => mask.getLsbD i) (List.range 12)
  rw [List.length_range] at hle
  unfold offsetBits
  omega

theorem pageAddress_low {n : Nat} (hlo : 12 ≤ n) (hhi : n < 40) (pfn : BitVec 28) (va : Dword) :
    (pageAddress n pfn va).toNat % 2 ^ 12 = va.toNat % 2 ^ 12 := by
  have hdvd : 2 ^ 12 ∣ 2 ^ n := Nat.pow_dvd_pow 2 hlo
  rw [pageAddress_eq hlo hhi, BitVec.toNat_ofNat, Nat.mod_mod_of_dvd _ (by decide), Nat.add_mod,
    Nat.mod_eq_zero_of_dvd (hdvd.mul_left _), Nat.zero_add, Nat.mod_mod, Nat.mod_mod_of_dvd _ hdvd]

theorem checkPage_ok {k : Access} {p : TlbPage} {n : Nat} {r : BitVec 40 × BitVec 3} {u : State}
    (h : checkPage s k va p n = .ok r u) : r = (pageAddress n p.pfn va, p.c) := by
  unfold checkPage at h
  repeat' split at h
  all_goals cases h
  rfl

theorem segmentOf_direct_low {m : Mode} {k0 : BitVec 3} (h : segmentOf m k0 va = .direct pa c) :
    pa.toNat % 2 ^ 12 = va.toNat % 2 ^ 12 := by
  unfold segmentOf at h
  repeat' split at h
  all_goals cases h
  all_goals
    simp only [BitVec.toNat_setWidth, BitVec.extractLsb'_toNat, Nat.shiftRight_zero]
    omega

/-- Outside a fetch a translation is by the segment or by the JTLB. -/
theorem translate_low {k : Access} (hk : k ≠ .fetch) {u : State} (h : translate s k va = .ok (pa, c) u) :
    pa.toNat % 2 ^ 12 = va.toNat % 2 ^ 12 := by
  unfold translate at h
  split at h
  · cases h
  · split at h
    · cases h
    · next hs =>
      cases h
      exact segmentOf_direct_low hs
    · rw [if_neg (by simpa using hk)] at h
      unfold translateMapped at h
      split at h
      · cases h
      · cases h
      · next i _ =>
        have hr := checkPage_ok h
        cases hr
        obtain ⟨hlo, hhi⟩ := offsetBits_bounds s.tlb[i].mask
        exact pageAddress_low hlo hhi _ va

theorem dataKind_ne_fetch (store : Bool) : (if store then Access.store else .load) ≠ .fetch := by
  cases store <;> decide

/-- The physical address of a data access has the page offset of its virtual address. -/
theorem translates_low {store : Bool} (h : Translates s store va pa c) : pa.toNat % 2 ^ 12 = va.toNat % 2 ^ 12 :=
  translate_low (dataKind_ne_fetch store) h.1

/-! ### Translation depends on CP0 and the JTLB alone -/

theorem checkPage_congr {k : Access} {p : TlbPage} {n : Nat} {r : BitVec 40 × BitVec 3}
    (h : checkPage s k va p n = .ok r s) (t : State) : checkPage t k va p n = .ok r t := by
  unfold checkPage at h ⊢
  split at h
  · cases h
  · next hv =>
    split at h
    · cases h
    · next hd =>
      split at h
      · cases h
      · next he =>
        cases h
        rw [if_neg hv, if_neg hd, if_neg he]

theorem translate_congr {k : Access} (hk : k ≠ .fetch) {r : BitVec 40 × BitVec 3} (h : translate s k va = .ok r s)
    (hc : t.cp0 = s.cp0) (htlb : t.tlb = s.tlb) : translate t k va = .ok r t := by
  have hmode : t.mode = s.mode := by
    unfold State.mode State.erl State.exl State.ksu
    rw [hc]
  have hlookup : ∀ r v a, t.tlbLookup r v a = s.tlbLookup r v a := fun r v a => by
    unfold State.tlbLookup State.tlbHits
    rw [htlb]
  have hasid : t.asid = s.asid := by rw [State.asid, State.asid, hc]
  unfold translate at h ⊢
  rw [hmode, hc]
  split at h
  · cases h
  · split at h
    · cases h
    · cases h
      rfl
    · rw [if_neg (by simpa using hk)] at h ⊢
      unfold translateMapped at h ⊢
      rw [hlookup, hasid, htlb]
      split at h
      · cases h
      · cases h
      · exact checkPage_congr h t

theorem translates_congr {store : Bool} (h : Translates s store va pa c) (hc : t.cp0 = s.cp0) (htlb : t.tlb = s.tlb) :
    Translates t store va pa c := by
  obtain ⟨ht, hw⟩ := h
  refine ⟨translate_congr (dataKind_ne_fetch store) ht hc htlb, ?_⟩
  rw [← hw, State.watched, State.watched, hc]

/-! ### Accesses that hit -/

theorem dataRead_dram {x : Nat} (hc : c ≠ 3) (hg : s.gather = none) (hb : s.busErrorAt pa false = false)
    (h : DramAt s pa x) (va : Dword) (n : Nat) : dataRead s c va pa n = .ok (readBytes s.mem x n) s := by
  rw [dataRead, if_neg hc, flushGather_of_none hg, Res.bind_ok, hb, if_neg (by decide), physRead_dram h]

theorem dataWrite_dram {x : Nat} (hc : c ≠ 3) (h7 : c ≠ 7) (hg : s.gather = none) (h : DramAt s pa x) (va : Dword)
    (bs : List Byte) : dataWrite s c va pa bs = .ok () { s with mem := writeBytes s.mem x bs } := by
  rw [dataWrite, if_neg hc, if_neg h7, flushGather_of_none hg, Res.bind_ok, physWrite_dram h]

theorem dataLine_of_hit {k : Nat} (h : s.dHit va pa = some k) : dataLine s va pa = .ok k s := by
  rw [dataLine, h]

theorem dataRead_hit {k : Nat} (h : s.dHit va pa = some k) (n : Nat) :
    dataRead s 3 va pa n = .ok (lineBytes (s.dLine k).data pa n) s := by
  rw [dataRead, if_pos rfl, readCached, dataLine_of_hit h, Res.bind_ok]

/-- A data cache line after a store into it: dirty, with the bytes in their place (R76). -/
def DLine.stored (l : DLine) (pa : BitVec 40) (bs : List Byte) : DLine :=
  { l with cs := 3, w := true, data := insertBytes l.data (pa.toNat % 32) bs }

theorem dataWrite_hit {k : Nat} (h : s.dHit va pa = some k) (bs : List Byte) :
    dataWrite s 3 va pa bs = .ok () (s.setDLine k ((s.dLine k).stored pa bs)) := by
  rw [dataWrite, if_pos rfl, writeCached, dataLine_of_hit h, Res.bind_ok]
  rfl

theorem stored_matches {l : DLine} (h : l.matches pa = true) (bs : List Byte) : (l.stored pa bs).matches pa = true := by
  simp only [DLine.matches, Bool.and_eq_true] at h
  simp [DLine.matches, DLine.stored, h.2]

/-! ### Memory after a store -/

/-- The general registers, CP0 and the JTLB, on which the address of a data access rests, are as before. -/
def SameAccess (s t : State) : Prop := t.gpr = s.gpr ∧ t.cp0 = s.cp0 ∧ t.tlb = s.tlb

/-- What was stored is read back from the same place, in memory or in the data cache. -/
theorem dataRead_after_dataWrite (hs : s.canonical) (h7 : c ≠ 7) (h : Storable s va pa c)
    (hb : s.busErrorAt pa false = false) {bs : List Byte} (hline : pa.toNat % 32 + bs.length ≤ 32) :
    ∃ t, dataWrite s c va pa bs = .ok () t ∧ SameAccess s t ∧
      dataRead t.advance c va pa bs.length = .ok bs t.advance := by
  rcases h with ⟨h3, -, hg, x, hx⟩ | ⟨rfl, k, hk⟩ | ⟨rfl, -⟩
  · refine ⟨_, dataWrite_dram h3 h7 hg hx va bs, ⟨rfl, rfl, rfl⟩, ?_⟩
    obtain ⟨hmem, -⟩ := hs
    have hx' : DramAt (State.advance { s with mem := writeBytes s.mem x bs }) pa x := hx
    have hread := dataRead_dram (s := State.advance { s with mem := writeBytes s.mem x bs }) h3 hg hb hx' va bs.length
    exact hread.trans (congrArg (Res.ok · _) (readBytes_writeBytes hmem x bs))
  · refine ⟨_, dataWrite_hit hk bs, ⟨rfl, rfl, rfl⟩, ?_⟩
    have hold : (s.dLine k).matches pa = true := List.find?_some (p := fun j => (s.dLine j).matches pa) hk
    have hnew := dHit_setDLine hs hk (stored_matches hold bs)
    have hget := dLine_setDLine hs k k ((s.dLine k).stored pa bs)
    rw [if_pos rfl] at hget
    have hread := dataRead_hit (s := (s.setDLine k ((s.dLine k).stored pa bs)).advance) hnew bs.length
    refine hread.trans (congrArg (Res.ok · _) ?_)
    exact (congrArg (fun l : DLine => lineBytes l.data pa bs.length) hget).trans
      (lineBytes_insertBytes (s.dLine k).data pa bs hline)
  · exact absurd rfl h7

/-- MemWrite and then MemRead of the same size answer the low bytes stored. -/
theorem memRead_after_memWrite (hs : s.canonical) (h7 : c ≠ 7) (hst : Translates s true va pa c)
    (hld : Translates s false va pa c) (h : Storable s va pa c) (hb : s.busErrorAt pa false = false) {n : Nat}
    (hn : n ∈ [1, 2, 4, 8]) (ha : va.toNat % n = 0) (v : Dword) :
    ∃ t, memWrite s va n v = .ok () t ∧ SameAccess s t ∧
      memRead t.advance va n = .ok (BitVec.ofNat 64 (v.toNat % 2 ^ (8 * n))) t.advance := by
  have hline : pa.toNat % 32 + (toBytes v n).length ≤ 32 := by
    have hlow := translates_low hst
    simp only [List.mem_cons, List.not_mem_nil, or_false] at hn
    rw [toBytes_length]
    rcases hn with rfl | rfl | rfl | rfl <;> omega
  obtain ⟨t, hw, hsame, hr⟩ := dataRead_after_dataWrite hs h7 h hb hline
  obtain ⟨-, hcp0, htlb⟩ := id hsame
  have hld' : Translates t.advance false va pa c := translates_congr hld hcp0 htlb
  refine ⟨t, ?_, hsame, ?_⟩
  · simp [memWrite, alignedAddress_aligned ha, dataAddress_of_translates hst, hw]
  · rw [toBytes_length] at hr
    simp [memRead, alignedAddress_aligned ha, dataAddress_of_translates hld', hr, ofBytes_toBytes_eq_ofNat]

/-- A store and then a load of the same size write what extending the low bytes stored gives. -/
theorem load_after_store (hs : s.canonical) (h7 : c ≠ 7) (hst : Translates s true va pa c)
    (hld : Translates s false va pa c) (h : Storable s va pa c) (hb : s.busErrorAt pa false = false) {n : Nat}
    (hn : n ∈ [1, 2, 4, 8]) (ha : va.toNat % n = 0) (v : Dword) {base rd : Reg} {offset : BitVec 16} (hrd : rd ≠ 0)
    (hva : s.effectiveAddress base offset = va) (extend : Dword → Dword) :
    ∃ u t, (memWrite s va n v).finish = .next u ∧ load u rd (u.effectiveAddress base offset) n extend = .next t ∧
      t.readGpr rd = extend (BitVec.ofNat 64 (v.toNat % 2 ^ (8 * n))) := by
  obtain ⟨t, hw, ⟨hgpr, -⟩, hr⟩ := memRead_after_memWrite hs h7 hst hld h hb hn ha v
  have hva' : t.advance.effectiveAddress base offset = va := by
    rw [← hva, State.effectiveAddress, State.effectiveAddress, State.readGpr_advance, State.readGpr_congr hgpr]
  have hload := load_of_ok (extend := extend) hrd hr
  refine ⟨t.advance, _, by rw [hw, Res.finish_ok], by rw [hva', hload], ?_⟩
  rw [State.readGpr_advance, State.readGpr_writeGpr_same _ hrd]

/-- The low word of a number, sign-extended. -/
theorem signExtendFrom_ofNat (v : Nat) : signExtendFrom 32 (BitVec.ofNat 64 (v % 2 ^ 32)) = signedOf 32 v := by
  have hlow : (BitVec.ofNat 64 (v % 2 ^ 32)).setWidth 32 = BitVec.ofNat 32 v := by
    refine BitVec.eq_of_toNat_eq ?_
    rw [BitVec.toNat_setWidth, BitVec.toNat_ofNat, BitVec.toNat_ofNat]
    omega
  rw [signExtendFrom, hlow, BitVec.signExtend, BitVec.toInt_ofNat', signedOf]

/-- Settles O43: the store goes where the load reads. -/
theorem storeThenLoad : Obligations.StoreThenLoad := by
  intro s base rt rd offset pa c hs hrd h7 hst hld h hb va v
  have hva : s.effectiveAddress base offset = va := (addressOf_eq s base offset).symm
  have hpair : ∀ n ∈ [1, 2, 4, 8], va.toNat % n = 0 → ∀ extend, ∃ u t,
      (memWrite s (s.effectiveAddress base offset) n (s.readGpr rt)).finish = .next u ∧
      load u rd (u.effectiveAddress base offset) n extend = .next t ∧
      t.readGpr rd = extend (BitVec.ofNat 64 (v % 2 ^ (8 * n))) := fun n hn ha extend => by
    rw [hva]
    exact load_after_store hs h7 hst hld h hb hn ha (s.readGpr rt) hrd hva extend
  refine ⟨fun ha => ?_, fun ha => ?_, fun ha => hpair 2 (by decide) ha id, hpair 1 (by decide) (Nat.mod_one _) id⟩
  · obtain ⟨u, t, hu, ht, hrd⟩ := hpair 8 (by decide) ha id
    refine ⟨u, t, hu, ht, hrd.trans ?_⟩
    rw [Nat.mod_eq_of_lt (BitVec.isLt _), id_eq, BitVec.ofNat_toNat, BitVec.setWidth_eq]
  · obtain ⟨u, t, hu, ht, hrd⟩ := hpair 4 (by decide) ha (signExtendFrom 32)
    exact ⟨u, t, hu, ht, hrd.trans (signExtendFrom_ofNat v)⟩

end Sys2Proof.Machine
end

section
/-! SUPPORT. What a miss does to the caches when nothing has to be written back: the lines that leave them, and the line
that the secondary cache takes from initialised DDR2 memory (R142, R146). -/

namespace Sys2Proof.Machine

variable {s : State} {pa : BitVec 40}

/-! ### Lines that are cleared one after the other -/

/-- A fold that clears the matching ones among some lines, where a line that is cleared matches no longer. -/
theorem foldl_clears {L : Type} {get : State → Nat → L} {hit : L → Bool} {clear : L → L} {P : State → Prop}
    {step : State → Nat → State} (hclear : ∀ l, hit (clear l) = false) {keys : List Nat}
    (hstep : ∀ s, ∀ k ∈ keys, P s → P (step s k) ∧
      ∀ j, get (step s k) j = if j = k ∧ hit (get s k) = true then clear (get s k) else get s j) (h : P s) :
    P (keys.foldl step s) ∧
      ∀ j, get (keys.foldl step s) j = if j ∈ keys ∧ hit (get s j) = true then clear (get s j) else get s j := by
  induction keys generalizing s with
  | nil => exact ⟨h, fun j => by simp⟩
  | cons k keys ih =>
    obtain ⟨h1, hget⟩ := hstep s k (List.mem_cons_self ..) h
    obtain ⟨h2, hall⟩ := ih (fun t q hq => hstep t q (List.mem_cons_of_mem _ hq)) h1
    refine ⟨h2, fun j => ?_⟩
    rw [List.foldl_cons, hall j, hget j]
    by_cases hj : j = k
    · subst hj
      cases hm : hit (get s j) <;> simp [hm, hclear]
    · simp [hj]

/-! ### Lines that leave the primary caches -/

theorem iLine_invalidateI (h : s.canonical) (k j : Nat) :
    (s.invalidateI k).iLine j = if j = k then { s.iLine k with valid := false } else s.iLine j :=
  iLine_setILine h k j _

theorem dLine_invalidateD (h : s.canonical) (k j : Nat) :
    (s.invalidateD k).dLine j = if j = k then { s.dLine k with cs := 0, w := false } else s.dLine j :=
  dLine_setDLine h k j _

/-- The instruction cache lines of an address become invalid, and nothing else changes. -/
theorem dropInstructionLines_spec (h : s.canonical) (a : BitVec 40) :
    ((s.dropInstructionLines a).canonical ∧
      s.dropInstructionLines a = { s with icache := (s.dropInstructionLines a).icache }) ∧
    ∀ j, (s.dropInstructionLines a).iLine j =
      if j ∈ primaryKeys a ∧ (s.iLine j).matches a = true then { s.iLine j with valid := false } else s.iLine j := by
  refine foldl_clears (get := State.iLine) (hit := (·.matches a)) (clear := fun l => { l with valid := false })
    (P := fun t => t.canonical ∧ t = { s with icache := t.icache }) (fun _ => rfl) (fun t k _ ht => ?_) ⟨h, rfl⟩
  obtain ⟨hcanonical, hframe⟩ := ht
  split
  · next hm =>
    refine ⟨⟨invalidateI_canonical hcanonical k, ?_⟩, fun j => ?_⟩
    · rw [hframe]
      rfl
    · rw [iLine_invalidateI hcanonical]
      simp [hm]
  · next hm => exact ⟨⟨hcanonical, hframe⟩, fun j => by simp [hm]⟩

/-- Without a dirty one among them, the data cache lines of an address become invalid, and nothing else changes. -/
theorem dropDataLines_spec (h : s.canonical) {a : BitVec 40} (hclean : NoDirtyDataLine s a) (merge : Bool) (key : Nat) :
    ((s.dropDataLines a merge key).canonical ∧
      s.dropDataLines a merge key = { s with dcache := (s.dropDataLines a merge key).dcache } ∧
      NoDirtyDataLine (s.dropDataLines a merge key) a) ∧
    ∀ j, (s.dropDataLines a merge key).dLine j =
      if j ∈ primaryKeys a ∧ (s.dLine j).matches a = true then { s.dLine j with cs := 0, w := false }
      else s.dLine j := by
  refine foldl_clears (get := State.dLine) (hit := (·.matches a)) (clear := fun l => { l with cs := 0, w := false })
    (P := fun t => t.canonical ∧ t = { s with dcache := t.dcache } ∧ NoDirtyDataLine t a) (fun _ => rfl)
    (fun t k hk ht => ?_) ⟨h, rfl, hclean⟩
  obtain ⟨hcanonical, hframe, hc⟩ := ht
  simp only []
  split
  · next hm =>
    have hdirty : (t.dLine k).dirty = false := by simpa [DLine.dirty] using hc k hk hm
    rw [hdirty, Bool.and_false, if_neg (by decide)]
    refine ⟨⟨invalidateD_canonical hcanonical k, ?_, fun j hj hmj => ?_⟩, fun j => ?_⟩
    · rw [hframe]
      rfl
    · rw [dLine_invalidateD hcanonical] at hmj ⊢
      split at hmj
      · cases hmj
      · next hne =>
        rw [if_neg hne]
        exact hc j hj hmj
    · rw [dLine_invalidateD hcanonical]
      simp [hm]
  · next hm => exact ⟨⟨hcanonical, hframe, hc⟩, fun j => by simp [hm]⟩

/-! ### A line that leaves the secondary cache -/

/-- Secondary cache line `k` has left the caches, and nothing else has changed. -/
structure Left (s t : State) (k : Nat) : Prop where
  canonical : t.canonical
  sLine : ∀ m, m ≠ k → t.sLine m = s.sLine m
  iLine : ∀ j, t.iLine j = s.instructionLineWithout k j
  dLine : ∀ j, t.dLine j = s.dataLineWithout k j
  frame : t = { s with icache := t.icache, dcache := t.dcache, scache := t.scache }

/-- A secondary cache line that needs no write-back leaves the three caches. -/
theorem evictSecondary_clean (h : s.canonical) {k : Nat} (hs : (s.sLine k).state ≠ 3)
    (hd : (s.sLine k).state ≠ 0 → NoDirtyDataLine s ((s.sLine k).address k)) (writeBack : Bool) :
    ∃ t, evictSecondary s k writeBack = .ok () t ∧ Left s t k := by
  unfold evictSecondary
  split
  · next h0 =>
    refine ⟨s, rfl, h, fun _ _ => rfl, fun j => ?_, fun j => ?_, rfl⟩
    · rw [State.instructionLineWithout, if_neg fun hh => hh.1 h0]
    · rw [State.dataLineWithout, if_neg fun hh => hh.1 h0]
  · next h0 =>
    obtain ⟨⟨hc1, hf1⟩, hi⟩ := dropInstructionLines_spec h ((s.sLine k).address k)
    simp only []
    generalize s.dropInstructionLines ((s.sLine k).address k) = t1 at hc1 hf1 hi
    have hdline : ∀ j, t1.dLine j = s.dLine j := fun j => by rw [hf1]; rfl
    have hclean : NoDirtyDataLine t1 ((s.sLine k).address k) := fun j hj hm => by
      rw [hdline] at hm ⊢
      exact hd h0 j hj hm
    obtain ⟨⟨hc2, hf2, -⟩, hdl⟩ := dropDataLines_spec hc1 hclean writeBack k
    generalize t1.dropDataLines ((s.sLine k).address k) writeBack k = t2 at hc2 hf2 hdl
    have hiline2 : ∀ j, t2.iLine j = t1.iLine j := fun j => by rw [hf2]; rfl
    have hsline2 : ∀ j, t2.sLine j = s.sLine j := fun j => by rw [hf2, hf1]; rfl
    have hnot : (t2.sLine k).dirty = false := by
      rw [hsline2, SLine.dirty]
      simpa using hs
    rw [hnot, Bool.and_false, if_neg (by decide)]
    refine ⟨_, rfl, hc2.setSLine _ _, fun m hm => ?_, fun j => ?_, fun j => ?_, ?_⟩
    · rw [sLine_setSLine hc2, if_neg hm, hsline2]
    · rw [iLine_setSLine, hiline2, hi, State.instructionLineWithout]
      simp only [ne_eq, h0, not_false_eq_true, true_and]
    · rw [dLine_setSLine, hdl, hdline, State.dataLineWithout]
      simp only [ne_eq, h0, not_false_eq_true, true_and]
    · rw [hf2, hf1]
      rfl

/-! ### A line from memory -/

/-- A line in initialised DDR2 memory. -/
theorem readLine_dram {fetch : Bool} {x : Nat} {d : LineData} (hb : s.busErrorAt pa fetch = false)
    (hx : DramAt s (lineAddress pa) x) (hd : d.toNat = memNat s.mem x 32) : readLine s pa fetch = .ok d s := by
  rw [readLine, hb, if_neg (by decide), physRead_dram hx, Res.bind_ok, ofBytes_readBytes, ← hd, BitVec.ofNat_toNat,
    BitVec.setWidth_eq]

theorem secondaryLine_hit {q : Nat} (h : s.sHit pa = some q) (fetch : Bool) :
    secondaryLine s pa fetch = .ok ((s.sLine q).data, BitVec.ofNat 2 q) s := by
  rw [secondaryLine, h]

theorem secondaryLine_disabled {fetch : Bool} {x : Nat} {d : LineData} (h : s.sHit pa = none)
    (hdis : s.scacheDisabled = true) (hb : s.busErrorAt pa fetch = false) (hx : DramAt s (lineAddress pa) x)
    (hd : d.toNat = memNat s.mem x 32) :
    secondaryLine s pa fetch = .ok (d, (s.free .scacheWay 0).extractLsb' 0 2) s := by
  rw [secondaryLine, h]
  simp only []
  rw [if_pos hdis, readLine_dram hb hx hd, Res.bind_ok]

theorem cleanState_cases (s : State) : s.cleanState = 1 ∨ s.cleanState = 2 := by
  unfold State.cleanState
  split <;> simp

/-- A miss in the secondary cache that replaces nothing dirty fills a way of its set; the line that was there has left
the caches. -/
theorem secondaryLine_fills {fetch : Bool} {x : Nat} {d : LineData} (hcan : s.canonical) (h : s.sHit pa = none)
    (hen : s.scacheDisabled = false) (hrep : SecondaryReplaceable s pa) (hb : s.busErrorAt pa fetch = false)
    (hx : DramAt s (lineAddress pa) x) (hd : d.toNat = memNat s.mem x 32) :
    ∃ t, ∃ q ∈ waysOf (secondarySet pa), ∃ way, secondaryLine s pa fetch = .ok (d, way) t ∧ t.canonical ∧
      SecondaryFilled s t pa d q ∧ (∀ j, t.iLine j = s.instructionLineWithout q j) ∧
      (∀ j, t.dLine j = s.dataLineWithout q j) ∧
      t = { s with icache := t.icache, dcache := t.dcache, scache := t.scache } := by
  generalize hway : (s.free .scacheWay 0).extractLsb' 0 2 = way
  have hq := lineKey_mem_waysOf (secondarySet pa) way
  generalize hkey : lineKey (secondarySet pa) way.toNat = q at hq
  obtain ⟨hs, hclean⟩ := hrep hen q hq
  obtain ⟨t, hevict, hleft⟩ := evictSecondary_clean hcan hs hclean true
  have hread : readLine t pa fetch = .ok d t := by
    refine readLine_dram ?_ ?_ ?_ (x := x) <;> rw [hleft.frame]
    exacts [hb, hx, hd]
  refine ⟨t.setSLine q { tag := pa.extractLsb' 17 23, state := t.cleanState, data := d }, q, hq, way, ?_,
    hleft.canonical.setSLine _ _, ⟨?_, ?_, ?_, fun m hm => ?_⟩, fun j => ?_, fun j => ?_, ?_⟩
  · rw [secondaryLine, h]
    simp only [hway, hkey, hen, Bool.false_eq_true, if_false, hevict, Res.bind_ok, hread]
  · rw [sLine_setSLine hleft.canonical, if_pos rfl]
  · rw [sLine_setSLine hleft.canonical, if_pos rfl]
    exact cleanState_cases t
  · rw [sLine_setSLine hleft.canonical, if_pos rfl]
  · rw [sLine_setSLine hleft.canonical, if_neg hm, hleft.sLine m hm]
  · rw [iLine_setSLine, hleft.iLine]
  · rw [dLine_setSLine, hleft.dLine]
  · rw [hleft.frame]
    rfl

end Sys2Proof.Machine
end

section
/-! The fetch: an uncached one, from memory or BOOT_ROM, and a cached one, on a hit and on a miss: `FetchReadsWord`. -/

namespace Sys2Proof.Machine

variable {s u : State} {va : Dword} {pa : BitVec 40} {c : BitVec 3}

/-! ### The stages of a fetch -/

theorem translate_ok_pc {k : Access} {r : BitVec 40 × BitVec 3} (h : translate s k va = .ok r u) : u.pc = s.pc := by
  have hc : (translate s k va).Keeps (HasCore s.core) := translate_core (hasCore_core s) k va
  rw [h] at hc
  have hpc : u.core.pc = s.core.pc := congrArg State.pc hc
  exact hpc

theorem fetch_misaligned (h : s.pc.toNat % 4 ≠ 0) : fetch s = .raise (.addressError false s.pc) s := by
  simp [fetch, aligned, h]

/-- An aligned pc that translates: the word at its physical address, and new free values for the instruction. -/
theorem fetch_of_fetchWord (ha : s.pc.toNat % 4 = 0) (ht : translate s .fetch s.pc = .ok (pa, c) u) {w : Word}
    {t : State} (h : fetchWord u c s.pc pa = .ok w t) : fetch s = .ok w { t with stamp := t.stamp + 1 } := by
  have hal : aligned s.pc 4 = true := (aligned_iff s.pc 4).mpr ha
  simp only [fetch, hal, if_true, ht, Res.bind_ok, translate_ok_pc ht, h, Res.precise_ok]

/-! ### Uncached fetches -/

/-- The word that an uncached fetch reads once nothing waits in the gather buffer. -/
theorem fetchWord_uncached (hc : c ≠ 3) {t : State} (hf : flushGather u = .ok () t)
    (hb : t.busErrorAt pa true = false) {bytes : List Byte} (hr : physRead t pa 4 = .ok bytes t) (va : Dword) :
    fetchWord u c va pa = .ok (ofBytes 32 bytes) t := by
  rw [fetchWord, if_neg hc, hf, Res.bind_ok, hb, if_neg (by decide), hr, Res.bind_ok]

theorem physRead_bootRom {a x : Nat} (hroute : s.route pa = .io a) (hregion : s.region a = .bootRom x) (n : Nat) :
    physRead s pa n = .ok (readBytes s.rom x n) s := by
  simp [physRead, hroute, ioRead, hregion]

/-- An uncached fetch from memory and from BOOT_ROM, in the state in which nothing waits in the gather buffer. -/
theorem fetch_uncached (ha : s.pc.toNat % 4 = 0) (ht : translate s .fetch s.pc = .ok (pa, c) u) (hc : c ≠ 3)
    {t : State} (hf : flushGather u = .ok () t) (hb : t.busErrorAt pa true = false) :
    (∀ x, DramAt t pa x → fetch s = .ok (BitVec.ofNat 32 (memNat t.mem x 4)) { t with stamp := t.stamp + 1 }) ∧
    (∀ a x, t.route pa = .io a → t.region a = .bootRom x →
      fetch s = .ok (BitVec.ofNat 32 (memNat t.rom x 4)) { t with stamp := t.stamp + 1 }) := by
  refine ⟨fun x hx => ?_, fun a x hroute hregion => ?_⟩
  · rw [← ofBytes_readBytes]
    exact fetch_of_fetchWord ha ht (fetchWord_uncached hc hf hb (physRead_dram hx 4) s.pc)
  · rw [← ofBytes_readBytes]
    exact fetch_of_fetchWord ha ht (fetchWord_uncached hc hf hb (physRead_bootRom hroute hregion 4) s.pc)

/-! ### Cached fetches -/

theorem instructionLine_of_hit {k : Nat} (h : u.iHit va pa = some k) : instructionLine u va pa = .ok k u := by
  rw [instructionLine, h]

/-- A cached fetch reads its word from the line that holds it. -/
theorem fetchWord_cached {k : Nat} {t : State} (h : instructionLine u va pa = .ok k t) :
    fetchWord u 3 va pa = .ok (BitVec.ofNat 32 (lineNat (t.iLine k).data (pa.toNat % 32) 4)) t := by
  rw [fetchWord, if_pos rfl, fetchCached, h, Res.bind_ok, ofBytes_lineBytes]

/-- A miss fills a line of its set with what the secondary cache answers. -/
theorem instructionLine_of_miss (h : u.iHit va pa = none) {d : LineData} {way : BitVec 2} {t : State}
    (hs : secondaryLine u pa true = .ok (d, way) t) :
    ∃ k ∈ waysOf (primarySet va), instructionLine u va pa =
      .ok k (t.setILine k { tag := pa.extractLsb' 12 28, valid := true, data := d }) := by
  refine ⟨_, lineKey_mem_waysOf (primarySet va) ((u.free .icacheWay 0).extractLsb' 0 2), ?_⟩
  rw [instructionLine, h]
  simp only [hs, Res.bind_ok]

/-- A miss that the secondary cache answers without changing anything fills one line. -/
theorem fetchRefilled_of_kept (hcan : u.canonical) {d : LineData} {k : Nat} (hk : k ∈ waysOf (primarySet va))
    (hkept : u.sHit pa ≠ none ∨ u.scacheDisabled = true) :
    FetchRefilled u (u.setILine k { tag := pa.extractLsb' 12 28, valid := true, data := d }) va pa d k := by
  refine ⟨hk, ?_, fun _ => ⟨fun j hj => ?_, fun _ => rfl, fun _ => rfl⟩, fun hnone hen => ?_⟩
  · rw [iLine_setILine hcan, if_pos rfl]
  · rw [iLine_setILine hcan, if_neg hj]
  · rcases hkept with h | h
    · exact absurd hnone h
    · rw [hen] at h
      cases h

/-- A miss whose line the secondary cache or memory holds fills a line of the instruction cache with it. -/
theorem instructionLine_refills (hcan : u.canonical) {d : LineData} (h : FetchRefills u va pa d) :
    ∃ t k, instructionLine u va pa = .ok k t ∧ FetchRefilled u t va pa d k ∧
      t = { u with icache := t.icache, dcache := t.dcache, scache := t.scache } := by
  obtain ⟨hmiss, ⟨q, hq, rfl⟩ | ⟨hnone, hb, hrep, x, hx, hd⟩⟩ := h
  · obtain ⟨k, hk, hline⟩ := instructionLine_of_miss hmiss (secondaryLine_hit hq true)
    exact ⟨_, k, hline, fetchRefilled_of_kept hcan hk (.inl (by simp [hq])), rfl⟩
  · cases hen : u.scacheDisabled with
    | true =>
      obtain ⟨k, hk, hline⟩ := instructionLine_of_miss hmiss (secondaryLine_disabled hnone hen hb hx hd)
      exact ⟨_, k, hline, fetchRefilled_of_kept hcan hk (.inr hen), rfl⟩
    | false =>
      obtain ⟨t, q, hq, way, hs, hcan', hfill, hi, hdl, hframe⟩ := secondaryLine_fills hcan hnone hen hrep hb hx hd
      obtain ⟨k, hk, hline⟩ := instructionLine_of_miss hmiss hs
      refine ⟨_, k, hline, ⟨hk, ?_, fun hkept => ?_, fun _ _ => ⟨q, hq, hfill, fun j hj => ?_, hdl⟩⟩, ?_⟩
      · rw [iLine_setILine hcan', if_pos rfl]
      · rcases hkept with h | h
        · exact absurd hnone h
        · rw [hen] at h
          cases h
      · rw [iLine_setILine hcan', if_neg hj, hi]
      · rw [hframe]
        rfl

/-- Settles O5: an uncached fetch, a cached one that hits, and one that misses. -/
theorem fetchReadsWord : Obligations.FetchReadsWord := by
  intro s u pa c
  refine ⟨fun ha ht => ⟨fun hc hb => ⟨fun hg => ?_, fun g y hgather => ?_⟩, fun hc => ?_⟩, fetch_misaligned⟩
  · exact fetch_uncached ha ht hc (flushGather_of_none hg) hb
  · have hf := flushGather_of_gatherAt hgather
    exact ⟨_, writtenOut_gatherStored hgather, fetch_uncached ha ht hc hf hb⟩
  · subst hc
    refine ⟨fun k hk => fetch_of_fetchWord ha ht (fetchWord_cached (instructionLine_of_hit hk)),
      fun d hcan hrefills => ?_⟩
    obtain ⟨t, k, hline, hrefilled, hframe⟩ := instructionLine_refills hcan hrefills
    have hdata : (t.iLine k).data = d := by rw [hrefilled.2.1]
    have hfetch := fetch_of_fetchWord ha ht (fetchWord_cached hline)
    rw [hdata] at hfetch
    refine ⟨_, k, hfetch, hrefilled, ?_⟩
    rw [hframe]

end Sys2Proof.Machine
end

section
/-! Decoding and encoding: `DecodeEncodeRoundTrip`.  A word is one format's word exactly when its fields are that
format's fields; each opcode map answers instructions whose encoding is the word, and reads every instruction of the map
from its encoding. -/

namespace Sys2Proof

variable {w : Word}

/-! ### A word and the fields of its format (R171, R173) -/

theorem iType_eq_iff {op : BitVec 6} {rs rt : Reg} {imm : BitVec 16} :
    iType op rs rt imm = w ↔ opOf w = op ∧ rsOf w = rs ∧ rtOf w = rt ∧ immOf w = imm := by
  constructor
  · rintro rfl
    simp
  · rintro ⟨rfl, rfl, rfl, rfl⟩
    exact iType_fields w

theorem jType_eq_iff {op : BitVec 6} {target : BitVec 26} :
    jType op target = w ↔ opOf w = op ∧ targetOf w = target := by
  constructor
  · rintro rfl
    simp
  · rintro ⟨rfl, rfl⟩
    exact jType_fields w

theorem rType_eq_iff {op : BitVec 6} {rs rt rd : Reg} {sa : BitVec 5} {funct : BitVec 6} :
    rType op rs rt rd sa funct = w ↔
      opOf w = op ∧ rsOf w = rs ∧ rtOf w = rt ∧ rdOf w = rd ∧ saOf w = sa ∧ functOf w = funct := by
  constructor
  · rintro rfl
    simp
  · rintro ⟨rfl, rfl, rfl, rfl, rfl, rfl⟩
    exact rType_fields w

theorem codeType_eq_iff {op : BitVec 6} {code : BitVec 20} {funct : BitVec 6} :
    codeType op code funct = w ↔ opOf w = op ∧ codeOf w = code ∧ functOf w = funct := by
  constructor
  · rintro rfl
    simp
  · rintro ⟨rfl, rfl, rfl⟩
    exact codeType_fields w

theorem trapType_eq_iff {op : BitVec 6} {rs rt : Reg} {code : BitVec 10} {funct : BitVec 6} :
    trapType op rs rt code funct = w ↔
      opOf w = op ∧ rsOf w = rs ∧ rtOf w = rt ∧ trapCodeOf w = code ∧ functOf w = funct := by
  constructor
  · rintro rfl
    simp
  · rintro ⟨rfl, rfl, rfl, rfl, rfl⟩
    exact trapType_fields w

/-! ### Runs of fields that must be zero (R182) -/

theorem append_eq_zero_iff {n m : Nat} {a : BitVec n} {b : BitVec m} : a ++ b = 0 ↔ a = 0 ∧ b = 0 := by
  simp [← BitVec.toNat_inj, BitVec.toNat_append, Nat.or_eq_zero_iff, Nat.shiftLeft_eq]

theorem low11_eq_zero_iff : w.extractLsb' 0 11 = 0 ↔ saOf w = 0 ∧ functOf w = 0 := by
  have h := low11_rType (opOf w) (rsOf w) (rtOf w) (rdOf w) (saOf w) (functOf w)
  rw [rType_fields] at h
  rw [h]
  exact append_eq_zero_iff

theorem middle15_eq_zero_iff : w.extractLsb' 6 15 = 0 ↔ rtOf w = 0 ∧ rdOf w = 0 ∧ saOf w = 0 := by
  have h := middle15_rType (opOf w) (rsOf w) (rtOf w) (rdOf w) (saOf w) (functOf w)
  rw [rType_fields] at h
  rw [h, ← and_assoc, ← append_eq_zero_iff]
  exact append_eq_zero_iff

/-! ### The opcode map of a word (R174 to R179) -/

theorem decode_rType_special (rs rt rd : Reg) (sa : BitVec 5) (funct : BitVec 6) :
    decode (rType 0 rs rt rd sa funct) = decodeSpecial (rType 0 rs rt rd sa funct) rs rt rd sa := by
  simp [decode]

theorem decode_codeType_special (code : BitVec 20) (funct : BitVec 6) :
    decode (codeType 0 code funct) = decodeSpecial (codeType 0 code funct) (rsOf (codeType 0 code funct))
      (rtOf (codeType 0 code funct)) (rdOf (codeType 0 code funct)) (saOf (codeType 0 code funct)) := by
  simp [decode]

theorem decode_trapType_special (rs rt : Reg) (code : BitVec 10) (funct : BitVec 6) :
    decode (trapType 0 rs rt code funct) = decodeSpecial (trapType 0 rs rt code funct) rs rt
      (rdOf (trapType 0 rs rt code funct)) (saOf (trapType 0 rs rt code funct)) := by
  simp [decode]

theorem decode_iType_regimm (rs rt : Reg) (imm : BitVec 16) : decode (iType 1 rs rt imm) = decodeRegimm rs rt imm := by
  simp [decode]

theorem decode_rType_cop0 (rs rt rd : Reg) (sa : BitVec 5) (funct : BitVec 6) :
    decode (rType 16 rs rt rd sa funct) = decodeCop0 (rType 16 rs rt rd sa funct) rs rt rd := by
  simp [decode]

theorem decode_rType_cop1 (rs rt rd : Reg) (sa : BitVec 5) (funct : BitVec 6) :
    decode (rType 17 rs rt rd sa funct) =
      decodeCop1 (rType 17 rs rt rd sa funct) rs rt rd sa (immOf (rType 17 rs rt rd sa funct)) := by
  simp [decode]

theorem decode_iType_bc1 (rt : Reg) (imm : BitVec 16) : decode (iType 17 8 rt imm) = decodeBc1 rt imm := by
  simp [decode, decodeCop1]

theorem decode_rType_special2 (rs rt rd : Reg) (sa : BitVec 5) (funct : BitVec 6) :
    decode (rType 28 rs rt rd sa funct) = decodeSpecial2 (rType 28 rs rt rd sa funct) rs rt rd sa := by
  simp [decode]

theorem decode_iType_cacheOp (rs rt : Reg) (imm : BitVec 16) : decode (iType 47 rs rt imm) = decodeCache rs rt imm := by
  simp [decode]

/-! ### The format of a floating-point word (R178) -/

theorem decode_rType_fmtS (rt rd : Reg) (sa : BitVec 5) (funct : BitVec 6) :
    decode (rType 17 16 rt rd sa funct) = decodeFmtS (rType 17 16 rt rd sa funct) rt rd sa :=
  decode_rType_cop1 ..

theorem decode_rType_fmtD (rt rd : Reg) (sa : BitVec 5) (funct : BitVec 6) :
    decode (rType 17 17 rt rd sa funct) = decodeFmtD (rType 17 17 rt rd sa funct) rt rd sa :=
  decode_rType_cop1 ..

theorem decode_rType_fmtW (rt rd : Reg) (sa : BitVec 5) (funct : BitVec 6) :
    decode (rType 17 20 rt rd sa funct) = decodeFmtW (rType 17 20 rt rd sa funct) rt rd sa :=
  decode_rType_cop1 ..

theorem decode_rType_fmtL (rt rd : Reg) (sa : BitVec 5) (funct : BitVec 6) :
    decode (rType 17 21 rt rd sa funct) = decodeFmtL (rType 17 21 rt rd sa funct) rt rd sa :=
  decode_rType_cop1 ..

theorem decode_rType_fmtPS (rt rd : Reg) (sa : BitVec 5) (funct : BitVec 6) :
    decode (rType 17 22 rt rd sa funct) = decodeFmtPS (rType 17 22 rt rd sa funct) rt rd sa :=
  decode_rType_cop1 ..

/-! ### What a map answers is encoded as the word

In each map the key and the tests of the zero fields give the fields of the word that the instruction does not name. -/

/-- An answer of the decoder for a word: the instruction, if it is one, is well formed and its encoding is the word. -/
def Sound (w : Word) (r : Except Reject Instr) : Prop := ∀ i, r = .ok i → i.wellFormed = true ∧ encode i = w

@[simp] theorem sound_error (r : Reject) : Sound w (.error r) := nofun

@[simp] theorem sound_ok {i : Instr} : Sound w (.ok i) ↔ i.wellFormed = true ∧ encode i = w := by
  simp [Sound]

@[simp] theorem sound_onlyIf {zero : Bool} {r : Reject} {i : Instr} :
    Sound w (onlyIf zero r i) ↔ (zero = true → i.wellFormed = true ∧ encode i = w) := by
  cases zero <;> simp [onlyIf]

theorem decodeSpecial_sound (hop : opOf w = 0) :
    Sound w (decodeSpecial w (rsOf w) (rtOf w) (rdOf w) (saOf w)) := by
  unfold decodeSpecial
  split <;> simp only [sound_onlyIf, sound_ok, sound_error]
  all_goals unfold Instr.wellFormed encode; simp_all [rType_eq_iff, codeType_eq_iff, trapType_eq_iff,
    BitVec.toNat_eq_nat]

theorem decodeRegimm_sound (hop : opOf w = 1) : Sound w (decodeRegimm (rsOf w) (rtOf w) (immOf w)) := by
  unfold decodeRegimm
  split <;> simp only [sound_ok, sound_error]
  all_goals unfold Instr.wellFormed encode; simp_all [iType_eq_iff, BitVec.toNat_eq_nat]

theorem decodeCo_sound (hop : opOf w = 16) (hrs : rsOf w = 16) (hrt : rtOf w = 0) (hrd : rdOf w = 0)
    (hsa : saOf w = 0) : Sound w (decodeCo w) := by
  unfold decodeCo
  split <;> simp only [sound_ok, sound_error]
  all_goals unfold Instr.wellFormed encode; simp_all [rType_eq_iff, BitVec.toNat_eq_nat]

theorem decodeCop0_sound (hop : opOf w = 16) : Sound w (decodeCop0 w (rsOf w) (rtOf w) (rdOf w)) := by
  have hlow := low11_eq_zero_iff (w := w)
  have hmid := middle15_eq_zero_iff (w := w)
  unfold decodeCop0
  split
  case h_5 h =>
    split
    · next hz =>
      obtain ⟨hrt, hrd, hsa⟩ := hmid.mp (eq_of_beq hz)
      exact decodeCo_sound hop (BitVec.eq_of_toNat_eq h) hrt hrd hsa
    · exact sound_error _
  all_goals simp only [sound_onlyIf, sound_error]
  all_goals unfold Instr.wellFormed encode; simp_all [rType_eq_iff, BitVec.toNat_eq_nat]

theorem decodeFmtS_sound (hop : opOf w = 17) (hrs : rsOf w = 16) :
    Sound w (decodeFmtS w (rtOf w) (rdOf w) (saOf w)) := by
  unfold decodeFmtS
  split <;> simp only [sound_onlyIf, sound_ok, sound_error]
  all_goals unfold Instr.wellFormed encode; simp_all [rType_eq_iff, BitVec.toNat_eq_nat]

theorem decodeFmtD_sound (hop : opOf w = 17) (hrs : rsOf w = 17) :
    Sound w (decodeFmtD w (rtOf w) (rdOf w) (saOf w)) := by
  unfold decodeFmtD
  split <;> simp only [sound_onlyIf, sound_ok, sound_error]
  all_goals unfold Instr.wellFormed encode; simp_all [rType_eq_iff, BitVec.toNat_eq_nat]

theorem decodeFmtW_sound (hop : opOf w = 17) (hrs : rsOf w = 20) :
    Sound w (decodeFmtW w (rtOf w) (rdOf w) (saOf w)) := by
  unfold decodeFmtW
  split <;> simp only [sound_onlyIf, sound_error]
  all_goals unfold Instr.wellFormed encode; simp_all [rType_eq_iff, BitVec.toNat_eq_nat]

theorem decodeFmtL_sound (hop : opOf w = 17) (hrs : rsOf w = 21) :
    Sound w (decodeFmtL w (rtOf w) (rdOf w) (saOf w)) := by
  unfold decodeFmtL
  split <;> simp only [sound_onlyIf, sound_error]
  all_goals unfold Instr.wellFormed encode; simp_all [rType_eq_iff, BitVec.toNat_eq_nat]

theorem decodeFmtPS_sound (hop : opOf w = 17) (hrs : rsOf w = 22) :
    Sound w (decodeFmtPS w (rtOf w) (rdOf w) (saOf w)) := by
  unfold decodeFmtPS
  split <;> simp only [sound_onlyIf, sound_ok, sound_error]
  all_goals unfold Instr.wellFormed encode; simp_all [rType_eq_iff, BitVec.toNat_eq_nat]

theorem decodeBc1_sound (hop : opOf w = 17) (hrs : rsOf w = 8) : Sound w (decodeBc1 (rtOf w) (immOf w)) := by
  unfold decodeBc1
  split <;> simp only [sound_ok, sound_error]
  all_goals unfold Instr.wellFormed encode; simp_all [iType_eq_iff, BitVec.toNat_eq_nat]

theorem decodeCop1_sound (hop : opOf w = 17) :
    Sound w (decodeCop1 w (rsOf w) (rtOf w) (rdOf w) (saOf w) (immOf w)) := by
  have hlow := low11_eq_zero_iff (w := w)
  unfold decodeCop1
  split
  case h_7 h => exact decodeBc1_sound hop (BitVec.eq_of_toNat_eq h)
  case h_8 h => exact decodeFmtS_sound hop (BitVec.eq_of_toNat_eq h)
  case h_9 h => exact decodeFmtD_sound hop (BitVec.eq_of_toNat_eq h)
  case h_10 h => exact decodeFmtW_sound hop (BitVec.eq_of_toNat_eq h)
  case h_11 h => exact decodeFmtL_sound hop (BitVec.eq_of_toNat_eq h)
  case h_12 h => exact decodeFmtPS_sound hop (BitVec.eq_of_toNat_eq h)
  all_goals simp only [sound_onlyIf, sound_error]
  all_goals unfold Instr.wellFormed encode; simp_all [rType_eq_iff, BitVec.toNat_eq_nat]

theorem decodeMadd_sound (hop : opOf w = 28) : Sound w (decodeMadd w (rsOf w) (rtOf w) (rdOf w) (saOf w)) := by
  unfold decodeMadd
  split <;> simp only [sound_ok, sound_error]
  all_goals unfold Instr.wellFormed encode; simp_all [rType_eq_iff, BitVec.toNat_eq_nat]

theorem decodeSpecial2_sound (hop : opOf w = 28) :
    Sound w (decodeSpecial2 w (rsOf w) (rtOf w) (rdOf w) (saOf w)) := by
  unfold decodeSpecial2
  split
  case h_13 => exact decodeMadd_sound hop
  all_goals simp only [sound_onlyIf]
  all_goals unfold Instr.wellFormed encode; simp_all [rType_eq_iff, BitVec.toNat_eq_nat]

theorem decodeCache_sound (hop : opOf w = 47) : Sound w (decodeCache (rsOf w) (rtOf w) (immOf w)) := by
  unfold decodeCache
  split <;> simp only [sound_ok]
  all_goals unfold Instr.wellFormed encode; simp_all [definedCacheOps, iType_eq_iff, BitVec.toNat_eq_nat]

theorem decode_sound (w : Word) : Sound w (decode w) := by
  unfold decode
  simp only []
  split
  case h_1 h => exact decodeSpecial_sound (BitVec.eq_of_toNat_eq h)
  case h_2 h => exact decodeRegimm_sound (BitVec.eq_of_toNat_eq h)
  case h_17 h => exact decodeCop0_sound (BitVec.eq_of_toNat_eq h)
  case h_18 h => exact decodeCop1_sound (BitVec.eq_of_toNat_eq h)
  case h_28 h => exact decodeSpecial2_sound (BitVec.eq_of_toNat_eq h)
  case h_44 h => exact decodeCache_sound (BitVec.eq_of_toNat_eq h)
  all_goals simp only [sound_onlyIf, sound_ok, sound_error]
  all_goals unfold Instr.wellFormed encode; simp_all [iType_eq_iff, jType_eq_iff, BitVec.toNat_eq_nat]

/-! ### Every instruction is read from its encoding -/

/-- The general CACHE row keeps every operation that has no row of its own (R183, R450). -/
theorem decodeCache_general {op : BitVec 5} (h : definedCacheOps.contains op = false) (base : Reg)
    (offset : BitVec 16) : decodeCache base op offset = .ok (.cache base op offset) := by
  unfold decodeCache
  split <;> simp_all [definedCacheOps, BitVec.toNat_eq_nat]

/-- Every well-formed instruction is read back from its encoding: the cases stand by the opcode map that holds them. -/
theorem decode_encode {i : Instr} (h : i.wellFormed = true) : decode (encode i) = .ok i := by
  cases i with
  | lb | lbu | lh | lhu | lw | lwu | ld | lwl | lwr | swl | swr | ldl | ldr | sdl | sdr | sb | sh | sw | sd | ll
  | lld | sc | scd | lwc1 | ldc1 | swc1 | sdc1 | addi | daddi | addiu | daddiu | slti | sltiu | andi | ori | xori
  | lui | beq | bne | blez | bgtz | beql | bnel | blezl | bgtzl =>
    change decode (iType _ _ _ _) = _
    rw [decode, opOf_iType, rsOf_iType, rtOf_iType, immOf_iType]
    rfl
  | j | jal =>
    change decode (jType _ _) = _
    rw [decode, opOf_jType, targetOf_jType]
    rfl
  | add | addu | sub | subu | dadd | daddu | dsub | dsubu | slt | sltu | and | or | xor | nor | movz | movn | mult
  | multu | dmult | dmultu | div | divu | ddiv | ddivu | mfhi | mthi | mflo | mtlo | jr | jalr | sll | srl | sra
  | dsll | dsrl | dsra | dsll32 | dsrl32 | dsra32 | sllv | srlv | srav | dsllv | dsrlv | dsrav | sync =>
    exact (decode_rType_special ..).trans (by rw [decodeSpecial, functOf_rType]; rfl)
  | syscall | break_ =>
    exact (decode_codeType_special ..).trans (by rw [decodeSpecial, functOf_codeType, codeOf_codeType]; rfl)
  | tge | tgeu | tlt | tltu | teq | tne =>
    exact (decode_trapType_special ..).trans (by rw [decodeSpecial, functOf_trapType, trapCodeOf_trapType]; rfl)
  | bltz | bgez | bltzal | bgezal | bltzl | bgezl | bltzall | bgezall | tgei | tgeiu | tlti | tltiu | teqi | tnei =>
    exact decode_iType_regimm ..
  | dmfc0 | dmtc0 | mfc0 | mtc0 =>
    exact (decode_rType_cop0 ..).trans (by rw [decodeCop0, low11_rType]; rfl)
  | tlbp | tlbr | tlbwi | tlbwr | eret =>
    rfl
  | mfc1 | mtc1 | dmfc1 | dmtc1 | cfc1 | ctc1 =>
    exact (decode_rType_cop1 ..).trans (by rw [decodeCop1, low11_rType]; rfl)
  | bc1f | bc1t | bc1fl | bc1tl =>
    exact decode_iType_bc1 ..
  | add_s | sub_s | mul_s | div_s | sqrt_s | abs_s | mov_s | neg_s | round_l_s | trunc_l_s | ceil_l_s | floor_l_s
  | round_w_s | trunc_w_s | ceil_w_s | floor_w_s | cvt_w_s | cvt_l_s | cvt_d_s | c_f_s | c_un_s | c_eq_s | c_ueq_s
  | c_olt_s | c_ult_s | c_ole_s | c_ule_s | c_sf_s | c_ngle_s | c_seq_s | c_ngl_s | c_lt_s | c_nge_s | c_le_s
  | c_ngt_s =>
    exact (decode_rType_fmtS ..).trans (by rw [decodeFmtS, functOf_rType]; rfl)
  | add_d | sub_d | mul_d | div_d | sqrt_d | abs_d | mov_d | neg_d | round_l_d | trunc_l_d | ceil_l_d | floor_l_d
  | round_w_d | trunc_w_d | ceil_w_d | floor_w_d | cvt_w_d | cvt_l_d | cvt_s_d | c_f_d | c_un_d | c_eq_d | c_ueq_d
  | c_olt_d | c_ult_d | c_ole_d | c_ule_d | c_sf_d | c_ngle_d | c_seq_d | c_ngl_d | c_lt_d | c_nge_d | c_le_d
  | c_ngt_d =>
    exact (decode_rType_fmtD ..).trans (by rw [decodeFmtD, functOf_rType]; rfl)
  | cvt_s_w | cvt_d_w =>
    exact (decode_rType_fmtW ..).trans (by rw [decodeFmtW, functOf_rType]; rfl)
  | cvt_s_l | cvt_d_l =>
    exact (decode_rType_fmtL ..).trans (by rw [decodeFmtL, functOf_rType]; rfl)
  | add_ps | sub_ps | mul_ps | abs_ps | mov_ps | neg_ps | c_f_ps | c_un_ps | c_eq_ps | c_ueq_ps | c_olt_ps
  | c_ult_ps | c_ole_ps | c_ule_ps | c_sf_ps | c_ngle_ps | c_seq_ps | c_ngl_ps | c_lt_ps | c_nge_ps | c_le_ps
  | c_ngt_ps =>
    exact (decode_rType_fmtPS ..).trans (by rw [decodeFmtPS, functOf_rType]; rfl)
  | multg | multug | dmultg | dmultug | divg | divug | ddivg | ddivug | modg | modug | dmodg | dmodug | madd_s
  | madd_d | madd_ps | msub_s | msub_d | msub_ps | nmadd_s | nmadd_d | nmadd_ps | nmsub_s | nmsub_d | nmsub_ps =>
    exact (decode_rType_special2 ..).trans (by rw [decodeSpecial2, decodeMadd, functOf_rType]; rfl)
  | cache_index_invalidate_i | cache_index_writeback_invalidate_d | cache_index_load_tag_d
  | cache_index_store_tag_d | cache_hit_invalidate_d | cache_hit_writeback_invalidate_d | cache_index_load_data_d
  | cache_index_store_data_d | cache_index_writeback_invalidate_s | cache_index_load_tag_s
  | cache_index_store_tag_s | cache_hit_invalidate_s | cache_hit_writeback_invalidate_s | cache_index_load_data_s
  | cache_index_store_data_s =>
    exact decode_iType_cacheOp ..
  | cache base op offset =>
    have hop : definedCacheOps.contains op = false := by simpa [Instr.wellFormed] using h
    exact (decode_iType_cacheOp ..).trans (decodeCache_general hop base offset)

/-! ### Words as bytes (R101, R170) -/

/-- The bytes of a word, put together again, are the word. -/
theorem wordOfBytes_extract (w : Word) :
    wordOfBytes (w.extractLsb' 0 8) (w.extractLsb' 8 8) (w.extractLsb' 16 8) (w.extractLsb' 24 8) = w := by
  unfold wordOfBytes
  rw [BitVec.extractLsb'_append_extractLsb'_eq_extractLsb' (start₁ := 16) (by rfl),
    BitVec.extractLsb'_append_extractLsb'_eq_extractLsb' (start₁ := 8) (by rfl),
    BitVec.extractLsb'_append_extractLsb'_eq_extractLsb' (start₁ := 0) (by rfl)]
  exact BitVec.extractLsb'_eq_self

theorem decodeBytes_encodeBytes {i : Instr} (h : i.wellFormed = true) : decodeBytes (encodeBytes i) = .ok (i, []) := by
  unfold encodeBytes decodeBytes
  simp only [wordOfBytes_extract, decode_encode h]

/-- The bytes of an encoding as a number are the instruction's bytes. -/
theorem bytesOfNat_encode (i : Instr) : bytesOfNat ((encode i).toNat % 2 ^ 32) = encodeBytes i := by
  rw [Nat.mod_eq_of_lt (encode i).isLt, bytesOfNat, BitVec.ofNat_toNat, BitVec.setWidth_eq, encodeBytes]

theorem decodeTableWord_encode {i : Instr} (h : i.wellFormed = true) :
    decodeTableWord 32 (encode i).toNat = some i := by
  rw [decodeTableWord, bytesOfNat_encode, decodeBytes_encodeBytes h]

/-! ### The opcode table -/

/-- The word of every instruction lies in its row of the opcode table. -/
theorem tableRow_statement : ∀ i, Laws.TableRow.Statement i :=
  open Laws Laws.TableRow in
  @Instr.rec Statement lb lbu lh lhu lw lwu ld lwl lwr swl swr ldl ldr sdl sdr sb sh sw sd ll lld sc scd lwc1 ldc1
    swc1 sdc1 addi daddi addiu daddiu slti sltiu andi ori xori lui add addu sub subu dadd daddu dsub dsubu slt sltu
    TableRow.and TableRow.or TableRow.xor nor movz movn mult multu dmult dmultu div divu ddiv ddivu mfhi mthi mflo
    mtlo multg multug dmultg dmultug divg divug ddivg ddivug modg modug dmodg dmodug j jal jr jalr beq bne blez bgtz
    bltz bgez bltzal bgezal beql bnel blezl bgtzl bltzl bgezl bltzall bgezall sll srl sra dsll dsrl dsra dsll32 dsrl32
    dsra32 sllv srlv srav dsllv dsrlv dsrav syscall break_ sync tge tgeu tlt tltu teq tne tgei tgeiu tlti tltiu teqi
    tnei dmfc0 dmtc0 mfc0 mtc0 tlbp tlbr tlbwi tlbwr eret cache cache_index_invalidate_i
    cache_index_writeback_invalidate_d cache_index_load_tag_d cache_index_store_tag_d cache_hit_invalidate_d
    cache_hit_writeback_invalidate_d cache_index_load_data_d cache_index_store_data_d
    cache_index_writeback_invalidate_s cache_index_load_tag_s cache_index_store_tag_s cache_hit_invalidate_s
    cache_hit_writeback_invalidate_s cache_index_load_data_s cache_index_store_data_s add_s add_d sub_s sub_d mul_s
    mul_d div_s div_d sqrt_s sqrt_d abs_s abs_d mov_s mov_d neg_s neg_d round_l_s round_l_d trunc_l_s trunc_l_d
    ceil_l_s ceil_l_d floor_l_s floor_l_d round_w_s round_w_d trunc_w_s trunc_w_d ceil_w_s ceil_w_d floor_w_s
    floor_w_d cvt_w_s cvt_w_d cvt_l_s cvt_l_d cvt_s_d cvt_s_w cvt_s_l cvt_d_s cvt_d_w cvt_d_l c_f_s c_f_d c_un_s
    c_un_d c_eq_s c_eq_d c_ueq_s c_ueq_d c_olt_s c_olt_d c_ult_s c_ult_d c_ole_s c_ole_d c_ule_s c_ule_d c_sf_s c_sf_d
    c_ngle_s c_ngle_d c_seq_s c_seq_d c_ngl_s c_ngl_d c_lt_s c_lt_d c_nge_s c_nge_d c_le_s c_le_d c_ngt_s c_ngt_d mfc1
    mtc1 dmfc1 dmtc1 cfc1 ctc1 bc1f bc1t bc1fl bc1tl add_ps sub_ps mul_ps abs_ps mov_ps neg_ps c_f_ps c_un_ps c_eq_ps
    c_ueq_ps c_olt_ps c_ult_ps c_ole_ps c_ule_ps c_sf_ps c_ngle_ps c_seq_ps c_ngl_ps c_lt_ps c_nge_ps c_le_ps c_ngt_ps
    madd_s madd_d madd_ps msub_s msub_d msub_ps nmadd_s nmadd_d nmadd_ps nmsub_s nmsub_d nmsub_ps

/-- Settles O4, from the two directions: each map answers what is encoded as the word, and every instruction is read
from its encoding. -/
theorem decodeEncodeRoundTrip : Obligations.DecodeEncodeRoundTrip :=
  ⟨fun i h => ⟨decode_encode h, decodeTableWord_encode h, decodeBytes_encodeBytes h, tableRow_statement i⟩,
    decode_sound⟩

end Sys2Proof
end

section
/-! Written-out words and the step that runs the word at the program counter: `DecodeWords` and
`StepRunsInstruction`. -/

namespace Sys2Proof.Machine

variable {s t u : State} {w : Word} {i : Instr}

/-- Settles O3: the decoder evaluates each written-out word. -/
theorem decodeWords : Obligations.DecodeWords :=
  ⟨rfl, rfl, rfl, rfl, rfl, rfl, rfl, rfl, rfl, rfl, rfl, rfl, rfl, rfl, rfl, rfl, rfl, rfl, rfl, rfl, rfl, rfl, rfl,
    rfl, rfl⟩

/-! ### The step without an event (R79) -/

theorem step_of_noEventDue (h : NoEventDue s) : step s = coreStep s := by
  unfold step
  split
  · next e rest he => exact if_neg (h e (by simp [he]))
  · rfl

/-- While no event is due and the core clock runs, a step is an instruction. -/
theorem step_runs (h : NoEventDue s) (hs : s.standingBy = false) :
    step s = instructionStep { s with taken := none } := by
  rw [step_of_noEventDue h, coreStep, hs, if_neg Bool.false_ne_true]

/-! ### The word at the program counter (R183) -/

theorem HasCore.params {c : State} (h : HasCore c s) : s.params = c.params := by
  rw [← show s.core = c from h]; rfl

/-- The instruction runs under the parameters of the state its word was fetched in. -/
theorem fetch_ok_params (h : fetch s = .ok w t) : t.params = s.params := by
  have hc : (fetch s).Keeps (HasCore s.core) := fetch_core (hasCore_core s)
  rw [h] at hc
  exact hc.params

/-- An exception of the fetch leaves the state as it was. -/
theorem fetch_raise_state {e : Exc} (h : fetch s = .raise e u) : u = s := (Res.precise_eq_raise h).1

theorem runInstruction_decoded (hf : fetch s = .ok w t) (hd : decodeFor s.params.gsOpcodes w = .ok i) :
    runInstruction s = (exec i t, writesWired i) := by
  rw [← fetch_ok_params hf] at hd
  simp only [runInstruction, hf, runWord, hd]

theorem runInstruction_rejected {r : Reject} (hf : fetch s = .ok w t)
    (hd : decodeFor s.params.gsOpcodes w = .error r) : runInstruction s = ((rejected r t).outcome, false) := by
  rw [← fetch_ok_params hf] at hd
  simp only [runInstruction, hf, runWord, hd]

theorem runInstruction_fetch_raises {e : Exc} (hf : fetch s = .raise e u) :
    runInstruction s = (.next (takeException e s), false) := by
  obtain rfl := fetch_raise_state hf
  simp only [runInstruction, hf]

/-! ### Words that are no instruction (R180, R181, R183) -/

/-- The check of coprocessor 0 comes before the reserved instruction exception. -/
theorem rejected_cop0_usable (h : s.cu 0 = true ∨ s.mode = some .kernel) :
    rejected .reservedCop0 s = .raise .reservedInstruction s := by
  rcases checkCp0_cases s with ⟨_, hc⟩ | ⟨hcu, hm, _⟩ | ⟨hcu, hm, _⟩
  · rw [rejected, hc, Res.bind_ok]
  · simp [hcu] at h
    simp [h] at hm
  · simp [hcu, hm] at h

theorem rejected_cop0_unusable (hcu : s.cu 0 = false) (hm : s.mode = some .supervisor ∨ s.mode = some .user) :
    rejected .reservedCop0 s = .raise (.coprocessorUnusable 0) s := by
  rcases checkCp0_cases s with ⟨h, _⟩ | ⟨_, _, hc⟩ | ⟨_, hnone, _⟩
  · simp [hcu] at h
    simp [h] at hm
  · rw [rejected, hc, Res.bind_raise]
  · simp [hnone] at hm

/-- A word of the COP1 opcode raises Unimplemented once coprocessor 1 is usable (R178). -/
theorem rejected_cop1 (s : State) : (rejected .reservedCop1 s).outcome = .next (
    if s.cu 1 then takeException .floatingPoint (s.setFcr31 (withCause s.fcr31 0b100000))
    else takeException (.coprocessorUnusable 1) s) := by
  rcases checkCp1_cases s with ⟨hcu, hc⟩ | ⟨hcu, hc⟩ <;> rw [rejected, hc, hcu] <;> rfl

/-! ### The instruction and a due interrupt (R635, R657, R670) -/

/-- What the instruction reached is committed if no interrupt is due or it took an exception. -/
theorem settle_next (h : s.interruptDue = false ∨ t.taken ≠ none) (keepRandom : Bool) :
    settle s keepRandom (.next t) = .next (commit s t keepRandom) := by
  have hn : ¬ (s.interruptDue && t.taken.isNone) = true := by
    rcases h with h | h <;> simp [h]
  simp only [settle, if_neg hn]

theorem settle_fault (h : s.interruptDue = false) (keepRandom : Bool) (f : Fault) :
    settle s keepRandom (.fault f) = .fault f := by
  simp [settle, h]

theorem settle_refused (h : s.interruptDue = false) (keepRandom : Bool) (r : Refusal) :
    settle s keepRandom (.refused r) = .refused r := by
  simp [settle, h]

/-- A due interrupt is taken in place of an instruction that took no exception. -/
theorem settle_interrupt (h : s.interruptDue = true) (keepRandom : Bool) {o : Outcome}
    (ho : ∀ t, o = .next t → t.taken = none) :
    settle s keepRandom o = .next (commit s (takeException .interrupt s) keepRandom) := by
  cases o with
  | next t => simp [settle, h, ho t rfl]
  | fault f => simp [settle, h]
  | refused r => simp [settle, h]

/-- Settles O6, from what the fetch, the decoder and `settle` answer in each case. -/
theorem stepRunsInstruction : Obligations.StepRunsInstruction := by
  intro s hevent hrunning b
  have hstep : ∀ {o : Outcome} {k : Bool}, runInstruction b = (o, k) → step s = settle b k o := fun hr => by
    rw [step_runs hevent hrunning, instructionStep, hr]
  refine ⟨fun t w i hf hd => ?_, fun e u hf => hstep (runInstruction_fetch_raises hf), fun t w r hf hd => ?_⟩
  · have h := hstep (runInstruction_decoded hf hd)
    refine ⟨h, fun u hu hkept => ?_, fun f hfault hdue => ?_, fun r hrefused hdue => ?_, fun hdue hnone => ?_⟩
    · rw [h, hu]
      exact settle_next hkept _
    · rw [h, hfault]
      exact settle_fault hdue _ _
    · rw [h, hrefused]
      exact settle_refused hdue _ _
    · rw [h]
      exact settle_interrupt hdue _ hnone
  · have h := hstep (runInstruction_rejected hf hd)
    refine ⟨?_, ?_, ?_, ?_⟩ <;> rintro rfl
    · exact h
    · refine ⟨fun husable => ?_, fun hcu hm => ?_⟩
      · rw [h, rejected_cop0_usable husable]; rfl
      · rw [h, rejected_cop0_unusable hcu hm]; rfl
    · rw [h, rejected_cop1]
    · refine ⟨fun hcu => ?_, fun hcu hdue => ?_⟩
      · rw [h, rejected, hcu]; rfl
      · rw [h, rejected, hcu]; exact settle_refused hdue _ _

end Sys2Proof.Machine
end

section
/-! SUPPORT. A cached data access that misses: the line that leaves the data cache, the line that comes in from the
secondary cache or from memory, and what the access then reads or stores (R142, R146). -/

namespace Sys2Proof.Machine

variable {s t u : State} {va : Dword} {pa : BitVec 40} {d : LineData}

/-! ### Which lines hold an address -/

/-- The set of a line, from its number. -/
theorem div_four_of_mem_waysOf {set q : Nat} (h : q ∈ waysOf set) : q / 4 = set := by
  simp only [waysOf, lineKey, List.mem_cons, List.not_mem_nil, or_false] at h
  omega

theorem dHit_eq_none_iff :
    s.dHit va pa = none ↔ ∀ k ∈ waysOf (primarySet va), (s.dLine k).matches pa = false := by
  simp [State.dHit]

theorem sHit_spec {q : Nat} (h : s.sHit pa = some q) :
    q ∈ waysOf (secondarySet pa) ∧ (s.sLine q).matches pa = true := by
  unfold State.sHit at h
  split at h
  · cases h
  · exact ⟨List.mem_of_find?_eq_some h, List.find?_some (p := fun k => (s.sLine k).matches pa) h⟩

/-- Two addresses that one secondary cache line holds have the same tag in the data cache. -/
theorem tag_eq_of_sHit_eq {a b : BitVec 40} {q : Nat} (ha : s.sHit a = some q) (hb : s.sHit b = some q) :
    a.extractLsb' 12 28 = b.extractLsb' 12 28 := by
  obtain ⟨hqa, hma⟩ := sHit_spec ha
  obtain ⟨hqb, hmb⟩ := sHit_spec hb
  have hset : secondarySet a = secondarySet b := by
    rw [← div_four_of_mem_waysOf hqa, div_four_of_mem_waysOf hqb]
  simp only [SLine.matches, Bool.and_eq_true, beq_iff_eq] at hma hmb
  have htag : a.extractLsb' 17 23 = b.extractLsb' 17 23 := hma.2.symm.trans hmb.2
  simp only [secondarySet, ← BitVec.toNat_inj, BitVec.extractLsb'_toNat, Nat.shiftRight_eq_div_pow] at hset htag ⊢
  omega

/-- The tag in the address of a data cache line is the tag of the line. -/
theorem tag_address (l : DLine) (k : Nat) : (l.address k).extractLsb' 12 28 = l.tag := by
  unfold DLine.address
  rw [extract_append_high _ _ (by decide), extract_append_high _ _ (by decide)]
  exact BitVec.extractLsb'_eq_self

/-! ### A line that leaves the data cache (R452) -/

/-- Data cache line `k` has left the cache, to its secondary cache line if it was dirty; nothing else has changed. -/
structure Evicted (s t : State) (k : Nat) : Prop where
  canonical : t.canonical
  invalid : (t.dLine k).cs = 0
  dLine : ∀ j, j ≠ k → t.dLine j = s.dLine j
  sLine : ∀ m, t.sLine m =
    if (s.dLine k).cs = 3 ∧ s.sHit ((s.dLine k).address k) = some m then
      { s.sLine m with state := 3, data := (s.dLine k).data }
    else s.sLine m
  frame : t = { s with dcache := t.dcache, scache := t.scache }

theorem invalidateD_cs (h : s.canonical) (k : Nat) : ((s.invalidateD k).dLine k).cs = 0 := by
  rw [dLine_invalidateD h, if_pos rfl]

theorem dLine_invalidateD_other (h : s.canonical) {k j : Nat} (hj : j ≠ k) :
    (s.invalidateD k).dLine j = s.dLine j := by
  rw [dLine_invalidateD h, if_neg hj]

/-- A line leaves the data cache when it is clean or the secondary cache holds it. -/
theorem evictData_spec (h : s.canonical) {k : Nat}
    (hk : (s.dLine k).cs = 3 → s.sHit ((s.dLine k).address k) ≠ none) :
    ∃ t, evictData s k = .ok () t ∧ Evicted s t k := by
  unfold evictData writeBackData
  by_cases hcs : (s.dLine k).cs = 3
  · obtain ⟨q, hq⟩ := Option.ne_none_iff_exists'.mp (hk hcs)
    have hdirty : (s.dLine k).dirty = true := by simp [DLine.dirty, hcs]
    have hcan := h.setSLine q { s.sLine q with state := 3, data := (s.dLine k).data }
    refine ⟨(s.setSLine q { s.sLine q with state := 3, data := (s.dLine k).data }).invalidateD k,
      by simp [hdirty, hq], invalidateD_canonical hcan k, invalidateD_cs hcan k, fun j hj => ?_, fun m => ?_, rfl⟩
    · rw [dLine_invalidateD_other hcan hj, dLine_setSLine]
    · refine (sLine_setSLine h q m _).trans ?_
      by_cases hm : m = q
      · subst hm
        rw [if_pos rfl, if_pos ⟨hcs, hq⟩]
      · rw [if_neg hm, if_neg (by rintro ⟨-, hs⟩; rw [hq] at hs; exact hm (Option.some.inj hs).symm)]
  · have hclean : (s.dLine k).dirty = false := by simpa [DLine.dirty] using hcs
    refine ⟨s.invalidateD k, by simp [hclean], invalidateD_canonical h k, invalidateD_cs h k,
      fun j hj => dLine_invalidateD_other h hj, fun m => ?_, rfl⟩
    rw [if_neg fun hh => hcs hh.1]
    rfl

/-- A line that leaves the data cache changes no secondary cache line's address. -/
theorem Evicted.sHit {k : Nat} (h : Evicted s t k) (pa : BitVec 40) : t.sHit pa = s.sHit pa := by
  have hdis : t.scacheDisabled = s.scacheDisabled := by rw [h.frame]; rfl
  have hmatch : (fun m => (t.sLine m).matches pa) = fun m => (s.sLine m).matches pa := by
    funext m
    rw [h.sLine]
    split
    · next hm =>
      obtain ⟨-, hold⟩ := sHit_spec hm.2
      simp only [SLine.matches, Bool.and_eq_true, bne_iff_ne] at hold
      simpa [SLine.matches] using fun _ => hold.1
    · rfl
  rw [State.sHit, State.sHit, hdis, hmatch]

/-! ### The line that comes in -/

/-- Nothing but the lines of the three caches differs. -/
def OnlyLines (s t : State) : Prop := t = { s with icache := t.icache, dcache := t.dcache, scache := t.scache }

/-- A data cache line just filled: clean, with the data `d`. -/
def DLine.cleanWith (l : DLine) (d : LineData) : Prop := (l.cs = 1 ∨ l.cs = 2) ∧ l.w = false ∧ l.data = d

/-- The state after data cache line `k` has been filled. -/
def State.fillDLine (s : State) (k : Nat) (pa : BitVec 40) (d : LineData) (way : BitVec 2) : State :=
  s.setDLine k { tag := pa.extractLsb' 12 28, cs := s.cleanState, w := false, scset := way, data := d }

theorem dLine_fillDLine_same (h : s.canonical) (k : Nat) (pa : BitVec 40) (d : LineData) (way : BitVec 2) :
    ((s.fillDLine k pa d way).dLine k).tag = pa.extractLsb' 12 28 ∧
      ((s.fillDLine k pa d way).dLine k).cleanWith d := by
  rw [State.fillDLine, dLine_setDLine h, if_pos rfl]
  exact ⟨rfl, cleanState_cases s, rfl, rfl⟩

theorem dLine_fillDLine_other (h : s.canonical) {k j : Nat} (hj : j ≠ k) (pa : BitVec 40) (d : LineData)
    (way : BitVec 2) : (s.fillDLine k pa d way).dLine j = s.dLine j := by
  rw [State.fillDLine, dLine_setDLine h, if_neg hj]

/-- A miss replaces one line of its set: what it evicts and what the secondary cache answers say what it fills. -/
theorem dataLine_of_miss (h : s.dHit va pa = none) :
    ∃ k ∈ waysOf (primarySet va), ∀ u d way t, evictData s k = .ok () u →
      secondaryLine u pa false = .ok (d, way) t → dataLine s va pa = .ok k (t.fillDLine k pa d way) := by
  refine ⟨_, lineKey_mem_waysOf (primarySet va) ((s.free .dcacheWay 0).extractLsb' 0 2), fun u d way t he hs => ?_⟩
  rw [dataLine, h]
  simp only [he, hs, Res.bind_ok]
  rfl

/-- What a fill of a data cache line on a miss is: it succeeds, its line is clean, and the caches are as `Refilled`
says. -/
def Fills (s : State) (va : Dword) (pa : BitVec 40) (d : LineData) : Prop :=
  ∃ t k, dataLine s va pa = .ok k t ∧ t.canonical ∧ Refilled s t va pa d k ∧ (t.dLine k).cleanWith d ∧ OnlyLines s t

/-- A miss that the secondary cache serves.  The line evicted is not the one that serves it, for that one would be in
the data cache. -/
theorem fills_of_refillFromSecondary (hcan : s.canonical) (h : RefillFromSecondary s va pa d) : Fills s va pa d := by
  obtain ⟨hmiss, hdirty, q, hq, rfl⟩ := h
  obtain ⟨k, hk, hline⟩ := dataLine_of_miss hmiss
  obtain ⟨u, hevict, he⟩ := evictData_spec hcan (hdirty k hk)
  have hkept : u.sLine q = s.sLine q := by
    refine (he.sLine q).trans (if_neg ?_)
    rintro ⟨hcs, hsame⟩
    have htag : (s.dLine k).tag = pa.extractLsb' 12 28 := by
      rw [← tag_address (s.dLine k) k, tag_eq_of_sHit_eq hsame hq]
    have hno := dHit_eq_none_iff.mp hmiss k hk
    simp [DLine.matches, hcs, htag] at hno
  have hserved := secondaryLine_hit ((he.sHit pa).trans hq) false
  rw [hkept] at hserved
  obtain ⟨htag, hclean⟩ := dLine_fillDLine_same he.canonical k pa (s.sLine q).data (BitVec.ofNat 2 q)
  refine ⟨_, k, hline _ _ _ _ hevict hserved, he.canonical.setDLine _ _,
    ⟨hk, htag, fun _ => ⟨fun j => ?_, fun j hj => ?_, he.sLine⟩, fun hnone => absurd hnone (by simp [hq]),
      fun hnone => absurd hnone (by simp [hq])⟩, hclean, ?_⟩
  · rw [he.frame]
    rfl
  · rw [dLine_fillDLine_other he.canonical hj, he.dLine j hj]
  · rw [OnlyLines, he.frame]
    rfl

/-- A clean line that leaves the data cache leaves the secondary cache as it is. -/
theorem Evicted.sLine_of_clean {k : Nat} (h : Evicted s t k) (hcs : (s.dLine k).cs ≠ 3) (m : Nat) :
    t.sLine m = s.sLine m := by
  rw [h.sLine, if_neg fun hh => hcs hh.1]

/-- A line that is gone from the data cache stands in no replacement's way. -/
theorem Evicted.secondaryReplaceable {k : Nat} (h : Evicted s t k) (hcs : (s.dLine k).cs ≠ 3)
    (hrep : SecondaryReplaceable s pa) : SecondaryReplaceable t pa := by
  intro hen q hq
  have hen' : s.scacheDisabled = false := by
    rw [h.frame] at hen
    exact hen
  obtain ⟨hs, hd⟩ := hrep hen' q hq
  rw [h.sLine_of_clean hcs]
  refine ⟨hs, fun h0 j hj hm => ?_⟩
  by_cases hjk : j = k
  · rw [hjk, h.invalid]
    decide
  · rw [h.dLine j hjk] at hm ⊢
    exact hd h0 j hj hm

/-- A miss that memory serves. -/
theorem fills_of_refillFromMemory (hcan : s.canonical) (h : RefillFromMemory s va pa d) : Fills s va pa d := by
  obtain ⟨hmiss, hnone, hb, hclean, hrep, x, hx, hd⟩ := h
  obtain ⟨k, hk, hline⟩ := dataLine_of_miss hmiss
  have hcs : (s.dLine k).cs ≠ 3 := hclean k hk
  obtain ⟨u, hevict, he⟩ := evictData_spec hcan fun h3 => absurd h3 hcs
  have hnone' : u.sHit pa = none := (he.sHit pa).trans hnone
  have hb' : u.busErrorAt pa false = false := by
    rw [he.frame]
    exact hb
  have hx' : DramAt u (lineAddress pa) x := by
    rw [he.frame]
    exact hx
  have hd' : d.toNat = memNat u.mem x 32 := by
    rw [he.frame]
    exact hd
  have hdis : u.scacheDisabled = s.scacheDisabled := by rw [he.frame]; rfl
  have hiLine : ∀ j, u.iLine j = s.iLine j := fun j => by rw [he.frame]; rfl
  have hsLine := he.sLine_of_clean hcs
  cases hen : s.scacheDisabled with
  | true =>
    have hserved := secondaryLine_disabled hnone' (hdis.trans hen) hb' hx' hd'
    obtain ⟨htag, hwith⟩ := dLine_fillDLine_same he.canonical k pa d ((u.free .scacheWay 0).extractLsb' 0 2)
    refine ⟨_, k, hline _ _ _ _ hevict hserved, he.canonical.setDLine _ _,
      ⟨hk, htag, fun hhit => absurd hnone hhit, fun _ _ => ⟨hiLine, fun j hj => ?_, hsLine⟩,
        fun _ hh => absurd hh (by simp [hen])⟩, hwith, ?_⟩
    · rw [dLine_fillDLine_other he.canonical hj, he.dLine j hj]
    · rw [OnlyLines, he.frame]
      rfl
  | false =>
    obtain ⟨t, q, hq, way, hserved, hcan', ⟨htagq, hstate, hdata, hother⟩, hi, hdl, hframe⟩ :=
      secondaryLine_fills he.canonical hnone' (hdis.trans hen) (he.secondaryReplaceable hcs hrep) hb' hx' hd'
    obtain ⟨htag, hwith⟩ := dLine_fillDLine_same hcan' k pa d way
    refine ⟨_, k, hline _ _ _ _ hevict hserved, hcan'.setDLine _ _,
      ⟨hk, htag, fun hhit => absurd hnone hhit, fun _ hh => absurd hh (by simp [hen]), fun _ _ => ⟨q, hq,
        ⟨htagq, hstate, hdata, fun m hm => (hother m hm).trans (hsLine m)⟩, fun j => ?_, fun j hj => ?_⟩⟩, hwith, ?_⟩
    · refine (hi j).trans ?_
      rw [State.instructionLineWithout, State.instructionLineWithout, hsLine, hiLine]
    · rw [dLine_fillDLine_other hcan' hj, hdl, State.dataLineWithout, State.dataLineWithout, hsLine, he.dLine j hj]
    · rw [OnlyLines, hframe, he.frame]
      rfl

theorem fills_of_refills (hcan : s.canonical) (h : Refills s va pa d) : Fills s va pa d := by
  rcases h with h | h
  · exact fills_of_refillFromSecondary hcan h
  · exact fills_of_refillFromMemory hcan h

end Sys2Proof.Machine
end

section
/-! SUPPORT. The loads: the number that a read answers on a hit and on a miss, and how an instruction that loads
sets its register and leaves the caches. -/

namespace Sys2Proof.Machine

variable {s t u : State} {va : Dword} {pa q : BitVec 40} {c : BitVec 3} {d : LineData} {n v : Nat} {i : Instr}
  {rt : Reg} {w : Dword}

/-! ### The number that a read answers (R101) -/

theorem memNat_lt (m : List Host.Cell) (a n : Nat) : memNat m a n < 2 ^ (8 * n) := by
  induction n generalizing a with
  | zero => exact Nat.one_pos
  | succ n ih =>
    have hb : (readByte m a).toNat < 256 := (readByte m a).isLt
    have hrest := ih (a + 1)
    rw [memNat, Nat.mul_succ, Nat.pow_add]
    omega

theorem lineNat_lt (d : LineData) (o n : Nat) : lineNat d o n < 2 ^ (8 * n) := Nat.mod_lt _ (Nat.two_pow_pos _)

/-- A read of `n` bytes ends in the state `t` with bytes that are the number `v`. -/
def ReadsNumber (s : State) (va : Dword) (pa : BitVec 40) (c : BitVec 3) (n v : Nat) (t : State) : Prop :=
  v < 2 ^ (8 * n) ∧ ∃ bytes, dataRead s c va pa n = .ok bytes t ∧ ofBytes 64 bytes = BitVec.ofNat 64 v

/-- Bytes in memory or in a line that the data cache holds are read without a change. -/
theorem readsNumber_of_readsAs (h : ReadsAs s va pa c n v) : ReadsNumber s va pa c n v s := by
  rcases h with ⟨hc, hg, hb, x, hx, rfl⟩ | ⟨rfl, k, hk, rfl⟩
  · exact ⟨memNat_lt _ _ _, _, dataRead_dram hc hg hb hx va n, ofBytes_readBytes 64 s.mem x n⟩
  · exact ⟨lineNat_lt _ _ _, _, dataRead_hit hk n, ofBytes_lineBytes 64 _ pa n⟩

/-- A read that misses answers from the line that it fills. -/
theorem readsNumber_of_readsOnMiss (h : ReadsOnMiss s va pa c n d v) :
    ∃ t, ReadsNumber s va pa c n v t ∧ FilledByLoad s t va pa d ∧ OnlyLines s t := by
  obtain ⟨rfl, hcan, hrefills, rfl⟩ := h
  obtain ⟨t, k, hline, -, hrefilled, ⟨hcs, hw, hdata⟩, honly⟩ := fills_of_refills hcan hrefills
  refine ⟨t, ⟨lineNat_lt _ _ _, lineBytes d pa n, ?_, ofBytes_lineBytes 64 d pa n⟩,
    ⟨k, hrefilled, hcs, hw, hdata⟩, honly⟩
  rw [dataRead, if_pos rfl, readCached, hline, Res.bind_ok, hdata]

/-- A read leaves the general registers alone. -/
theorem ReadsNumber.gpr (h : ReadsNumber s va pa c n v t) : t.gpr = s.gpr := by
  obtain ⟨-, bytes, hread, -⟩ := h
  have hcore := dataRead_core (hasCore_core s) c va pa n
  rw [hread] at hcore
  exact hcore.gpr

theorem memRead_of_readsNumber (ht : Translates s false va pa c) (ha : va.toNat % n = 0)
    (h : ReadsNumber s va pa c n v t) : memRead s va n = .ok (BitVec.ofNat 64 v) t := by
  obtain ⟨-, bytes, hread, hv⟩ := h
  simp [memRead, alignedAddress_aligned ha, dataAddress_of_translates ht, hread, hv]

theorem memReadPart_of_readsNumber {first : Dword} (ht : Translates s false va pa c) (hq : atByte pa first = q)
    (h : ReadsNumber s va q c n v t) : memReadPart s va first n = .ok (BitVec.ofNat 64 v) t := by
  obtain ⟨-, bytes, hread, hv⟩ := h
  simp [memReadPart, dataAddress_of_translates ht, hq, hread, hv]

/-! ### What depends on the cache lines alone -/

/-- Two states have the same lines in the three caches. -/
def SameLines (t u : State) : Prop := u.icache = t.icache ∧ u.dcache = t.dcache ∧ u.scache = t.scache

theorem SameLines.lines (h : SameLines t u) : u.iLine = t.iLine ∧ u.dLine = t.dLine ∧ u.sLine = t.sLine := by
  obtain ⟨hi, hd, hs⟩ := h
  refine ⟨funext fun k => ?_, funext fun k => ?_, funext fun k => ?_⟩
  · rw [State.iLine, State.iLine, hi]
  · rw [State.dLine, State.dLine, hd]
  · rw [State.sLine, State.sLine, hs]

theorem Refilled.congr {k : Nat} (h : Refilled s t va pa d k) (hl : SameLines t u) : Refilled s u va pa d k := by
  obtain ⟨hi, hd, hs⟩ := hl.lines
  unfold Refilled SecondaryFilled
  rw [hi, hd, hs]
  exact h

theorem FilledByLoad.congr (h : FilledByLoad s t va pa d) (hl : SameLines t u) : FilledByLoad s u va pa d := by
  obtain ⟨k, hrefilled, hclean⟩ := h
  obtain ⟨-, hd, -⟩ := hl.lines
  refine ⟨k, hrefilled.congr hl, ?_⟩
  rw [hd]
  exact hclean

/-! ### A general register is loaded -/

/-- Registers after a write and the step behind the instruction. -/
theorem registerSet_writeGpr (hg : u.gpr = s.gpr) (rt : Reg) (w : Dword) :
    RegisterSet s (u.writeGpr rt w).advance rt w := fun r => by
  rw [State.readGpr_advance, State.readGpr_writeGpr, State.readGpr_congr hg]

theorem onlyRegisters_writeGpr (s : State) (rt : Reg) (w : Dword) : OnlyRegisters s (s.writeGpr rt w).advance := by
  unfold OnlyRegisters SameMemory State.iLine State.dLine State.sLine State.writeGpr
  split <;> exact ⟨rfl, fun _ => rfl, fun _ => rfl, fun _ => rfl, fun _ => rfl, fun _ => rfl⟩

theorem goesOn_advance (hp : u.pc = s.pc) (hd : u.delay = s.delay) : GoesOn s u.advance :=
  ⟨by rw [State.advance_pc, hp, hd], rfl⟩

/-- Where a load has filled a line, a write of a register and the step behind the instruction change nothing else. -/
theorem onlyFill_writeGpr (hu : OnlyLines s u) (rt : Reg) (w : Dword) :
    OnlyFill { s with gpr := (u.writeGpr rt w).gpr } (u.writeGpr rt w).advance ∧
      GoesOn s (u.writeGpr rt w).advance := by
  refine ⟨?_, goesOn_advance ?_ ?_⟩
  · unfold OnlyFill State.writeGpr
    rw [hu]
    split <;> rfl
  · rw [State.writeGpr_pc, hu]
  · rw [State.writeGpr_delay, hu]

/-- An instruction loads: when the read of `n` bytes at `pa` answers `v`, it writes `w` to `rt` and goes on. -/
def LoadsInto (i : Instr) (s : State) (va : Dword) (pa : BitVec 40) (c : BitVec 3) (n v : Nat) (rt : Reg)
    (w : Dword) : Prop :=
  ∀ t, ReadsNumber s va pa c n v t → exec i s = .next (t.writeGpr rt w).advance

theorem setsRegister_of_writeGpr (h : exec i s = .next (s.writeGpr rt w).advance) : SetsRegister i s rt w :=
  ⟨_, h, registerSet_writeGpr rfl rt w, onlyRegisters_writeGpr s rt w, goesOn_advance (by simp) (by simp)⟩

theorem LoadsInto.setsRegister (h : LoadsInto i s va pa c n v rt w) (hr : ReadsAs s va pa c n v) :
    SetsRegister i s rt w := setsRegister_of_writeGpr (h s (readsNumber_of_readsAs hr))

theorem LoadsInto.loadsOnMiss (h : LoadsInto i s va pa c n v rt w) (hr : ReadsOnMiss s va pa c n d v) :
    LoadsOnMiss i s va pa d rt w := by
  obtain ⟨u, hread, hfilled, honly⟩ := readsNumber_of_readsOnMiss hr
  exact ⟨_, h u hread, registerSet_writeGpr hread.gpr rt w, hfilled.congr (by simp [SameLines]),
    onlyFill_writeGpr honly rt w⟩

/-- A load of a whole value, extended. -/
theorem loadsInto_load {base : Reg} {offset : BitVec 16} {extend : Dword → Dword}
    (he : exec i s = load s rt (s.effectiveAddress base offset) n extend) (h0 : rt ≠ 0)
    (ht : Translates s false (addressOf s base offset) pa c) (ha : (addressOf s base offset).toNat % n = 0)
    (hw : extend (BitVec.ofNat 64 v) = w) : LoadsInto i s (addressOf s base offset) pa c n v rt w := fun t hread => by
  rw [he, ← addressOf_eq, load_of_ok h0 (memRead_of_readsNumber ht ha hread), hw]

theorem loadPart_of_ok {p : Part} {merge : Dword → Dword → Dword} {x : Dword} (h0 : rt ≠ 0)
    (h : memReadPart s p.va p.first p.count = .ok x u) :
    loadPart s rt p merge = .next (u.writeGpr rt (merge x (u.readGpr rt))).advance := by
  rw [loadPart, if_neg h0, h]
  rfl

/-- A load of some bytes, merged into the register. -/
theorem loadsInto_loadPart {p : Part} {merge : Dword → Dword → Dword} (he : exec i s = loadPart s rt p merge)
    (h0 : rt ≠ 0) (ht : Translates s false p.va pa c) (hq : atByte pa p.first = q) (hn : p.count = n)
    (hw : v < 2 ^ (8 * n) → merge (BitVec.ofNat 64 v) (s.readGpr rt) = w) :
    LoadsInto i s p.va q c n v rt w := fun t hread => by
  rw [he, loadPart_of_ok h0 (hn ▸ memReadPart_of_readsNumber ht hq hread), State.readGpr_congr hread.gpr,
    hw hread.1]

end Sys2Proof.Machine
end

section
/-! The loads of whole values and the prefetches: `Loads` and `LoadsToZeroArePrefetches`. -/

namespace Sys2Proof.Machine

/-- The low bits of a number, sign-extended. -/
theorem signExtendFrom_eq_signedOf {k : Nat} (hk : k ≤ 64) (v : Nat) :
    signExtendFrom k (BitVec.ofNat 64 v) = signedOf k v := by
  have hlow : (BitVec.ofNat 64 v).setWidth k = BitVec.ofNat k v := BitVec.setWidth_ofNat_of_le hk v
  rw [signExtendFrom, hlow, BitVec.signExtend, BitVec.toInt_ofNat', signedOf]

/-- Settles O34: each load writes what it makes of the bytes, found or filled. -/
theorem loads : Obligations.Loads := by
  intro s base rt offset pa c v h0 ht va
  have hlb := fun v => loadsInto_load (i := .lb base rt offset) rfl h0 ht (Nat.mod_one _)
    (signExtendFrom_eq_signedOf (k := 8) (by decide) v)
  have hlbu := fun v => loadsInto_load (i := .lbu base rt offset) rfl h0 ht (Nat.mod_one _)
    (id_eq (BitVec.ofNat 64 v))
  have hlh := fun ha v => loadsInto_load (i := .lh base rt offset) rfl h0 ht ha
    (signExtendFrom_eq_signedOf (k := 16) (by decide) v)
  have hlhu := fun ha v => loadsInto_load (i := .lhu base rt offset) rfl h0 ht ha (id_eq (BitVec.ofNat 64 v))
  have hlw := fun ha v => loadsInto_load (i := .lw base rt offset) rfl h0 ht ha
    (signExtendFrom_eq_signedOf (k := 32) (by decide) v)
  have hlwu := fun ha v => loadsInto_load (i := .lwu base rt offset) rfl h0 ht ha (id_eq (BitVec.ofNat 64 v))
  have hld := fun ha v => loadsInto_load (i := .ld base rt offset) rfl h0 ht ha (id_eq (BitVec.ofNat 64 v))
  refine ⟨fun hr => ⟨(hlb v).setsRegister hr, (hlbu v).setsRegister hr⟩,
    fun ha hr => ⟨(hlh ha v).setsRegister hr, (hlhu ha v).setsRegister hr⟩,
    fun ha hr => ⟨(hlw ha v).setsRegister hr, (hlwu ha v).setsRegister hr⟩,
    fun ha hr => (hld ha v).setsRegister hr, ?_⟩
  intro hc hcan d hrefills o
  have hmiss : ∀ n, ReadsOnMiss s va pa c n d (lineNat d o n) := fun n => ⟨hc, hcan, hrefills, rfl⟩
  exact ⟨(hlb _).loadsOnMiss (hmiss 1), (hlbu _).loadsOnMiss (hmiss 1),
    fun ha => ⟨(hlh ha _).loadsOnMiss (hmiss 2), (hlhu ha _).loadsOnMiss (hmiss 2)⟩,
    fun ha => ⟨(hlw ha _).loadsOnMiss (hmiss 4), (hlwu ha _).loadsOnMiss (hmiss 4)⟩,
    fun ha => (hld ha _).loadsOnMiss (hmiss 8)⟩

/-- A load to r0 only goes on, whatever its address (R203). -/
theorem exec_prefetch {i : Instr} {a : DataAccess} (hi : dataAccessOf i = some a) (hp : a.prefetch = true)
    (s : State) : exec i s = complete s := by
  cases i
  case lb base rt offset | lbu base rt offset | lh base rt offset | lhu base rt offset | lw base rt offset |
      lwu base rt offset | ld base rt offset | lwl base rt offset | lwr base rt offset | ldl base rt offset |
      ldr base rt offset | ll base rt offset | lld base rt offset =>
    cases hi
    have h0 : rt = 0 := by simpa using hp
    subst h0
    rfl
  case sb | sh | sw | sd | swl | swr | sdl | sdr | sc | scd | lwc1 | ldc1 | swc1 | sdc1 =>
    cases hi
    cases hp
  all_goals cases hi

/-- Settles O40: nothing but the program counter changes. -/
theorem loadsToZeroArePrefetches : Obligations.LoadsToZeroArePrefetches := by
  intro i a hi hp s
  exact ⟨s.advance, exec_prefetch hi hp s,
    ⟨rfl, fun _ => rfl, fun _ => rfl, fun _ => rfl, fun _ => rfl, fun _ => rfl⟩, rfl, rfl⟩

end Sys2Proof.Machine
end

section
/-! The partial loads: where they begin, how many bytes they read, and what they make of the register:
`PartialLoads`. -/

namespace Sys2Proof.Machine

variable {va : Dword} {pa : BitVec 40} {b v : Nat}

/-! ### The bytes that a partial access touches (R211) -/

theorem extract_low_toNat {w : Nat} (x : BitVec w) (k : Nat) : (x.extractLsb' 0 k).toNat = x.toNat % 2 ^ k := by
  rw [BitVec.extractLsb'_toNat, Nat.shiftRight_zero]

theorem extract_two_toNat {w : Nat} (x : BitVec w) : (x.extractLsb' 0 2).toNat = x.toNat % 4 := extract_low_toNat x 2

theorem extract_three_toNat {w : Nat} (x : BitVec w) : (x.extractLsb' 0 3).toNat = x.toNat % 8 := extract_low_toNat x 3

theorem atByte_toNat (pa : BitVec 40) (first : Dword) :
    (atByte pa first).toNat = pa.toNat / 8 * 8 + first.toNat % 8 := by
  have hdiv := atByte_doubleword pa first
  have hmod : (atByte pa first).toNat % 8 = first.toNat % 8 := by
    rw [← extract_three_toNat, ← extract_three_toNat, atByte]
    exact congrArg BitVec.toNat ((extract_append_low _ _ (by decide)).trans BitVec.extractLsb'_eq_self)
  omega

/-- An access that begins at its own address. -/
theorem atByte_self (h : pa.toNat % 2 ^ 12 = va.toNat % 2 ^ 12) : atByte pa va = pa := by
  refine BitVec.eq_of_toNat_eq ?_
  rw [atByte_toNat]
  omega

/-- An access that begins at the start of its aligned word. -/
theorem atByte_word (h : pa.toNat % 2 ^ 12 = va.toNat % 2 ^ 12) : atByte pa (va &&& ~~~3) = pa &&& ~~~3 := by
  have hva : (va &&& ~~~3).toNat = va.toNat / 4 * 4 := toNat_and_not_lowMask va 2
  have hpa : (pa &&& ~~~3).toNat = pa.toNat / 4 * 4 := toNat_and_not_lowMask pa 2
  refine BitVec.eq_of_toNat_eq ?_
  rw [atByte_toNat, hva, hpa]
  omega

/-- An access that begins at the start of its aligned doubleword. -/
theorem atByte_double (pa : BitVec 40) (va : Dword) : atByte pa (va &&& ~~~7) = pa &&& ~~~7 := by
  have hva : (va &&& ~~~7).toNat = va.toNat / 8 * 8 := toNat_and_not_lowMask va 3
  have hpa : (pa &&& ~~~7).toNat = pa.toNat / 8 * 8 := toNat_and_not_lowMask pa 3
  refine BitVec.eq_of_toNat_eq ?_
  rw [atByte_toNat, hva, hpa]
  omega

theorem wordLeft_count (hb : b = va.toNat % 4) : (wordLeft va).count = b + 1 := by
  rw [hb, ← extract_two_toNat]
  rfl

theorem wordRight_count (hb : b = va.toNat % 4) : (wordRight va).count = 4 - b := by
  rw [hb, ← extract_two_toNat]
  rfl

theorem doubleLeft_count (hb : b = va.toNat % 8) : (doubleLeft va).count = b + 1 := by
  rw [hb, ← extract_three_toNat]
  rfl

theorem doubleRight_count (hb : b = va.toNat % 8) : (doubleRight va).count = 8 - b := by
  rw [hb, ← extract_three_toNat]
  rfl

/-! ### Bytes joined with the rest of a value -/

theorem not_allOnes_shiftLeft (w k : Nat) : ~~~(BitVec.allOnes w <<< k) = BitVec.ofNat w (2 ^ k - 1) := by
  refine BitVec.eq_of_getLsbD_eq fun i hi => ?_
  rw [getLsbD_lowMask, BitVec.getLsbD_not, BitVec.getLsbD_shiftLeft, BitVec.getLsbD_allOnes]
  by_cases hk : i < k
  · simp [hi, hk]
  · simp [hi, hk, show i - k < w by omega]

theorem allOnes_ushiftRight {w j : Nat} (hj : j ≤ w) :
    BitVec.allOnes w >>> j = BitVec.ofNat w (2 ^ (w - j) - 1) := by
  refine BitVec.eq_of_getLsbD_eq fun i hi => ?_
  rw [getLsbD_lowMask, BitVec.getLsbD_ushiftRight, BitVec.getLsbD_allOnes, Bool.eq_iff_iff]
  simp only [hi, decide_true, Bool.true_and, decide_eq_true_eq]
  omega

/-- A value put above the low `k` bits of another. -/
theorem toNat_join_above {w k : Nat} {x : BitVec w} (hk : k ≤ w) (hx : x.toNat < 2 ^ (w - k)) (y : BitVec w) :
    ((x <<< k) ||| (y &&& ~~~(BitVec.allOnes w <<< k))).toNat = x.toNat * 2 ^ k + y.toNat % 2 ^ k := by
  have hpow : 2 ^ w = 2 ^ (w - k) * 2 ^ k := by rw [← Nat.pow_add, Nat.sub_add_cancel hk]
  have hlow : (y &&& BitVec.ofNat w (2 ^ k - 1)).toNat = y.toNat % 2 ^ k := toNat_and_lowMask y k
  have hhigh : (x <<< k).toNat = x.toNat * 2 ^ k := by
    rw [BitVec.toNat_shiftLeft, Nat.shiftLeft_eq, Nat.mod_eq_of_lt]
    rw [hpow]
    exact Nat.mul_lt_mul_of_pos_right hx (Nat.two_pow_pos k)
  rw [not_allOnes_shiftLeft, toNat_or_of_disjoint hhigh (hlow ▸ Nat.mod_lt _ (Nat.two_pow_pos k)), hlow]

/-- A value of at most `w - j` bits put below the other bits of another. -/
theorem toNat_join_below {w j : Nat} {x : BitVec w} (hj : j ≤ w) (hx : x.toNat < 2 ^ (w - j)) (y : BitVec w) :
    (x ||| (y &&& ~~~(BitVec.allOnes w >>> j))).toNat = x.toNat + y.toNat / 2 ^ (w - j) * 2 ^ (w - j) := by
  rw [allOnes_ushiftRight hj, BitVec.or_comm, toNat_or_of_disjoint (toNat_and_not_lowMask y (w - j)) hx, Nat.add_comm]

/-! ### What the partial loads make of the register (R212, R213, R216, R217) -/

theorem sext32_eq_signedOf (x : Word) : sext32 x = signedOf 32 x.toNat := by
  rw [sext32, BitVec.signExtend, BitVec.toInt_eq_toNat_bmod, signedOf]

theorem low32_toNat (x : Dword) : (low32 x).toNat = x.toNat % 2 ^ 32 := extract_low_toNat x 32

/-- A number of at most eight bytes is what its doubleword holds. -/
theorem ofNat_toNat_of_lt_bytes {n : Nat} (hn : n ≤ 8) (hv : v < 2 ^ (8 * n)) : (BitVec.ofNat 64 v).toNat = v :=
  Nat.mod_eq_of_lt (hv.trans_le (Nat.pow_le_pow_right (by decide) (by omega)))

/-- A number of at most four bytes is what its word holds. -/
theorem low32_ofNat_of_lt_bytes {n : Nat} (hn : n ≤ 4) (hv : v < 2 ^ (8 * n)) :
    (low32 (BitVec.ofNat 64 v)).toNat = v := by
  rw [low32_toNat, ofNat_toNat_of_lt_bytes (by omega) hv]
  exact Nat.mod_eq_of_lt (hv.trans_le (Nat.pow_le_pow_right (by decide) (by omega)))

theorem mergeWordLeft_eq (hb : b = va.toNat % 4) (hv : v < 2 ^ (8 * (b + 1))) (old : Dword) :
    mergeWordLeft va (BitVec.ofNat 64 v) old =
      signedOf 32 (v * 2 ^ (8 * (3 - b)) + old.toNat % 2 ^ (8 * (3 - b))) := by
  have hx := low32_ofNat_of_lt_bytes (by omega) hv
  have hbits : 32 - 8 * (3 - b) = 8 * (b + 1) := by omega
  have hjoin := toNat_join_above (x := low32 (BitVec.ofNat 64 v)) (k := 8 * (3 - b)) (by omega)
    (by rw [hx, hbits]; exact hv) (low32 old)
  rw [mergeWordLeft, extract_two_toNat, ← hb, sext32_eq_signedOf]
  refine congrArg (signedOf 32) (hjoin.trans ?_)
  rw [hx, low32_toNat, Nat.mod_mod_of_dvd _ (Nat.pow_dvd_pow 2 (by omega))]

theorem mergeWordRight_eq (hb : b = va.toNat % 4) (hv : v < 2 ^ (8 * (4 - b))) (old : Dword) :
    mergeWordRight va (BitVec.ofNat 64 v) old =
      signedOf 32 (v + old.toNat % 2 ^ 32 / 2 ^ (8 * (4 - b)) * 2 ^ (8 * (4 - b))) := by
  have hx := low32_ofNat_of_lt_bytes (by omega) hv
  have hbits : 32 - 8 * b = 8 * (4 - b) := by omega
  have hjoin := toNat_join_below (x := low32 (BitVec.ofNat 64 v)) (j := 8 * b) (by omega)
    (by rw [hx, hbits]; exact hv) (low32 old)
  rw [hx, low32_toNat, hbits] at hjoin
  rw [mergeWordRight, extract_two_toNat, ← hb, sext32_eq_signedOf]
  exact congrArg (signedOf 32) hjoin

theorem mergeDoubleLeft_eq (hb : b = va.toNat % 8) (hv : v < 2 ^ (8 * (b + 1))) (old : Dword) :
    mergeDoubleLeft va (BitVec.ofNat 64 v) old =
      BitVec.ofNat 64 (v * 2 ^ (8 * (7 - b)) + old.toNat % 2 ^ (8 * (7 - b))) := by
  have hx := ofNat_toNat_of_lt_bytes (by omega) hv
  have hbits : 64 - 8 * (7 - b) = 8 * (b + 1) := by omega
  have hjoin := toNat_join_above (x := BitVec.ofNat 64 v) (k := 8 * (7 - b)) (by omega)
    (by rw [hx, hbits]; exact hv) old
  rw [hx] at hjoin
  rw [mergeDoubleLeft, extract_three_toNat, ← hb, ← hjoin, BitVec.ofNat_toNat, BitVec.setWidth_eq]
  rfl

theorem mergeDoubleRight_eq (hb : b = va.toNat % 8) (hv : v < 2 ^ (8 * (8 - b))) (old : Dword) :
    mergeDoubleRight va (BitVec.ofNat 64 v) old =
      BitVec.ofNat 64 (v + old.toNat / 2 ^ (8 * (8 - b)) * 2 ^ (8 * (8 - b))) := by
  have hx := ofNat_toNat_of_lt_bytes (by omega) hv
  have hbits : 64 - 8 * b = 8 * (8 - b) := by omega
  have hjoin := toNat_join_below (x := BitVec.ofNat 64 v) (j := 8 * b) (by omega)
    (by rw [hx, hbits]; exact hv) old
  rw [hx, hbits] at hjoin
  rw [mergeDoubleRight, extract_three_toNat, ← hb, ← hjoin, BitVec.ofNat_toNat, BitVec.setWidth_eq]
  rfl

/-! ### The statement -/

/-- Settles O35: each partial load merges the bytes it reads, found or filled. -/
theorem partialLoads : Obligations.PartialLoads := by
  intro s base rt offset pa c v h0 ht va old
  have hlow := translates_low ht
  have heff : s.effectiveAddress base offset = va := (addressOf_eq s base offset).symm
  refine ⟨fun b hb => ?_, fun b hb => ?_⟩
  · have hlwl := loadsInto_loadPart (i := .lwl base rt offset) (v := v) (p := wordLeft va)
      (by rw [← heff]; rfl) h0 ht (atByte_word hlow) (wordLeft_count hb) fun hv => mergeWordLeft_eq hb hv _
    have hlwr := loadsInto_loadPart (i := .lwr base rt offset) (v := v) (p := wordRight va)
      (by rw [← heff]; rfl) h0 ht (atByte_self hlow) (wordRight_count hb) fun hv => mergeWordRight_eq hb hv _
    exact ⟨hlwl.setsRegister, fun d => hlwl.loadsOnMiss, hlwr.setsRegister, fun d => hlwr.loadsOnMiss⟩
  · have hldl := loadsInto_loadPart (i := .ldl base rt offset) (v := v) (p := doubleLeft va)
      (by rw [← heff]; rfl) h0 ht (atByte_double pa va) (doubleLeft_count hb) fun hv => mergeDoubleLeft_eq hb hv _
    have hldr := loadsInto_loadPart (i := .ldr base rt offset) (v := v) (p := doubleRight va)
      (by rw [← heff]; rfl) h0 ht (atByte_self hlow) (doubleRight_count hb) fun hv => mergeDoubleRight_eq hb hv _
    exact ⟨hldl.setsRegister, fun d => hldl.loadsOnMiss, hldr.setsRegister, fun d => hldr.loadsOnMiss⟩

end Sys2Proof.Machine
end

section
/-! SUPPORT. The stores: what a write does to memory, to a line found or filled, and to the gather buffer, and how an
instruction that stores takes it over. -/

namespace Sys2Proof.Machine

variable {s t u : State} {va : Dword} {pa q : BitVec 40} {c : BitVec 3} {d : LineData} {n : Nat} {v : Dword} {i : Instr}

/-! ### The bytes of a line after a store -/

/-- Byte `j` of a value after bytes are put into it. -/
theorem extract_insertBytes {w : Nat} (x : BitVec w) (o : Nat) (bs : List Byte) {j : Nat} (hj : 8 * j + 8 ≤ w) :
    (insertBytes x o bs).extractLsb' (8 * j) 8 =
      if o ≤ j ∧ j < o + bs.length then bs.getD (j - o) 0 else x.extractLsb' (8 * j) 8 := by
  refine BitVec.eq_of_getLsbD_eq fun b hb => ?_
  have hbyte : (8 * j + b) / 8 = j := by omega
  have hbit : (8 * j + b) % 8 = b := by omega
  rw [BitVec.getLsbD_extractLsb', getLsbD_insertBytes _ _ _ _ (by omega), hbyte, hbit]
  split
  · simp [hb]
  · rw [BitVec.getLsbD_extractLsb']

/-- The bytes of a line where the low bytes of a value have been stored. -/
theorem extract_insertBytes_stored (x : LineData) {o i : Nat} (hi : i < n) (hline : o + n ≤ 32) (v : Dword) :
    (insertBytes x o (toBytes v n)).extractLsb' (8 * (o + i)) 8 = byteOf v i := by
  rw [extract_insertBytes _ _ _ (by omega), toBytes_length, if_pos (by omega), Nat.add_sub_cancel_left, getD_toBytes,
    if_pos hi, byteOf]

/-- The other bytes of a line are those it had. -/
theorem extract_insertBytes_kept (x : LineData) {o j : Nat} (hj : j < 32) (ho : j < o ∨ o + n ≤ j) (v : Dword) :
    (insertBytes x o (toBytes v n)).extractLsb' (8 * j) 8 = x.extractLsb' (8 * j) 8 := by
  rw [extract_insertBytes _ _ _ (by omega), toBytes_length, if_neg (by omega)]

/-! ### The gather buffer (R143) -/

theorem keepGather_waits {g : Gather} (h : g.bytes.length < 32) (s : State) :
    keepGather s g = .ok () { s with gather := some g } := by
  rw [keepGather, if_neg (by omega)]

theorem keepGather_full {g : Gather} {x : Nat} (h : g.bytes.length = 32) (hx : DramAt s g.first x) :
    keepGather s g = .ok () { s with mem := writeBytes s.mem x g.bytes, gather := none } := by
  rw [keepGather, if_pos h, flushGather]
  simp only []
  rw [if_pos h]
  exact physWrite_dram (s := { s with gather := none }) hx g.bytes

/-- A store into the empty buffer waits there. -/
theorem gatherStore_empty (hg : s.gather = none) {bs : List Byte} (hn : bs.length < 32) (pa : BitVec 40) :
    gatherStore s pa bs = .ok () { s with gather := some { first := pa, size := bs.length, bytes := bs } } := by
  rw [gatherStore, hg]
  exact keepGather_waits hn s

theorem gatherStore_joins {g : Gather} {bs : List Byte} (hg : s.gather = some g)
    (h : g.continues pa bs.length = true) :
    gatherStore s pa bs = keepGather s { g with bytes := g.bytes ++ bs } := by
  simp [gatherStore, hg, h]

theorem gatherStore_after_flush {g : Gather} {bs : List Byte} (hg : s.gather = some g)
    (h : g.continues pa bs.length = false) (hf : flushGather s = .ok () u) (hn : bs.length < 32) :
    gatherStore s pa bs = .ok () { u with gather := some { first := pa, size := bs.length, bytes := bs } } := by
  simp [gatherStore, hg, h, hf, keepGather_waits (g := { first := pa, size := bs.length, bytes := bs }) hn]

theorem lineAddress_eq_iff (a b : BitVec 40) : lineAddress a = lineAddress b ↔ a.toNat / 32 = b.toNat / 32 := by
  have h : ∀ x : BitVec 40, (lineAddress x).toNat = x.toNat / 32 * 32 := fun x => toNat_and_not_lowMask x 5
  rw [← BitVec.toNat_inj, h, h]
  omega

theorem continues_iff (g : Gather) (pa : BitVec 40) (n : Nat) :
    g.continues pa n = true ↔
      g.size = n ∧ pa = g.first + BitVec.ofNat 40 g.bytes.length ∧ pa.toNat / 32 = g.first.toNat / 32 := by
  simp only [Gather.continues, Bool.and_eq_true, beq_iff_eq, lineAddress_eq_iff, and_assoc]

/-! ### What a write does by the kind of its access -/

/-- Memory after the low bytes of a value are stored. -/
theorem stored_writeBytes (hcan : s.canonical) (x n : Nat) (v : Dword) (ht : t.mem = writeBytes s.mem x (toBytes v n)) :
    Stored s t x n v := by
  obtain ⟨hmem, -⟩ := hcan
  refine ⟨fun i hi => ?_, fun a ha => ?_⟩
  · rw [ht, readByte_writeBytes hmem x _ i (by simpa using hi), getElem_toBytes, byteOf]
  · rw [ht, readByte_writeBytes_other _ _ _ (by simpa using ha)]

/-- A line after the low bytes of a value are stored into it. -/
theorem storedInLine_setDLine (hcan : s.canonical) (k : Nat) (hline : pa.toNat % 32 + n ≤ 32) (v : Dword) :
    StoredInLine s (s.setDLine k ((s.dLine k).stored pa (toBytes v n))) k (pa.toNat % 32) n v := by
  have hget := fun j => dLine_setDLine hcan k j ((s.dLine k).stored pa (toBytes v n))
  have hk := (hget k).trans (if_pos rfl)
  unfold StoredInLine
  rw [hk]
  exact ⟨fun i hi => extract_insertBytes_stored _ hi hline v, fun j hj ho => extract_insertBytes_kept _ hj ho v,
    rfl, rfl, rfl, fun j hj => (hget j).trans (if_neg hj)⟩

/-- Nothing but memory, the data cache and the gather buffer differs. -/
def OnlyStored (s t : State) : Prop := t = { s with mem := t.mem, dcache := t.dcache, gather := t.gather }

/-- A write that meets the conditions of `Storable` does what `StoreEffect` says. -/
theorem dataWrite_of_storable (hcan : s.canonical) (h : Storable s va pa c) (hn : n ≤ 8)
    (hline : pa.toNat % 32 + n ≤ 32) (v : Dword) :
    ∃ t, dataWrite s c va pa (toBytes v n) = .ok () t ∧ StoreEffect s t va pa c n v ∧ OnlyStored s t := by
  rcases h with ⟨h3, h7, hg, x, hx⟩ | ⟨rfl, k, hk⟩ | ⟨rfl, hg⟩
  · exact ⟨_, dataWrite_dram h3 h7 hg hx va _,
      .inl ⟨h3, h7, x, hx, stored_writeBytes hcan x n v rfl, rfl, rfl⟩, rfl⟩
  · exact ⟨_, dataWrite_hit hk _,
      .inr (.inl ⟨rfl, k, hk, storedInLine_setDLine hcan k hline v, rfl, rfl⟩), rfl⟩
  · have hlen := toBytes_length v n
    have hstore := gatherStore_empty hg (bs := toBytes v n) (by omega) pa
    rw [hlen] at hstore
    exact ⟨_, hstore, .inr (.inr ⟨rfl, hg, rfl, rfl, rfl⟩), rfl⟩

/-- A write that misses stores into the line that it fills. -/
theorem dataWrite_of_refills (hcan : s.canonical) (h : Refills s va pa d) (hline : pa.toNat % 32 + n ≤ 32) (v : Dword) :
    ∃ t, dataWrite s 3 va pa (toBytes v n) = .ok () t ∧ FilledByStore s t va pa d n v ∧ OnlyLines s t := by
  obtain ⟨u, k, hfill, hcan', ⟨hk, htag, hsecondary, hdisabled, hmemory⟩, ⟨-, -, hdata⟩, honly⟩ :=
    fills_of_refills hcan h
  have hget := fun j => dLine_setDLine hcan' k j ((u.dLine k).stored pa (toBytes v n))
  have hline_k := (hget k).trans (if_pos rfl)
  have hother := fun j (hj : j ≠ k) => (hget j).trans (if_neg hj)
  refine ⟨u.setDLine k ((u.dLine k).stored pa (toBytes v n)), ?_, ⟨k, ⟨hk, ?_, fun hs => ?_, fun hs hd => ?_,
    fun hs hd => ?_⟩, ?_⟩, ?_⟩
  · rw [dataWrite, if_pos rfl, writeCached, hfill, Res.bind_ok]
    rfl
  · rw [hline_k]
    exact htag
  · obtain ⟨hi, hj, hm⟩ := hsecondary hs
    exact ⟨hi, fun j hne => (hother j hne).trans (hj j hne), hm⟩
  · obtain ⟨hi, hj, hm⟩ := hdisabled hs hd
    exact ⟨hi, fun j hne => (hother j hne).trans (hj j hne), hm⟩
  · obtain ⟨q, hq, hfilled, hi, hj⟩ := hmemory hs hd
    exact ⟨q, hq, hfilled, hi, fun j hne => (hother j hne).trans (hj j hne)⟩
  · rw [hline_k, ← hdata]
    exact ⟨rfl, rfl, fun i hi => extract_insertBytes_stored _ hi hline v,
      fun j hj ho => extract_insertBytes_kept _ hj ho v⟩
  · rw [OnlyLines, honly]
    rfl

/-! ### Instructions that store -/

/-- A state with other bytes in memory and in the gather buffer. -/
def State.withStore (s : State) (m : List Host.Cell) (g : Option Gather) : State := { s with mem := m, gather := g }

/-- An instruction stores: whatever waits in the gather buffer, it goes on from the state in which its write of the low
`n` bytes of `v` at `pa` ends. -/
def StoresBytes (i : Instr) (s : State) (va : Dword) (pa : BitVec 40) (c : BitVec 3) (n : Nat) (v : Dword) : Prop :=
  ∀ m g t, dataWrite (s.withStore m g) c va pa (toBytes v n) = .ok () t → exec i (s.withStore m g) = .next t.advance

theorem StoresBytes.exec_eq (h : StoresBytes i s va pa c n v) (hw : dataWrite s c va pa (toBytes v n) = .ok () t) :
    exec i s = .next t.advance := h s.mem s.gather t hw

theorem StoresBytes.storesTo (h : StoresBytes i s va pa c n v) (hcan : s.canonical) (hst : Storable s va pa c)
    (hn : n ≤ 8) (hline : pa.toNat % 32 + n ≤ 32) : StoresTo i s va pa c n v := by
  obtain ⟨t, hw, heffect, honly⟩ := dataWrite_of_storable hcan hst hn hline v
  refine ⟨t.advance, h.exec_eq hw, heffect, ?_, goesOn_advance ?_ ?_⟩
  · rw [OnlyStore, honly]
    rfl
  · rw [honly]
  · rw [honly]

theorem StoresBytes.storesOnMiss (h : StoresBytes i s va pa 3 n v) (hcan : s.canonical) (hr : Refills s va pa d)
    (hline : pa.toNat % 32 + n ≤ 32) : StoresOnMiss i s va pa d n v := by
  obtain ⟨t, hw, hfilled, honly⟩ := dataWrite_of_refills hcan hr hline v
  refine ⟨t.advance, h.exec_eq hw, hfilled, ?_, goesOn_advance ?_ ?_⟩
  · rw [OnlyFill, honly]
    rfl
  · rw [honly]
  · rw [honly]

/-- An uncached accelerated store joins what waits in the buffer, or finds it written out. -/
theorem StoresBytes.gathersOn (h : StoresBytes i s va pa 7 n v) (hcan : s.canonical) (hn : n ≤ 8) :
    GathersOn i s pa n v := by
  intro g hg hne joined continues
  have hlen : (toBytes v n).length = n := toBytes_length v n
  have hcont : g.continues pa (toBytes v n).length = true ↔ continues := by
    rw [hlen]
    exact continues_iff g pa n
  refine ⟨fun hc hshort => ?_, fun hc hfull x hx => ?_, fun hc x hat => ?_⟩
  · have hw := (gatherStore_joins hg (hcont.mpr hc)).trans
      (keepGather_waits (g := { g with bytes := joined }) hshort s)
    exact ⟨_, h.exec_eq hw, rfl, rfl, rfl⟩
  · have hw := (gatherStore_joins hg (hcont.mpr hc)).trans
      (keepGather_full (g := { g with bytes := joined }) hfull hx)
    obtain ⟨hmem, -⟩ := hcan
    exact ⟨_, h.exec_eq hw, fun j hj => readByte_writeBytes hmem x joined j hj,
      fun a ha => readByte_writeBytes_other s.mem x joined (hfull ▸ ha), rfl, rfl, rfl⟩
  · have hno : g.continues pa (toBytes v n).length = false := Bool.eq_false_iff.mpr fun hh => hc (hcont.mp hh)
    refine ⟨s.gatherStored g x, writtenOut_gatherStored hat, ?_⟩
    have hs := h.exec_eq (gatherStore_after_flush hg hno (flushGather_of_gatherAt hat) (by omega))
    have hu := h (writeBytes s.mem x g.bytes) none _
      (gatherStore_empty (s := s.gatherStored g x) rfl (bs := toBytes v n) (by omega) pa)
    exact hs.trans hu.symm

theorem translates_withStore {store : Bool} (ht : Translates s store va pa c) (m : List Host.Cell) (g : Option Gather) :
    Translates (s.withStore m g) store va pa c := translates_congr ht rfl rfl

theorem memWrite_of_dataWrite (ht : Translates s true va pa c) (ha : va.toNat % n = 0)
    (h : dataWrite s c va pa (toBytes v n) = .ok () t) : memWrite s va n v = .ok () t := by
  simp [memWrite, alignedAddress_aligned ha, dataAddress_of_translates ht, h]

/-- What an instruction does that stores the low `n` bytes of `v` at `pa`: memory, a line or the empty gather buffer
takes them, a line filled on a miss does, or they meet others in the gather buffer. -/
structure StoresByAttribute (i : Instr) (s : State) (va : Dword) (pa : BitVec 40) (c : BitVec 3) (n : Nat)
    (v : Dword) : Prop where
  found : Storable s va pa c → StoresTo i s va pa c n v
  missed : ∀ d, c = 3 → Refills s va pa d → StoresOnMiss i s va pa d n v
  gathered : c = 7 → GathersOn i s pa n v

theorem StoresBytes.byAttribute (h : StoresBytes i s va pa c n v) (hcan : s.canonical) (hn : n ≤ 8)
    (hline : pa.toNat % 32 + n ≤ 32) : StoresByAttribute i s va pa c n v where
  found hst := h.storesTo hcan hst hn hline
  missed d hc hr := by
    subst hc
    exact h.storesOnMiss hcan hr hline
  gathered hc := by
    subst hc
    exact h.gathersOn hcan hn

/-- An aligned access of 1, 2, 4 or 8 bytes lies in one line. -/
theorem line_of_aligned (hlow : pa.toNat % 2 ^ 12 = va.toNat % 2 ^ 12) (hn : n ∈ [1, 2, 4, 8])
    (ha : va.toNat % n = 0) : n ≤ 8 ∧ pa.toNat % 32 + n ≤ 32 := by
  simp only [List.mem_cons, List.not_mem_nil, or_false] at hn
  rcases hn with rfl | rfl | rfl | rfl <;> omega

/-- A store of a whole value. -/
theorem storesByAttribute_of_memWrite {base : Reg} {offset : BitVec 16}
    (he : ∀ m g, exec i (s.withStore m g) = (memWrite (s.withStore m g) (s.effectiveAddress base offset) n v).finish)
    (hcan : s.canonical) (ht : Translates s true (addressOf s base offset) pa c) (hn : n ∈ [1, 2, 4, 8])
    (ha : (addressOf s base offset).toNat % n = 0) : StoresByAttribute i s (addressOf s base offset) pa c n v := by
  have hstores : StoresBytes i s (addressOf s base offset) pa c n v := fun m g t hw => by
    rw [he, ← addressOf_eq, memWrite_of_dataWrite (translates_withStore ht m g) ha hw, Res.finish_ok]
  obtain ⟨hle, hline⟩ := line_of_aligned (translates_low ht) hn ha
  exact hstores.byAttribute hcan hle hline

/-- A store of some bytes of a value. -/
theorem storesByAttribute_of_storePart {p : Part} {x : Dword}
    (he : ∀ m g, exec i (s.withStore m g) = storePart (s.withStore m g) p x) (hx : x = v) (hcan : s.canonical)
    (ht : Translates s true p.va pa c) (hq : atByte pa p.first = q) (hcount : p.count = n) (hn : n ≤ 8)
    (hline : q.toNat % 32 + n ≤ 32) : StoresByAttribute i s p.va q c n v := by
  subst hx
  have hstores : StoresBytes i s p.va q c n x := fun m g t hw => by
    have hpart : memWritePart (s.withStore m g) p.va p.first p.count x = .ok () t := by
      simp [memWritePart, dataAddress_of_translates (translates_withStore ht m g), hq, hcount, hw]
    rw [he, storePart, hpart, Res.finish_ok]
  exact hstores.byAttribute hcan hn hline

end Sys2Proof.Machine
end

section
/-! The stores of general registers: `Stores` and `PartialStores`. -/

namespace Sys2Proof.Machine

variable {s : State} {va : Dword} {pa : BitVec 40} {b : Nat}

/-- Settles O36: each store writes its bytes where the kind of its access sends them. -/
theorem stores : Obligations.Stores := by
  intro s base rt offset pa c hcan ht va
  have hsb := storesByAttribute_of_memWrite (i := .sb base rt offset) (n := 1) (v := s.readGpr rt) (fun _ _ => rfl)
    hcan ht (by decide) (Nat.mod_one _)
  have hsh := storesByAttribute_of_memWrite (i := .sh base rt offset) (n := 2) (v := s.readGpr rt) (fun _ _ => rfl)
    hcan ht (by decide)
  have hsw := storesByAttribute_of_memWrite (i := .sw base rt offset) (n := 4) (v := s.readGpr rt) (fun _ _ => rfl)
    hcan ht (by decide)
  have hsd := storesByAttribute_of_memWrite (i := .sd base rt offset) (n := 8) (v := s.readGpr rt) (fun _ _ => rfl)
    hcan ht (by decide)
  exact
    ⟨fun hst => ⟨hsb.found hst, fun ha => (hsh ha).found hst, fun ha => (hsw ha).found hst,
        fun ha => (hsd ha).found hst⟩,
      fun hc d hr => ⟨hsb.missed d hc hr, fun ha => (hsh ha).missed d hc hr, fun ha => (hsw ha).missed d hc hr,
        fun ha => (hsd ha).missed d hc hr⟩,
      fun hc => ⟨hsb.gathered hc, fun ha => (hsh ha).gathered hc, fun ha => (hsw ha).gathered hc,
        fun ha => (hsd ha).gathered hc⟩⟩

/-- The high-order bytes of the low word, which SWL stores (R214). -/
theorem swl_value (hb : b = va.toNat % 4) (x : Dword) :
    (x &&& 0xFFFFFFFF) >>> (8 * (4 - (wordLeft va).count)) =
      BitVec.ofNat 64 (x.toNat % 2 ^ 32 / 2 ^ (8 * (3 - b))) := by
  have hmask : (x &&& 0xFFFFFFFF).toNat = x.toNat % 2 ^ 32 := toNat_and_lowMask x 32
  have hval : ((x &&& 0xFFFFFFFF) >>> (8 * (3 - b))).toNat = x.toNat % 2 ^ 32 / 2 ^ (8 * (3 - b)) := by
    rw [BitVec.toNat_ushiftRight, Nat.shiftRight_eq_div_pow, hmask]
  rw [wordLeft_count hb, show 4 - (b + 1) = 3 - b by omega, ← hval, BitVec.ofNat_toNat, BitVec.setWidth_eq]

/-- The high-order bytes of a doubleword, which SDL stores (R218). -/
theorem sdl_value (hb : b = va.toNat % 8) (x : Dword) :
    x >>> (8 * (8 - (doubleLeft va).count)) = BitVec.ofNat 64 (x.toNat / 2 ^ (8 * (7 - b))) := by
  have hval : (x >>> (8 * (7 - b))).toNat = x.toNat / 2 ^ (8 * (7 - b)) := by
    rw [BitVec.toNat_ushiftRight, Nat.shiftRight_eq_div_pow]
  rw [doubleLeft_count hb, show 8 - (b + 1) = 7 - b by omega, ← hval, BitVec.ofNat_toNat, BitVec.setWidth_eq]

/-- The bytes from the start of an aligned word to the one addressed lie in one line. -/
theorem line_of_wordLeft (hb : b = va.toNat % 4) (pa : BitVec 40) : (pa &&& ~~~3).toNat % 32 + (b + 1) ≤ 32 := by
  have hpa : (pa &&& ~~~3).toNat = pa.toNat / 4 * 4 := toNat_and_not_lowMask pa 2
  omega

/-- The bytes from the start of an aligned doubleword to the one addressed lie in one line. -/
theorem line_of_doubleLeft (hb : b = va.toNat % 8) (pa : BitVec 40) : (pa &&& ~~~7).toNat % 32 + (b + 1) ≤ 32 := by
  have hpa : (pa &&& ~~~7).toNat = pa.toNat / 8 * 8 := toNat_and_not_lowMask pa 3
  omega

/-- Settles O37: each partial store writes the bytes on its side of the address. -/
theorem partialStores : Obligations.PartialStores := by
  intro s base rt offset pa c hcan ht va v
  have hlow : pa.toNat % 2 ^ 12 = va.toNat % 2 ^ 12 := translates_low ht
  have heff : s.effectiveAddress base offset = va := (addressOf_eq s base offset).symm
  have hreg : s.readGpr rt = BitVec.ofNat 64 v := by rw [BitVec.ofNat_toNat, BitVec.setWidth_eq]
  refine ⟨fun b hb => ?_, fun b hb => ?_⟩
  · intro first high low
    have hswl := storesByAttribute_of_storePart (i := .swl base rt offset) (p := wordLeft va) (v := high)
      (fun _ _ => by rw [← heff]; rfl) (swl_value hb _) hcan ht (atByte_word hlow) (wordLeft_count hb) (by omega)
      (line_of_wordLeft hb pa)
    have hswr := storesByAttribute_of_storePart (i := .swr base rt offset) (p := wordRight va) (v := low)
      (fun _ _ => by rw [← heff]; rfl) hreg hcan ht (atByte_self hlow) (wordRight_count hb) (by omega) (by omega)
    exact ⟨hswl.found, hswl.missed, hswl.gathered, hswr.found, hswr.missed, hswr.gathered⟩
  · intro first high low
    have hsdl := storesByAttribute_of_storePart (i := .sdl base rt offset) (p := doubleLeft va) (v := high)
      (fun _ _ => by rw [← heff]; rfl) (sdl_value hb _) hcan ht (atByte_double pa va) (doubleLeft_count hb) (by omega)
      (line_of_doubleLeft hb pa)
    have hsdr := storesByAttribute_of_storePart (i := .sdr base rt offset) (p := doubleRight va) (v := low)
      (fun _ _ => by rw [← heff]; rfl) hreg hcan ht (atByte_self hlow) (doubleRight_count hb) (by omega) (by omega)
    exact ⟨hsdl.found, hsdl.missed, hsdl.gathered, hsdr.found, hsdr.missed, hsdr.gathered⟩

end Sys2Proof.Machine
end

section
/-! The linked loads and the conditional stores: `LinkedAccesses`. -/

namespace Sys2Proof.Machine

variable {s t u : State} {va : Dword} {pa : BitVec 40} {c : BitVec 3} {d : LineData} {n v : Nat} {i : Instr}
  {base rt : Reg} {offset : BitVec 16} {w : Dword}

/-! ### LL and LLD (R222, R223) -/

theorem setLlbit_writeGpr (s : State) (rt : Reg) (w : Dword) (b : Bool) :
    (s.writeGpr rt w).setLlbit b = (s.setLlbit b).writeGpr rt w := by
  unfold State.writeGpr
  split <;> rfl

theorem loadLinked_of_ok {extend : Dword → Dword} {x : Dword} (h0 : rt ≠ 0) (h : memRead s va n = .ok x u) :
    loadLinked s rt va n extend = .next ((u.setLlbit true).writeGpr rt (extend x)).advance := by
  rw [loadLinked, if_neg h0, h, ← setLlbit_writeGpr]
  rfl

/-- An instruction loads and links: when the read of `n` bytes at `pa` answers `v`, it writes `w` to `rt`, sets LLbit
and goes on. -/
def LinksInto (i : Instr) (s : State) (va : Dword) (pa : BitVec 40) (c : BitVec 3) (n v : Nat) (rt : Reg)
    (w : Dword) : Prop :=
  ∀ t, ReadsNumber s va pa c n v t → exec i s = .next ((t.setLlbit true).writeGpr rt w).advance

theorem linksInto_loadLinked {extend : Dword → Dword}
    (he : exec i s = loadLinked s rt (s.effectiveAddress base offset) n extend) (h0 : rt ≠ 0)
    (ht : Translates s false (addressOf s base offset) pa c) (ha : (addressOf s base offset).toNat % n = 0)
    (hw : extend (BitVec.ofNat 64 v) = w) : LinksInto i s (addressOf s base offset) pa c n v rt w := fun t hread => by
  rw [he, ← addressOf_eq, loadLinked_of_ok h0 (memRead_of_readsNumber ht ha hread), hw]

theorem LinksInto.found (h : LinksInto i s va pa c n v rt w) (hr : ReadsAs s va pa c n v) :
    ∃ t, exec i s = .next t ∧ RegisterSet s t rt w ∧ t.llbit = true ∧ OnlyRegisters { s with llbit := true } t ∧
      GoesOn s t :=
  ⟨_, h s (readsNumber_of_readsAs hr), registerSet_writeGpr rfl rt w, by simp,
    onlyRegisters_writeGpr (s.setLlbit true) rt w, goesOn_advance (by simp) (by simp)⟩

theorem LinksInto.missed (h : LinksInto i s va pa c n v rt w) (hr : ReadsOnMiss s va pa c n d v) :
    ∃ t, exec i s = .next t ∧ RegisterSet s t rt w ∧ t.llbit = true ∧ FilledByLoad s t va pa d ∧
      OnlyFill { s with gpr := t.gpr, llbit := true } t ∧ GoesOn s t := by
  obtain ⟨u, hread, hfilled, honly⟩ := readsNumber_of_readsOnMiss hr
  refine ⟨_, h u hread, registerSet_writeGpr (u := u.setLlbit true) hread.gpr rt w, by simp,
    hfilled.congr (by simp [SameLines]), onlyFill_writeGpr (s := s.setLlbit true) ?_ rt w⟩
  rw [OnlyLines, honly]
  rfl

/-! ### SC and SCD (R224, R225) -/

theorem memWriteConditional_of_clear (ht : Translates s true va pa c) (ha : va.toNat % n = 0) (hl : s.llbit = false)
    (x : Dword) : memWriteConditional s va n x = .ok () s := by
  simp [memWriteConditional, alignedAddress_aligned ha, dataAddress_of_translates ht, hl]

theorem memWriteConditional_of_set {x : Dword} (ht : Translates s true va pa c) (ha : va.toNat % n = 0)
    (hl : s.llbit = true) (hw : dataWrite s c va pa (toBytes x n) = .ok () t) :
    memWriteConditional s va n x = .ok () t := by
  simp [memWriteConditional, alignedAddress_aligned ha, dataAddress_of_translates ht, hl, hw]

theorem storeConditional_of_ok (h : memWriteConditional s va n (s.readGpr rt) = .ok () u) :
    storeConditional s rt va n = .next (u.writeGpr rt (if u.llbit then 1 else 0)).advance := by
  simp [storeConditional, h]

/-- With LLbit 0 nothing is stored, and the register says so. -/
theorem setsRegister_of_llbit_clear (he : exec i s = storeConditional s rt (s.effectiveAddress base offset) n)
    (ht : Translates s true (addressOf s base offset) pa c) (ha : (addressOf s base offset).toNat % n = 0)
    (hl : s.llbit = false) : SetsRegister i s rt 0 := by
  refine setsRegister_of_writeGpr ?_
  rw [he, ← addressOf_eq, storeConditional_of_ok (memWriteConditional_of_clear ht ha hl _), hl]
  rfl

/-- With LLbit 1 the write is done, and the register says so. -/
theorem exec_of_llbit_set (he : exec i s = storeConditional s rt (s.effectiveAddress base offset) n)
    (ht : Translates s true (addressOf s base offset) pa c) (ha : (addressOf s base offset).toNat % n = 0)
    (hl : s.llbit = true) (hw : dataWrite s c (addressOf s base offset) pa (toBytes (s.readGpr rt) n) = .ok () t)
    (hlt : t.llbit = s.llbit) : exec i s = .next (t.writeGpr rt 1).advance := by
  rw [he, ← addressOf_eq, storeConditional_of_ok (memWriteConditional_of_set ht ha hl hw), hlt, hl]
  rfl

theorem StoreEffect.congr {x : Dword} (h : StoreEffect s t va pa c n x) (hm : u.mem = t.mem) (hd : u.dcache = t.dcache)
    (hg : u.gather = t.gather) : StoreEffect s u va pa c n x := by
  have hline : u.dLine = t.dLine := funext fun k => by rw [State.dLine, State.dLine, hd]
  unfold StoreEffect Stored StoredInLine
  rw [hm, hd, hg, hline]
  exact h

theorem FilledByStore.congr {x : Dword} (h : FilledByStore s t va pa d n x) (hl : SameLines t u) :
    FilledByStore s u va pa d n x := by
  obtain ⟨k, hrefilled, hstored⟩ := h
  obtain ⟨-, hd, -⟩ := hl.lines
  refine ⟨k, hrefilled.congr hl, ?_⟩
  rw [hd]
  exact hstored

/-- A conditional store with LLbit 1, to memory, to a line that the data cache holds or to the empty gather buffer. -/
theorem storeConditional_found (he : exec i s = storeConditional s rt (s.effectiveAddress base offset) n)
    (ht : Translates s true (addressOf s base offset) pa c) (hl : s.llbit = true) (hcan : s.canonical)
    (hst : Storable s (addressOf s base offset) pa c) (hn : n ∈ [1, 2, 4, 8])
    (ha : (addressOf s base offset).toNat % n = 0) :
    ∃ t, exec i s = .next t ∧ StoreEffect s t (addressOf s base offset) pa c n (s.readGpr rt) ∧
      RegisterSet s t rt 1 ∧ OnlyStore { s with gpr := t.gpr } t ∧ GoesOn s t := by
  obtain ⟨hle, hline⟩ := line_of_aligned (translates_low ht) hn ha
  obtain ⟨t, hw, heffect, honly⟩ := dataWrite_of_storable hcan hst hle hline (s.readGpr rt)
  refine ⟨_, exec_of_llbit_set he ht ha hl hw (by rw [honly]), heffect.congr (by simp) (by simp) (by simp),
    registerSet_writeGpr (by rw [honly]) rt 1, ?_, goesOn_advance ?_ ?_⟩
  · unfold OnlyStore State.writeGpr
    rw [honly]
    split <;> rfl
  · rw [State.writeGpr_pc, honly]
  · rw [State.writeGpr_delay, honly]

/-- A conditional store with LLbit 1 that misses. -/
theorem storeConditional_missed (he : exec i s = storeConditional s rt (s.effectiveAddress base offset) n)
    (ht : Translates s true (addressOf s base offset) pa 3) (hl : s.llbit = true) (hcan : s.canonical)
    (hr : Refills s (addressOf s base offset) pa d) (hn : n ∈ [1, 2, 4, 8])
    (ha : (addressOf s base offset).toNat % n = 0) :
    ∃ t, exec i s = .next t ∧ FilledByStore s t (addressOf s base offset) pa d n (s.readGpr rt) ∧
      RegisterSet s t rt 1 ∧ OnlyFill { s with gpr := t.gpr } t ∧ GoesOn s t := by
  obtain ⟨-, hline⟩ := line_of_aligned (translates_low ht) hn ha
  obtain ⟨t, hw, hfilled, honly⟩ := dataWrite_of_refills hcan hr hline (s.readGpr rt)
  exact ⟨_, exec_of_llbit_set he ht ha hl hw (by rw [honly]), hfilled.congr (by simp [SameLines]),
    registerSet_writeGpr (by rw [honly]) rt 1, onlyFill_writeGpr honly rt 1⟩

/-- Settles O38: the linked loads, and the conditional stores with LLbit 0 and with LLbit 1. -/
theorem linkedAccesses : Obligations.LinkedAccesses := by
  intro s base rt offset pa c va
  refine ⟨fun h0 ht v => ?_, fun ht hl => ?_, fun ht hl hcan hst => ?_, fun ht hl hcan hc d hr => ?_⟩
  · have hll := fun ha => linksInto_loadLinked (i := .ll base rt offset) rfl h0 ht ha
      (signExtendFrom_eq_signedOf (k := 32) (by decide) v)
    have hlld := fun ha => linksInto_loadLinked (i := .lld base rt offset) rfl h0 ht ha (id_eq (BitVec.ofNat 64 v))
    exact ⟨fun ha => (hll ha).found, fun ha => (hlld ha).found,
      fun d => ⟨fun ha => (hll ha).missed, fun ha => (hlld ha).missed⟩⟩
  · exact ⟨fun ha => setsRegister_of_llbit_clear (i := .sc base rt offset) rfl ht ha hl,
      fun ha => setsRegister_of_llbit_clear (i := .scd base rt offset) rfl ht ha hl⟩
  · exact ⟨storeConditional_found (i := .sc base rt offset) rfl ht hl hcan hst (by decide),
      storeConditional_found (i := .scd base rt offset) rfl ht hl hcan hst (by decide)⟩
  · subst hc
    exact ⟨storeConditional_missed (i := .sc base rt offset) rfl ht hl hcan hr (by decide),
      storeConditional_missed (i := .scd base rt offset) rfl ht hl hcan hr (by decide)⟩

end Sys2Proof.Machine
end

section
/-! SUPPORT. The floating-point registers after a write of a single or of a doubleword (R482). -/

namespace Sys2Proof.Machine

variable {s : State} {n : Reg}

theorem State.getFpr_setFpr (s : State) (n m : Reg) (f : Fpr) :
    (s.setFpr n f).getFpr m = if m = n then f else s.getFpr m := by
  unfold State.getFpr State.setFpr
  by_cases h : m = n
  · subst h
    rw [if_pos rfl]
    exact Vector.getElem_set_self ..
  · have hne : n.toNat ≠ m.toNat := fun hh => h (BitVec.eq_of_toNat_eq hh.symm)
    rw [if_neg h]
    exact Vector.getElem_set_ne n.isLt m.isLt hne

@[simp] theorem State.fr_setFpr (s : State) (n : Reg) (f : Fpr) : (s.setFpr n f).fr = s.fr := rfl

/-- The pair of an odd register: the even one below it. -/
theorem evenOf_of_odd : ∀ n : Reg, n.getLsbD 0 = true →
    evenOf n = n ^^^ 1 ∧ (n ^^^ 1).getLsbD 0 = false ∧ evenOf n ≠ n := by decide

/-- The pair of an even register: the odd one above it. -/
theorem evenOf_of_even : ∀ n : Reg, n.getLsbD 0 = false →
    evenOf n = n ∧ (n ^^^ 1).getLsbD 0 = true ∧ evenOf (n ^^^ 1) = n := by decide

theorem State.readS_of_fr (h : s.fr = true) (n : Reg) : s.readS n = (s.getFpr n).lo := by
  rw [State.readS, if_pos h]

theorem State.readS_of_odd (h : s.fr = false) (hn : n.getLsbD 0 = true) : s.readS n = (s.getFpr (evenOf n)).hi := by
  rw [State.readS, h, hn]
  rfl

theorem State.readS_of_even (h : s.fr = false) (hn : n.getLsbD 0 = false) : s.readS n = (s.getFpr n).lo := by
  rw [State.readS, h, hn]
  rfl

/-- A write of a single sets it and keeps the other registers, with FR = 0 the other single of the pair too. -/
theorem singleSet_writeS (s : State) (n : Reg) (v : Word) : SingleSet s (s.writeS n v) n v := by
  cases hfr : s.fr with
  | true =>
    have hw : s.writeS n v = s.setFpr n { hi := (s.free .fprHigh n.toNat).extractLsb' 0 32, lo := v } := by
      rw [State.writeS, if_pos hfr]
    rw [hw]
    refine ⟨?_, fun m hm => ?_, fun h0 => ?_⟩
    · rw [State.readS_of_fr (by simpa using hfr), State.getFpr_setFpr, if_pos rfl]
    · rw [State.getFpr_setFpr, if_neg (by simpa [hfr] using hm)]
    · rw [hfr] at h0
      cases h0
  | false =>
    cases hn : n.getLsbD 0 with
    | true =>
      obtain ⟨hpair, heven, -⟩ := evenOf_of_odd n hn
      have hw : s.writeS n v = s.setFpr (evenOf n) { s.getFpr (evenOf n) with hi := v } := by
        rw [State.writeS, hfr, hn]
        rfl
      rw [hw]
      refine ⟨?_, fun m hm => ?_, fun _ => ?_⟩
      · rw [State.readS_of_odd (by simpa using hfr) hn, State.getFpr_setFpr, if_pos rfl]
      · rw [State.getFpr_setFpr, if_neg (by simpa [hfr] using hm)]
      · rw [State.readS_of_even (by simpa using hfr) heven, State.readS_of_even hfr heven, ← hpair,
          State.getFpr_setFpr, if_pos rfl]
    | false =>
      obtain ⟨hself, hodd, hpair⟩ := evenOf_of_even n hn
      have hw : s.writeS n v = s.setFpr n { s.getFpr n with lo := v } := by
        rw [State.writeS, hfr, hn]
        rfl
      rw [hw]
      refine ⟨?_, fun m hm => ?_, fun _ => ?_⟩
      · rw [State.readS_of_even (by simpa using hfr) hn, State.getFpr_setFpr, if_pos rfl]
      · rw [State.getFpr_setFpr, if_neg (by simpa [hfr, hself] using hm)]
      · rw [State.readS_of_odd (by simpa using hfr) hodd, State.readS_of_odd hfr hodd, hpair, State.getFpr_setFpr,
          if_pos rfl]

theorem Fpr.bits_ofBits (v : Dword) : (Fpr.ofBits v).bits = v := by
  unfold Fpr.ofBits Fpr.bits
  exact (BitVec.extractLsb'_append_extractLsb'_eq_extractLsb' (by decide)).trans BitVec.extractLsb'_eq_self

/-- A write of a doubleword sets it and keeps the other registers, but for an odd register with FR = 0. -/
theorem doubleSet_writeD (s : State) (n : Reg) (v : Dword) : DoubleSet s (s.writeD n v) n v := by
  refine ⟨fun h => ?_, fun ⟨hfr, hn⟩ => ?_⟩
  · have hcond : (!s.fr && n.getLsbD 0) = false := by
      rcases h with h | h
      · rw [h]
        rfl
      · rw [h, Bool.and_false]
    have hw : s.writeD n v = s.setFpr n (Fpr.ofBits v) := by simp only [State.writeD, hcond]; rfl
    rw [hw]
    refine ⟨?_, fun m hm => by rw [State.getFpr_setFpr, if_neg hm]⟩
    rw [State.readD, State.fr_setFpr, hcond, if_neg (by decide), State.getFpr_setFpr, if_pos rfl, Fpr.bits_ofBits]
  · obtain ⟨hpair, heven, -⟩ := evenOf_of_odd n hn
    rw [← hpair] at heven
    have hcond : (!s.fr && n.getLsbD 0) = true := by simp [hfr, hn]
    simp only [State.writeD, hcond, if_true]
    refine ⟨fun m hm hm' => by rw [State.getFpr_setFpr, if_neg hm', State.getFpr_setFpr, if_neg hm], ?_⟩
    rw [State.readS_of_even (by simpa using hfr) heven, State.readS_of_even hfr heven, State.getFpr_setFpr, if_pos rfl]

end Sys2Proof.Machine
end

section
/-! The loads and stores of floating-point registers: `FpLoadsAndStores`. -/

namespace Sys2Proof.Machine

variable {s : State} {va : Dword} {pa : BitVec 40} {c : BitVec 3} {d : LineData} {n v : Nat} {base ft : Reg}
  {offset : BitVec 16}

theorem fpInstruction_of_ok {k : State → Res Unit} {u : State} (hcu : s.cu 1 = true) (h : k s = .ok () u) :
    fpInstruction s k = .next u.advance := by
  rw [fpInstruction_eq, if_pos hcu, h, Res.finish_ok]

theorem low32_ofNat (v : Nat) : low32 (BitVec.ofNat 64 v) = BitVec.ofNat 32 v := by
  refine BitVec.eq_of_toNat_eq ?_
  rw [low32_toNat, BitVec.toNat_ofNat, BitVec.toNat_ofNat]
  omega

/-- LWC1 writes the word that its read answers. -/
theorem exec_lwc1 {t : State} (hcu : s.cu 1 = true) (ht : Translates s false (addressOf s base offset) pa c)
    (ha : (addressOf s base offset).toNat % 4 = 0) (h : ReadsNumber s (addressOf s base offset) pa c 4 v t) :
    exec (.lwc1 base ft offset) s = .next (t.writeS ft (BitVec.ofNat 32 v)).advance := by
  refine fpInstruction_of_ok hcu ?_
  rw [← addressOf_eq, memRead_of_readsNumber ht ha h, Res.bind_ok, low32_ofNat]

/-- LDC1 writes the doubleword that its read answers. -/
theorem exec_ldc1 {t : State} (hcu : s.cu 1 = true) (ht : Translates s false (addressOf s base offset) pa c)
    (ha : (addressOf s base offset).toNat % 8 = 0) (h : ReadsNumber s (addressOf s base offset) pa c 8 v t) :
    exec (.ldc1 base ft offset) s = .next (t.writeD ft (BitVec.ofNat 64 v)).advance := by
  refine fpInstruction_of_ok hcu ?_
  rw [← addressOf_eq, memRead_of_readsNumber ht ha h, Res.bind_ok]

/-- A state that differs in the floating-point registers alone, behind the instruction. -/
theorem onlyFpu_advance {t : State} (h : t = { s with fpr := t.fpr }) :
    t.fcr31 = s.fcr31 ∧ OnlyFpu s t.advance ∧ GoesOn s t.advance := by
  refine ⟨by rw [h], ?_, goesOn_advance (by rw [h]) (by rw [h])⟩
  rw [h]
  exact ⟨rfl, fun _ => rfl, fun _ => rfl, fun _ => rfl, fun _ => rfl, fun _ => rfl⟩

theorem writeS_frame (s : State) (n : Reg) (v : Word) : s.writeS n v = { s with fpr := (s.writeS n v).fpr } := by
  unfold State.writeS
  repeat' split
  all_goals rfl

theorem writeD_frame (s : State) (n : Reg) (v : Dword) : s.writeD n v = { s with fpr := (s.writeD n v).fpr } := by
  unfold State.writeD
  split <;> rfl

/-- A state that differs in the floating-point registers alone from one in which a load has filled a line. -/
theorem onlyFill_advance {t u : State} (hu : OnlyLines s u) (h : t = { u with fpr := t.fpr })
    (hfilled : FilledByLoad s u va pa d) :
    FilledByLoad s t.advance va pa d ∧ OnlyFill { s with fpr := t.fpr } t.advance ∧ GoesOn s t.advance := by
  refine ⟨hfilled.congr ?_, ?_, goesOn_advance ?_ ?_⟩
  · rw [h]
    exact ⟨rfl, rfl, rfl⟩
  · rw [h, OnlyFill, hu]
    rfl
  · rw [h, hu]
  · rw [h, hu]

/-- Settles O39: what is read goes to the register, and what the register holds is stored. -/
theorem fpLoadsAndStores : Obligations.FpLoadsAndStores := by
  intro s base ft offset pa c hcu va
  have hswc1 := fun ht hcan => storesByAttribute_of_memWrite (i := .swc1 base ft offset) (n := 4) (pa := pa) (c := c)
    (v := BitVec.ofNat 64 (s.readS ft).toNat) (fun m g => by
      rw [BitVec.ofNat_toNat]
      exact (fpInstruction_eq _ _).trans (if_pos hcu)) hcan ht (by decide)
  have hsdc1 := fun ht hcan => storesByAttribute_of_memWrite (i := .sdc1 base ft offset) (n := 8) (pa := pa) (c := c)
    (v := s.readD ft) (fun m g => (fpInstruction_eq _ _).trans (if_pos hcu)) hcan ht (by decide)
  refine ⟨fun ht v => ⟨fun ha hr => ?_, fun ha hr => ?_, fun d => ⟨fun ha hr => ?_, fun ha hr => ?_⟩⟩,
    fun ht hcan hst => ⟨fun ha => (hswc1 ht hcan ha).found hst, fun ha => (hsdc1 ht hcan ha).found hst⟩,
    fun ht hcan hc d hr =>
      ⟨fun ha => (hswc1 ht hcan ha).missed d hc hr, fun ha => (hsdc1 ht hcan ha).missed d hc hr⟩,
    fun ht hcan hc => ⟨fun ha => (hswc1 ht hcan ha).gathered hc, fun ha => (hsdc1 ht hcan ha).gathered hc⟩⟩
  · exact ⟨_, exec_lwc1 hcu ht ha (readsNumber_of_readsAs hr), singleSet_writeS s ft _,
      onlyFpu_advance (writeS_frame s ft _)⟩
  · exact ⟨_, exec_ldc1 hcu ht ha (readsNumber_of_readsAs hr), doubleSet_writeD s ft _,
      onlyFpu_advance (writeD_frame s ft _)⟩
  · obtain ⟨u, hread, hfilled, honly⟩ := readsNumber_of_readsOnMiss hr
    have hset : SingleSet s (u.writeS ft (BitVec.ofNat 32 v)) ft (BitVec.ofNat 32 v) := by
      have h := singleSet_writeS u ft (BitVec.ofNat 32 v)
      generalize u.writeS ft (BitVec.ofNat 32 v) = t at h
      rw [honly] at h
      exact h
    exact ⟨_, exec_lwc1 hcu ht ha hread, hset, onlyFill_advance honly (writeS_frame u ft _) hfilled⟩
  · obtain ⟨u, hread, hfilled, honly⟩ := readsNumber_of_readsOnMiss hr
    have hset : DoubleSet s (u.writeD ft (BitVec.ofNat 64 v)) ft (BitVec.ofNat 64 v) := by
      have h := doubleSet_writeD u ft (BitVec.ofNat 64 v)
      generalize u.writeD ft (BitVec.ofNat 64 v) = t at h
      rw [honly] at h
      exact h
    exact ⟨_, exec_ldc1 hcu ht ha hread, hset, onlyFill_advance honly (writeD_frame u ft _) hfilled⟩

end Sys2Proof.Machine
end

section
/-! SUPPORT. The integer instructions that write one general register: the exact integers behind word and doubleword
arithmetic, and how a meaning that ends in a write of its result `Computes` it, or overflows. -/

namespace Sys2Proof.Machine

variable {i : Instr} {rd : Reg}

/-! ### Immediates (R173) -/

theorem toInt_sext16 (imm : BitVec 16) : (sext16 imm).toInt = imm.toInt :=
  BitVec.toInt_signExtend_of_le (by decide)

theorem zext16_eq_ofNat (imm : BitVec 16) : zext16 imm = BitVec.ofNat 64 imm.toNat := (BitVec.ofNat_toNat 64 imm).symm

/-! ### Words and doublewords of exact integers (R10) -/

theorem sext32_ofInt (z : Int) : sext32 (BitVec.ofInt 32 z) = wordOf z := by
  rw [sext32, BitVec.signExtend, BitVec.toInt_ofInt, wordOf]

/-- A sum of words is the low word of the exact sum. -/
theorem sext32_add (x y : Word) : sext32 (x + y) = wordOf (x.toInt + y.toInt) := by
  rw [← sext32_ofInt, BitVec.ofInt_add, BitVec.ofInt_toInt, BitVec.ofInt_toInt]

/-- A sum of doublewords is the low doubleword of the exact sum. -/
theorem add_eq_doubleOf (x y : Dword) : x + y = doubleOf (x.toInt + y.toInt) := by
  rw [doubleOf, BitVec.ofInt_add, BitVec.ofInt_toInt, BitVec.ofInt_toInt]

/-- An integer that a signed word holds is its own low word. -/
theorem wordOf_of_fits {z : Int} (h : -(2 ^ 31) ≤ z ∧ z < 2 ^ 31) : wordOf z = BitVec.ofInt 64 z := by
  rw [wordOf, Int.bmod_eq_of_le] <;> omega

/-- An immediate in the upper half of a word. -/
theorem sext32_append_zero (imm : BitVec 16) : sext32 (imm ++ (0 : BitVec 16)) = wordOf (65536 * imm.toNat) := by
  have hnat : (imm ++ (0 : BitVec 16)).toNat = 65536 * imm.toNat := by
    rw [BitVec.toNat_append, Nat.shiftLeft_eq, Nat.mul_comm]
    exact Nat.or_zero _
  rw [sext32_eq_signedOf, hnat]
  rfl

/-! ### Comparisons (R246, R247) -/

theorem boolValue_slt (x y : Dword) : boolValue (x.slt y) = if x.toInt < y.toInt then 1 else 0 := by
  simp [boolValue, BitVec.slt]

theorem boolValue_ult (x y : Dword) : boolValue (x.ult y) = if (x.toNat : Int) < y.toNat then 1 else 0 := by
  simp [boolValue, BitVec.ult]

/-! ### A result that always fits (R21) -/

/-- A meaning that writes `x` in every state computes `v`, as the word of its encoding, if the two agree. -/
theorem computes_of_writeResult {x v : State → Dword} (hwf : i.wellFormed = true)
    (hexec : ∀ s, exec i s = writeResult s rd (x s)) (hv : ∀ s, x s = v s) : Computes (encode i) i rd v :=
  ⟨decode_encode hwf, fun s => setsRegister_of_writeGpr (by rw [hexec, hv, writeResult_eq])⟩

/-! ### A result that may overflow (R649) -/

/-- `toReg` answers the integers that `bits` signed bits hold, sign-extended, and none of the others. -/
def ExactIn (bits : Nat) (toReg : Int → Option Dword) : Prop :=
  ∀ z, (-(2 ^ (bits - 1)) ≤ z ∧ z < 2 ^ (bits - 1) → toReg z = some (BitVec.ofInt 64 z)) ∧
    (¬ (-(2 ^ (bits - 1)) ≤ z ∧ z < 2 ^ (bits - 1)) → toReg z = none)

theorem exactIn_exactWord : ExactIn 32 exactWord := fun z =>
  ⟨fun hin => by rw [exactWord, if_pos hin, sext32_ofInt, wordOf_of_fits hin], fun hout => if_neg hout⟩

theorem exactIn_exactDouble : ExactIn 64 exactDouble := fun _ => ⟨fun hin => if_pos hin, fun hout => if_neg hout⟩

/-- A meaning that writes an exact result or overflows, as the word of its encoding. -/
theorem computesOrOverflows_of_writeOrOverflow {bits : Nat} {toReg : Int → Option Dword} {v : State → Int}
    (hreg : ExactIn bits toReg) (hwf : i.wellFormed = true)
    (hexec : ∀ s, exec i s = writeOrOverflow s rd (toReg (v s))) : ComputesOrOverflows (encode i) i rd bits v := by
  refine ⟨decode_encode hwf, fun s => ?_⟩
  obtain ⟨hin, hout⟩ := hreg (v s)
  refine ⟨fun hfits => setsRegister_of_writeGpr ?_, fun hexceeds => ?_⟩
  · rw [hexec, hin hfits, writeOrOverflow, writeResult_eq]
  · rw [hexec, hout hexceeds, writeOrOverflow, raiseExc]

end Sys2Proof.Machine
end

section
/-! The arithmetic with an immediate and the arithmetic that may overflow: `ImmediateArithmetic` and
`OverflowingArithmetic`. -/

namespace Sys2Proof.Machine

/-- Settles O20: each meaning writes what its rule says of the exact integers or the bits. -/
theorem immediateArithmetic : Obligations.ImmediateArithmetic := by
  intro rs rt imm
  have haddiu : ∀ s : State,
      sext32 (low32 (s.readGpr rs) + imm.signExtend 32) = wordOf (s.wordInt rs + imm.toInt) := fun s => by
    rw [sext32_add, BitVec.toInt_signExtend_of_le (by decide), State.wordInt]
  have hdaddiu : ∀ s : State, s.readGpr rs + sext16 imm = doubleOf (s.regInt rs + imm.toInt) := fun s => by
    rw [add_eq_doubleOf, toInt_sext16, State.regInt]
  have hslti : ∀ s : State,
      boolValue ((s.readGpr rs).slt (sext16 imm)) = if s.regInt rs < imm.toInt then 1 else 0 := fun s => by
    rw [boolValue_slt, toInt_sext16, State.regInt]
  exact ⟨computes_of_writeResult (i := .addiu rs rt imm) rfl (fun _ => rfl) haddiu,
    computes_of_writeResult (i := .daddiu rs rt imm) rfl (fun _ => rfl) hdaddiu,
    computes_of_writeResult (i := .slti rs rt imm) rfl (fun _ => rfl) hslti,
    computes_of_writeResult (i := .sltiu rs rt imm) rfl (fun _ => rfl) fun _ => boolValue_ult ..,
    computes_of_writeResult (i := .andi rs rt imm) rfl (fun _ => rfl) fun s => by rw [zext16_eq_ofNat],
    computes_of_writeResult (i := .ori rs rt imm) rfl (fun _ => rfl) fun s => by rw [zext16_eq_ofNat],
    computes_of_writeResult (i := .xori rs rt imm) rfl (fun _ => rfl) fun s => by rw [zext16_eq_ofNat],
    computes_of_writeResult (i := .lui rt imm) rfl (fun _ => rfl) fun _ => sext32_append_zero imm⟩

/-- Settles O21: each meaning writes the exact sum or difference where it fits, and overflows where it does not. -/
theorem overflowingArithmetic : Obligations.OverflowingArithmetic := by
  intro rs rt rd imm
  exact ⟨computesOrOverflows_of_writeOrOverflow (i := .addi rs rt imm) exactIn_exactWord rfl fun _ => rfl,
    computesOrOverflows_of_writeOrOverflow (i := .daddi rs rt imm) exactIn_exactDouble rfl fun _ => rfl,
    computesOrOverflows_of_writeOrOverflow (i := .add rs rt rd) exactIn_exactWord rfl fun _ => rfl,
    computesOrOverflows_of_writeOrOverflow (i := .sub rs rt rd) exactIn_exactWord rfl fun _ => rfl,
    computesOrOverflows_of_writeOrOverflow (i := .dadd rs rt rd) exactIn_exactDouble rfl fun _ => rfl,
    computesOrOverflows_of_writeOrOverflow (i := .dsub rs rt rd) exactIn_exactDouble rfl fun _ => rfl⟩

end Sys2Proof.Machine
end

section
/-! The arithmetic on registers that raises no exception, and the conditional moves: `RegisterArithmetic`. -/

namespace Sys2Proof.Machine

/-! ### Differences, as exact integers (R10) -/

theorem ofInt_toInt_sub_toInt {n : Nat} (x y : BitVec n) : BitVec.ofInt n (x.toInt - y.toInt) = x - y := by
  rw [Int.sub_eq_add_neg, BitVec.ofInt_add, BitVec.ofInt_neg, BitVec.ofInt_toInt, BitVec.ofInt_toInt,
    BitVec.sub_eq_add_neg]

/-- A difference of words is the low word of the exact difference. -/
theorem sext32_sub (x y : Word) : sext32 (x - y) = wordOf (x.toInt - y.toInt) := by
  rw [← sext32_ofInt, ofInt_toInt_sub_toInt]

/-- A difference of doublewords is the low doubleword of the exact difference. -/
theorem sub_eq_doubleOf (x y : Dword) : x - y = doubleOf (x.toInt - y.toInt) :=
  (ofInt_toInt_sub_toInt x y).symm

/-! ### Conditional moves (R275, R276) -/

/-- Writing to a register the value it reads changes nothing. -/
@[simp] theorem State.writeGpr_readGpr (s : State) (r : Reg) : s.writeGpr r (s.readGpr r) = s := by
  by_cases h : r = 0
  · rw [h, State.writeGpr_zero]
  · rw [State.writeGpr, State.readGpr, if_neg h, if_neg h, Vector.set_getElem_self]

/-- An instruction that only completes has written the old value to the register it names. -/
theorem complete_eq_writeResult (s : State) (rd : Reg) : complete s = writeResult s rd (s.readGpr rd) := by
  rw [writeResult, State.writeGpr_readGpr]

theorem regNat_eq_zero_iff (s : State) (r : Reg) : s.regNat r = 0 ↔ s.readGpr r = 0 := by
  rw [State.regNat, Int.natCast_eq_zero, BitVec.toNat_eq]
  rfl

theorem execMovz_eq_writeResult (rs rt rd : Reg) (s : State) :
    execMovz rs rt rd s = writeResult s rd (if s.regNat rt = 0 then s.readGpr rs else s.readGpr rd) := by
  simp only [execMovz, complete_eq_writeResult s rd, regNat_eq_zero_iff, apply_ite (writeResult s rd)]

theorem execMovn_eq_writeResult (rs rt rd : Reg) (s : State) :
    execMovn rs rt rd s = writeResult s rd (if s.regNat rt = 0 then s.readGpr rd else s.readGpr rs) := by
  simp only [execMovn, complete_eq_writeResult s rd, regNat_eq_zero_iff, apply_ite (writeResult s rd)]

/-! ### The statement -/

/-- Settles O22: each meaning writes what its rule says of the exact integers or the bits; a move that does not take
place writes the old value. -/
theorem registerArithmetic : Obligations.RegisterArithmetic := by
  intro rs rt rd
  exact ⟨computes_of_writeResult (i := .addu rs rt rd) rfl (fun _ => rfl) fun _ => sext32_add ..,
    computes_of_writeResult (i := .subu rs rt rd) rfl (fun _ => rfl) fun _ => sext32_sub ..,
    computes_of_writeResult (i := .daddu rs rt rd) rfl (fun _ => rfl) fun _ => add_eq_doubleOf ..,
    computes_of_writeResult (i := .dsubu rs rt rd) rfl (fun _ => rfl) fun _ => sub_eq_doubleOf ..,
    computes_of_writeResult (i := .slt rs rt rd) rfl (fun _ => rfl) fun _ => boolValue_slt ..,
    computes_of_writeResult (i := .sltu rs rt rd) rfl (fun _ => rfl) fun _ => boolValue_ult ..,
    computes_of_writeResult (i := .and rs rt rd) rfl (fun _ => rfl) fun _ => rfl,
    computes_of_writeResult (i := .or rs rt rd) rfl (fun _ => rfl) fun _ => rfl,
    computes_of_writeResult (i := .xor rs rt rd) rfl (fun _ => rfl) fun _ => rfl,
    computes_of_writeResult (i := .nor rs rt rd) rfl (fun _ => rfl) fun _ => BitVec.not_or,
    computes_of_writeResult (i := .movz rs rt rd) rfl (execMovz_eq_writeResult rs rt rd) fun _ => rfl,
    computes_of_writeResult (i := .movn rs rt rd) rfl (execMovn_eq_writeResult rs rt rd) fun _ => rfl⟩

end Sys2Proof.Machine
end

section
/-! Multiplication and division: what a meaning that ends in a write of HI and LO sets, and the truncated division that
DIV and the Godson forms share: `MultiplyDivideHiLo` and `GodsonMultiplyDivide`. -/

namespace Sys2Proof.Machine

variable {i : Instr} {rd : Reg} {a b : State → Int}

/-! ### The halves of an exact product (R292 to R295) -/

/-- The bits of an integer from bit `k` are those of its quotient by `2 ^ k`, rounded down. -/
theorem extractLsb'_ofInt {m k n : Nat} (h : k + n ≤ m) (z : Int) :
    (BitVec.ofInt m z).extractLsb' k n = BitVec.ofInt n (z / 2 ^ k) := by
  have hsplit : z = z % 2 ^ m + 2 ^ k * (2 ^ n * (2 ^ (m - k - n) * (z / 2 ^ m))) := by
    have hpow : (2 : Int) ^ m = 2 ^ k * (2 ^ n * 2 ^ (m - k - n)) := by
      rw [← pow_add, ← pow_add]
      congr 1
      omega
    calc z = z % 2 ^ m + 2 ^ m * (z / 2 ^ m) := (Int.emod_add_mul_ediv z _).symm
      _ = _ := by rw [hpow]; ring
  have hquot : z / 2 ^ k % 2 ^ n = z % 2 ^ m / 2 ^ k % 2 ^ n := by
    conv_lhs => rw [hsplit, Int.add_mul_ediv_left _ _ (by positivity), Int.add_mul_emod_self_left]
  have hnonneg : 0 ≤ z % 2 ^ m := Int.emod_nonneg _ (by positivity)
  refine BitVec.eq_of_toNat_eq ?_
  rw [BitVec.extractLsb'_toNat, BitVec.toNat_ofInt, BitVec.toNat_ofInt, Nat.shiftRight_eq_div_pow]
  zify
  rw [Int.toNat_of_nonneg hnonneg, Int.toNat_of_nonneg (Int.emod_nonneg _ (by positivity)), hquot]

theorem extractLsb'_low_ofInt {m n : Nat} (h : n ≤ m) (z : Int) :
    (BitVec.ofInt m z).extractLsb' 0 n = BitVec.ofInt n z := by
  rw [extractLsb'_ofInt (by omega), pow_zero, Int.ediv_one]

theorem multiplyWord_eq (s : State) (z : Int) :
    multiplyWord s z = complete (s.setHiLo (wordOf (z / 2 ^ 32)) (wordOf z)) := by
  rw [multiplyWord, extractLsb'_ofInt (by decide), extractLsb'_low_ofInt (by decide), sext32_ofInt, sext32_ofInt]

theorem multiplyDouble_eq (s : State) (z : Int) :
    multiplyDouble s z = complete (s.setHiLo (doubleOf (z / 2 ^ 64)) (doubleOf z)) := by
  rw [multiplyDouble, extractLsb'_ofInt (by decide), extractLsb'_low_ofInt (by decide), doubleOf, doubleOf]

/-! ### Truncated division (R291) -/

/-- The library's truncated division is the one of R291. -/
theorem truncates_tdiv_tmod (a : Int) {b : Int} (hb : b ≠ 0) : Truncates a b (a.tdiv b) (a.tmod b) := by
  refine ⟨(Int.tdiv_mul_add_tmod a b).symm, ?_, ?_⟩
  · rw [Int.natAbs_tmod]
    exact Nat.mod_lt _ (Int.natAbs_pos.mpr hb)
  · by_cases hdvd : b ∣ a
    · exact .inl (Int.tmod_eq_zero_of_dvd hdvd)
    · have hsign : (a.tmod b).sign = a.sign := by rw [Int.sign_tmod, if_neg hdvd]
      exact .inr (by rw [← Int.sign_eq_neg_one_iff_neg, hsign, Int.sign_eq_neg_one_iff_neg])

theorem wordOfInt_eq : wordOfInt = wordOf := funext sext32_ofInt

/-! ### Results in HI and LO (R23) -/

/-- A meaning that writes HI and LO sets them, as the word of its encoding; `hexec` says what it writes. -/
theorem setsHiLo_of_complete {result : State → Dword → Dword → Prop} (hwf : i.wellFormed = true)
    (hexec : ∀ s, ∃ hi lo, exec i s = complete (s.setHiLo hi lo) ∧ result s hi lo) :
    SetsHiLo (encode i) i result := by
  refine ⟨decode_encode hwf, fun s => ?_⟩
  obtain ⟨hi, lo, hcomplete, hresult⟩ := hexec s
  exact ⟨_, hcomplete, hresult, rfl, ⟨fun _ => rfl, fun _ => rfl, fun _ => rfl, fun _ => rfl, fun _ => rfl⟩,
    goesOn_advance rfl rfl⟩

theorem setsHiLo_of_multiplyWord (hwf : i.wellFormed = true) (hexec : ∀ s, exec i s = multiplyWord s (a s * b s)) :
    SetsHiLo (encode i) i fun s hi lo => lo = wordOf (a s * b s) ∧ hi = wordOf ((a s * b s) / 2 ^ 32) :=
  setsHiLo_of_complete hwf fun s => ⟨_, _, (hexec s).trans (multiplyWord_eq s _), rfl, rfl⟩

theorem setsHiLo_of_multiplyDouble (hwf : i.wellFormed = true)
    (hexec : ∀ s, exec i s = multiplyDouble s (a s * b s)) :
    SetsHiLo (encode i) i fun s hi lo => lo = doubleOf (a s * b s) ∧ hi = doubleOf ((a s * b s) / 2 ^ 64) :=
  setsHiLo_of_complete hwf fun s => ⟨_, _, (hexec s).trans (multiplyDouble_eq s _), rfl, rfl⟩

/-- A division sets HI and LO to remainder and quotient; for divisor 0 it completes with values left open. -/
theorem setsHiLo_of_divide {toReg : Int → Dword} (hwf : i.wellFormed = true)
    (hexec : ∀ s, exec i s = divide s toReg (a s) (b s)) :
    SetsHiLo (encode i) i fun s hi lo =>
      b s ≠ 0 → ∃ q r, Truncates (a s) (b s) q r ∧ lo = toReg q ∧ hi = toReg r := by
  refine setsHiLo_of_complete hwf fun s => ?_
  by_cases hb : b s = 0
  · exact ⟨_, _, by rw [hexec, divide, if_pos hb], fun h => absurd hb h⟩
  · exact ⟨_, _, by rw [hexec, divide, if_neg hb], fun _ => ⟨_, _, truncates_tdiv_tmod _ hb, rfl, rfl⟩⟩

theorem divideWord_eq (s : State) (x y : Int) : divideWord s x y = divide s wordOf x y := by
  rw [divideWord, wordOfInt_eq]

/-- Settles O24: the halves of the exact product, the truncated division, and the moves. -/
theorem multiplyDivideHiLo : Obligations.MultiplyDivideHiLo := by
  intro rs rt rd
  exact ⟨setsHiLo_of_multiplyWord (i := .mult rs rt) rfl fun _ => rfl,
    setsHiLo_of_multiplyWord (i := .multu rs rt) rfl fun _ => rfl,
    setsHiLo_of_multiplyDouble (i := .dmult rs rt) rfl fun _ => rfl,
    setsHiLo_of_multiplyDouble (i := .dmultu rs rt) rfl fun _ => rfl,
    setsHiLo_of_complete (i := .mthi rs) rfl fun _ => ⟨_, _, rfl, rfl, rfl⟩,
    setsHiLo_of_complete (i := .mtlo rs) rfl fun _ => ⟨_, _, rfl, rfl, rfl⟩,
    computes_of_writeResult (i := .mfhi rd) rfl (fun _ => rfl) fun _ => rfl,
    computes_of_writeResult (i := .mflo rd) rfl (fun _ => rfl) fun _ => rfl,
    setsHiLo_of_divide (i := .div rs rt) rfl fun _ => divideWord_eq ..,
    setsHiLo_of_divide (i := .divu rs rt) rfl fun _ => divideWord_eq ..,
    setsHiLo_of_divide (i := .ddiv rs rt) rfl fun _ => rfl,
    setsHiLo_of_divide (i := .ddivu rs rt) rfl fun _ => rfl⟩

/-! ### Results in a general register (R310 to R321) -/

theorem godsonWord_eq (s : State) (op : Int → Int → Int) (x y : Int) :
    godsonWord s op x y = if y = 0 then s.params.gsDiv0Result else wordOf (op x y) := by
  rw [godsonWord, wordOfInt_eq]

theorem godsonDouble_eq (s : State) (op : Int → Int → Int) (x y : Int) :
    godsonDouble s op x y = if y = 0 then s.params.gsDiv0Result else doubleOf (op x y) := rfl

/-- A Godson division `iq` and the remainder `ir` of its width compute quotient and remainder of one truncated division;
for divisor 0 both give the parameter. -/
theorem computes_quotient_remainder {godson : State → (Int → Int → Int) → Int → Int → Dword} {toReg : Int → Dword}
    {iq ir : Instr}
    (hgodson : ∀ s op x y, godson s op x y = if y = 0 then s.params.gsDiv0Result else toReg (op x y))
    (hwfq : iq.wellFormed = true) (hwfr : ir.wellFormed = true)
    (hexecq : ∀ s, exec iq s = writeResult s rd (godson s Int.tdiv (a s) (b s)))
    (hexecr : ∀ s, exec ir s = writeResult s rd (godson s Int.tmod (a s) (b s))) :
    ∃ q r : State → Int,
      Computes (encode iq) iq rd (fun s => if b s = 0 then s.params.gsDiv0Result else toReg (q s)) ∧
      Computes (encode ir) ir rd (fun s => if b s = 0 then s.params.gsDiv0Result else toReg (r s)) ∧
      ∀ s, b s ≠ 0 → Truncates (a s) (b s) (q s) (r s) :=
  ⟨_, _, computes_of_writeResult hwfq hexecq fun _ => hgodson ..,
    computes_of_writeResult hwfr hexecr fun _ => hgodson .., fun s => truncates_tdiv_tmod (a s)⟩

/-- Settles O25: the low half of the exact product, and quotient and remainder of one truncated division. -/
theorem godsonMultiplyDivide : Obligations.GodsonMultiplyDivide := by
  intro rs rt rd
  exact ⟨computes_of_writeResult (i := .multg rs rt rd) rfl (fun _ => rfl) fun _ => sext32_ofInt _,
    computes_of_writeResult (i := .multug rs rt rd) rfl (fun _ => rfl) fun _ => sext32_ofInt _,
    computes_of_writeResult (i := .dmultg rs rt rd) rfl (fun _ => rfl) fun _ => rfl,
    computes_of_writeResult (i := .dmultug rs rt rd) rfl (fun _ => rfl) fun _ => rfl,
    computes_quotient_remainder (iq := .divg rs rt rd) (ir := .modg rs rt rd) godsonWord_eq rfl rfl (fun _ => rfl)
      fun _ => rfl,
    computes_quotient_remainder (iq := .divug rs rt rd) (ir := .modug rs rt rd) godsonWord_eq rfl rfl (fun _ => rfl)
      fun _ => rfl,
    computes_quotient_remainder (iq := .ddivg rs rt rd) (ir := .dmodg rs rt rd) godsonDouble_eq rfl rfl (fun _ => rfl)
      fun _ => rfl,
    computes_quotient_remainder (iq := .ddivug rs rt rd) (ir := .dmodug rs rt rd) godsonDouble_eq rfl rfl (fun _ => rfl)
      fun _ => rfl⟩

end Sys2Proof.Machine
end

section
/-! SUPPORT. Jumps and branches (spec/44_jump_branch.md): their targets as numbers, their conditions on signed
integers, and how a meaning that ends in a jump or a branch behind the write of its link register `Transfers`. -/

namespace Sys2Proof.Machine

variable {i : Instr} {link : Reg} {taken : State → Prop} {cond : State → Bool} {target : State → Dword}
  {offset : BitVec 16}

/-! ### Targets (R335) -/

/-- The bits from `n` up with new ones below: the low bits are cleared and the new ones joined. -/
theorem extractLsb'_append_eq_and_or {m n : Nat} (x : BitVec (m + n)) (y : BitVec n) :
    x.extractLsb' n m ++ y = (x &&& ~~~(BitVec.allOnes n).setWidth (m + n)) ||| y.setWidth (m + n) := by
  ext k hk
  by_cases hlow : k < n
  · simp [BitVec.getElem_append, hlow]
  · have hle : n ≤ k := Nat.le_of_not_lt hlow
    simp [BitVec.getElem_append, hlow, Nat.add_sub_cancel' hle, BitVec.getLsbD_of_ge y k hle, hk]

theorem branchTarget_eq (s : State) (offset : BitVec 16) : s.branchTarget offset = branchDestination offset s := by
  have hwords : sext16 offset <<< 2 = BitVec.ofInt 64 (4 * offset.toInt) := by
    rw [BitVec.shiftLeft_eq_mul_twoPow, BitVec.mul_comm, BitVec.ofInt_mul, ← toInt_sext16, BitVec.ofInt_toInt]
    rfl
  exact congrArg (s.pc + 4 + ·) hwords

theorem jumpTarget_eq (s : State) (target : BitVec 26) : s.jumpTarget target = jumpDestination target s := by
  have hword : (target ++ (0 : BitVec 2)).setWidth 64 = BitVec.ofNat 64 (4 * target.toNat) := by
    rw [← BitVec.ofNat_toNat, BitVec.toNat_append, Nat.shiftLeft_eq, Nat.mul_comm]
    exact congrArg (BitVec.ofNat 64) (Nat.or_zero _)
  calc s.jumpTarget target
      = (s.pc + 4).extractLsb' 28 36 ++ (target ++ (0 : BitVec 2)) := BitVec.append_assoc ..
    _ = ((s.pc + 4) &&& ~~~(0x0FFFFFFF : Dword)) ||| (target ++ (0 : BitVec 2)).setWidth 64 :=
      extractLsb'_append_eq_and_or (m := 36) (n := 28) ..
    _ = jumpDestination target s := by rw [hword, jumpDestination]

/-! ### Conditions (R341 to R356) -/

theorem readGpr_sle_zero_iff (s : State) (r : Reg) : (s.readGpr r).sle 0 = true ↔ s.regInt r ≤ 0 :=
  BitVec.sle_iff_toInt_le

theorem not_readGpr_sle_zero_iff (s : State) (r : Reg) : (!(s.readGpr r).sle 0) = true ↔ 0 < s.regInt r := by
  rw [Bool.not_eq_true', ← Bool.not_eq_true, readGpr_sle_zero_iff, Int.not_le]

theorem readGpr_sign_iff (s : State) (r : Reg) : (s.readGpr r).getLsbD 63 = true ↔ s.regInt r < 0 := by
  have hmsb : (s.readGpr r).msb = (s.readGpr r).getLsbD 63 := BitVec.msb_eq_getLsbD_last _
  rw [← hmsb, BitVec.msb_eq_toInt, decide_eq_true_iff, State.regInt]

theorem not_readGpr_sign_iff (s : State) (r : Reg) : (!(s.readGpr r).getLsbD 63) = true ↔ 0 ≤ s.regInt r := by
  rw [Bool.not_eq_true', ← Bool.not_eq_true, readGpr_sign_iff, Int.not_lt]

/-! ### The link register (R334) -/

@[simp] theorem State.linkTo_pc (s : State) (r : Reg) : (s.linkTo r).pc = s.pc := State.writeGpr_pc ..

@[simp] theorem State.linkTo_delay (s : State) (r : Reg) : (s.linkTo r).delay = s.delay := State.writeGpr_delay ..

/-- Registers after the link is written, wherever control goes. -/
theorem registerSet_linkTo {s t : State} (hgpr : t.gpr = (s.linkTo link).gpr) : RegisterSet s t link (s.pc + 8) :=
  fun r => by rw [State.readGpr_congr hgpr, State.linkTo, State.readGpr_writeGpr]

theorem onlyRegisters_linkTo (s : State) (link : Reg) (pc : Dword) (delay : Option Dword) :
    OnlyRegisters s { s.linkTo link with pc := pc, delay := delay } := by
  unfold OnlyRegisters SameMemory State.iLine State.dLine State.sLine State.linkTo State.writeGpr
  split <;> exact ⟨rfl, fun _ => rfl, fun _ => rfl, fun _ => rfl, fun _ => rfl, fun _ => rfl⟩

/-! ### Meanings that end in a control transfer (R330 to R332) -/

theorem outsideDelaySlot_of_delay_ne_none {s : State} (h : s.delay ≠ none) (t : State) :
    outsideDelaySlot s t = .refused .delaySlotBranch :=
  if_pos (Option.isSome_iff_ne_none.mpr h)

/-- A branch is a jump, to its target or behind its delay slot. -/
theorem branch_eq_jump (s : State) (c : Bool) (a : Dword) : branch s c a = jump s (if c then a else s.pc + 8) := by
  cases c <;> rfl

theorem transfers_of_jump (hwf : i.wellFormed = true) (hexec : ∀ s, exec i s = jump (s.linkTo link) (target s)) :
    Transfers (encode i) i link target := by
  refine ⟨decode_encode hwf, fun s => ⟨fun hout => ?_, fun hin => ?_⟩⟩
  · exact ⟨_, (hexec s).trans (jump_eq_next.mpr ⟨by rwa [State.linkTo_delay], rfl⟩), by simp, rfl,
      registerSet_linkTo rfl, onlyRegisters_linkTo ..⟩
  · rw [hexec, jump, outsideDelaySlot_of_delay_ne_none (by rwa [State.linkTo_delay])]

/-- A branch whose condition `cond` says `taken` transfers to its destination or behind its delay slot. -/
theorem transfers_of_branch [DecidablePred taken] (hwf : i.wellFormed = true)
    (hexec : ∀ s, exec i s = branch (s.linkTo link) (cond s) (s.branchTarget offset))
    (hcond : ∀ s, cond s = true ↔ taken s) :
    Transfers (encode i) i link fun s => if taken s then branchDestination offset s else s.pc + 8 :=
  transfers_of_jump hwf fun s => by
    simp only [hexec, branch_eq_jump, hcond, branchTarget_eq, State.linkTo_pc]

/-- A likely branch whose condition `cond` says `taken` transfers to its destination or skips its delay slot. -/
theorem transfersLikely_of_branchLikely (hwf : i.wellFormed = true)
    (hexec : ∀ s, exec i s = branchLikely (s.linkTo link) (cond s) (s.branchTarget offset))
    (hcond : ∀ s, cond s = true ↔ taken s) :
    TransfersLikely (encode i) i link taken (branchDestination offset) := by
  refine ⟨decode_encode hwf, fun s => ⟨fun hout => ?_, fun hin => ?_⟩⟩
  · have hnext := (hexec s).trans (branchLikely_eq_next.mpr ⟨by rwa [State.linkTo_delay], rfl⟩)
    by_cases htaken : taken s
    · rw [if_pos ((hcond s).mpr htaken), branchTarget_eq] at hnext
      exact ⟨_, hnext, fun _ => ⟨by simp, rfl⟩, fun hnot => absurd htaken hnot, registerSet_linkTo rfl,
        onlyRegisters_linkTo ..⟩
    · rw [if_neg (mt (hcond s).mp htaken)] at hnext
      exact ⟨_, hnext, fun h => absurd h htaken, fun _ => ⟨by simp, rfl⟩, registerSet_linkTo rfl,
        onlyRegisters_linkTo ..⟩
  · rw [hexec, branchLikely, outsideDelaySlot_of_delay_ne_none (by rwa [State.linkTo_delay])]

end Sys2Proof.Machine
end

section
/-! The jumps and the branches on general registers: `Jumps`, `Branches` and `LikelyBranches`. -/

namespace Sys2Proof.Machine

/-- Settles O26: each meaning jumps behind the write of its link register, r0 for none. -/
theorem jumps : Obligations.Jumps := by
  intro target rs rd hint
  exact ⟨transfers_of_jump (i := .j target) rfl fun s => congrArg (jump s) (jumpTarget_eq s target),
    transfers_of_jump (i := .jal target) rfl fun s => congrArg (jump (s.linkTo 31)) (jumpTarget_eq s target),
    transfers_of_jump (i := .jr rs hint) rfl fun _ => rfl,
    transfers_of_jump (i := .jalr rs rd hint) rfl fun _ => rfl,
    fun s => ⟨by cases h : s.delay <;> simp [h], rfl⟩⟩

/-- Settles O27: each meaning branches, with its condition read before the link register is written. -/
theorem branches : Obligations.Branches := by
  intro rs rt offset
  exact ⟨transfers_of_branch (i := .beq rs rt offset) rfl (fun _ => rfl) fun _ => beq_iff_eq,
    transfers_of_branch (i := .bne rs rt offset) rfl (fun _ => rfl) fun _ => bne_iff_ne,
    transfers_of_branch (i := .blez rs offset) rfl (fun _ => rfl) fun s => readGpr_sle_zero_iff s rs,
    transfers_of_branch (i := .bgtz rs offset) rfl (fun _ => rfl) fun s => not_readGpr_sle_zero_iff s rs,
    transfers_of_branch (i := .bltz rs offset) rfl (fun _ => rfl) fun s => readGpr_sign_iff s rs,
    transfers_of_branch (i := .bgez rs offset) rfl (fun _ => rfl) fun s => not_readGpr_sign_iff s rs,
    transfers_of_branch (i := .bltzal rs offset) rfl (fun _ => rfl) fun s => readGpr_sign_iff s rs,
    transfers_of_branch (i := .bgezal rs offset) rfl (fun _ => rfl) fun s => not_readGpr_sign_iff s rs⟩

/-- Settles O28: each meaning is a likely branch, with its condition read before the link register is written. -/
theorem likelyBranches : Obligations.LikelyBranches := by
  intro rs rt offset
  exact ⟨transfersLikely_of_branchLikely (i := .beql rs rt offset) rfl (fun _ => rfl) fun _ => beq_iff_eq,
    transfersLikely_of_branchLikely (i := .bnel rs rt offset) rfl (fun _ => rfl) fun _ => bne_iff_ne,
    transfersLikely_of_branchLikely (i := .blezl rs offset) rfl (fun _ => rfl) fun s => readGpr_sle_zero_iff s rs,
    transfersLikely_of_branchLikely (i := .bgtzl rs offset) rfl (fun _ => rfl) fun s => not_readGpr_sle_zero_iff s rs,
    transfersLikely_of_branchLikely (i := .bltzl rs offset) rfl (fun _ => rfl) fun s => readGpr_sign_iff s rs,
    transfersLikely_of_branchLikely (i := .bgezl rs offset) rfl (fun _ => rfl) fun s => not_readGpr_sign_iff s rs,
    transfersLikely_of_branchLikely (i := .bltzall rs offset) rfl (fun _ => rfl) fun s => readGpr_sign_iff s rs,
    transfersLikely_of_branchLikely (i := .bgezall rs offset) rfl (fun _ => rfl) fun s => not_readGpr_sign_iff s rs⟩

end Sys2Proof.Machine
end

section
/-! The shifts (spec/45_shift.md), as exact multiplication and division by a power of two: `Shifts`. -/

namespace Sys2Proof.Machine

/-! ### Shifts of exact integers (R371 to R373, R377 to R379) -/

theorem shiftLeft_eq_ofInt {n : Nat} (x : BitVec n) (k : Nat) : x <<< k = BitVec.ofInt n (x.toInt * 2 ^ k) := by
  refine BitVec.eq_of_toInt_eq ?_
  rw [BitVec.toInt_shiftLeft, BitVec.toInt_ofInt, Nat.shiftLeft_eq, BitVec.toInt_eq_toNat_bmod, Int.bmod_mul_bmod]
  norm_cast

theorem ushiftRight_eq_ofInt {n : Nat} (x : BitVec n) (k : Nat) :
    x >>> k = BitVec.ofInt n ((x.toNat : Int) / 2 ^ k) := by
  have hquot : (x.toNat : Int) / 2 ^ k = (x >>> k).toNat := by
    rw [BitVec.toNat_ushiftRight, Nat.shiftRight_eq_div_pow]
    norm_cast
  rw [hquot, BitVec.ofInt_natCast, BitVec.ofNat_toNat, BitVec.setWidth_eq]

theorem sshiftRight_eq_ofInt {n : Nat} (x : BitVec n) (k : Nat) :
    x.sshiftRight k = BitVec.ofInt n (x.toInt / 2 ^ k) := by
  rw [BitVec.sshiftRight, Int.shiftRight_eq_div_pow, Nat.cast_pow, Nat.cast_ofNat]

/-! ### Word shifts, sign-extended (R371 to R373) -/

theorem sext32_shiftLeft (x : Word) (k : Nat) : sext32 (x <<< k) = wordOf (x.toInt * 2 ^ k) := by
  rw [shiftLeft_eq_ofInt, sext32_ofInt]

theorem sext32_ushiftRight (x : Word) (k : Nat) : sext32 (x >>> k) = wordOf ((x.toNat : Int) / 2 ^ k) := by
  rw [ushiftRight_eq_ofInt, sext32_ofInt]

theorem sext32_sshiftRight (x : Word) (k : Nat) : sext32 (x.sshiftRight k) = wordOf (x.toInt / 2 ^ k) := by
  rw [sshiftRight_eq_ofInt, sext32_ofInt]

/-! ### The amount of a variable shift (R374, R380) -/

theorem shiftAmount5_eq (v : Dword) : shiftAmount5 v = v.toNat % 32 := extract_low_toNat v 5

theorem shiftAmount6_eq (v : Dword) : shiftAmount6 v = v.toNat % 64 := extract_low_toNat v 6

/-! ### The statement -/

/-- Settles O23: each meaning writes the exact multiple or quotient by its power of two; a variable form takes the
low bits of rs, which are rs modulo 32 or 64. -/
theorem shifts : Obligations.Shifts := by
  intro rs rt rd sa
  exact ⟨computes_of_writeResult (i := .sll rt rd sa) rfl (fun _ => rfl) fun _ => sext32_shiftLeft ..,
    computes_of_writeResult (i := .srl rt rd sa) rfl (fun _ => rfl) fun _ => sext32_ushiftRight ..,
    computes_of_writeResult (i := .sra rt rd sa) rfl (fun _ => rfl) fun _ => sext32_sshiftRight ..,
    computes_of_writeResult (i := .sllv rs rt rd) rfl (fun _ => rfl) fun _ => shiftAmount5_eq _ ▸ sext32_shiftLeft ..,
    computes_of_writeResult (i := .srlv rs rt rd) rfl (fun _ => rfl) fun _ => shiftAmount5_eq _ ▸ sext32_ushiftRight ..,
    computes_of_writeResult (i := .srav rs rt rd) rfl (fun _ => rfl) fun _ => shiftAmount5_eq _ ▸ sext32_sshiftRight ..,
    computes_of_writeResult (i := .dsll rt rd sa) rfl (fun _ => rfl) fun _ => shiftLeft_eq_ofInt ..,
    computes_of_writeResult (i := .dsrl rt rd sa) rfl (fun _ => rfl) fun _ => ushiftRight_eq_ofInt ..,
    computes_of_writeResult (i := .dsra rt rd sa) rfl (fun _ => rfl) fun _ => sshiftRight_eq_ofInt ..,
    computes_of_writeResult (i := .dsll32 rt rd sa) rfl (fun _ => rfl) fun _ => shiftLeft_eq_ofInt ..,
    computes_of_writeResult (i := .dsrl32 rt rd sa) rfl (fun _ => rfl) fun _ => ushiftRight_eq_ofInt ..,
    computes_of_writeResult (i := .dsra32 rt rd sa) rfl (fun _ => rfl) fun _ => sshiftRight_eq_ofInt ..,
    computes_of_writeResult (i := .dsllv rs rt rd) rfl (fun _ => rfl) fun _ =>
      shiftAmount6_eq _ ▸ shiftLeft_eq_ofInt ..,
    computes_of_writeResult (i := .dsrlv rs rt rd) rfl (fun _ => rfl) fun _ =>
      shiftAmount6_eq _ ▸ ushiftRight_eq_ofInt ..,
    computes_of_writeResult (i := .dsrav rs rt rd) rfl (fun _ => rfl) fun _ =>
      shiftAmount6_eq _ ▸ sshiftRight_eq_ofInt ..⟩

end Sys2Proof.Machine
end

section
/-! SUPPORT. Taking an exception as the entry procedure of R630, and how a meaning that ends in a conditional trap
`TrapsIf`. -/

namespace Sys2Proof.Machine

variable {i : Instr} {cond : State → Bool} {condition : State → Prop}

/-! ### The entry procedure (R630) -/

/-- Every exception is taken by the entry procedure, with its own code and its own choice of the vector. -/
theorem enters_takeException (e : Exc) (s : State) : Enters s (takeException e s) e.code e.isRefill := by
  refine ⟨fun hexl => ⟨?_, ?_⟩, fun hexl => ⟨?_, ?_⟩, takeException_excCode e s, takeException_status e s, ?_, rfl,
    ?_, fun _ => rfl, fun _ => rfl, fun _ => rfl, fun _ => rfl, fun _ => rfl⟩
  · rw [takeException_epc, State.epcAfterException, hexl]
    cases s.delay <;> rfl
  · exact if_neg (by simp [hexl])
  · rw [takeException_epc, State.epcAfterException, if_pos hexl]
  · exact if_pos hexl
  · simp [Exc.vector]
  · unfold takeException Exc.recordAddress
    cases e.badAddress <;> cases e.tlbAddress <;> rfl

/-- An exception that reports no address leaves the address registers alone (R641, R643). -/
theorem sameAddressRegisters_takeException {e : Exc} (h : e.badAddress = none) (s : State) :
    SameAddressRegisters s (takeException e s) := by
  cases e
  case addressError | tlbRefill | tlbInvalid | tlbModified => cases h
  all_goals exact ⟨rfl, rfl, rfl, rfl⟩

/-! ### Going on (R24) -/

/-- The step behind an instruction changes nothing but the program counter. -/
theorem onlyPc_advance (s : State) : OnlyPc s s.advance :=
  ⟨rfl, fun _ => rfl, fun _ => rfl, fun _ => rfl, fun _ => rfl, fun _ => rfl⟩

/-! ### Conditional traps (R403) -/

/-- A meaning that traps on `cond`, which says `condition`, is a conditional trap, as the word of its encoding. -/
theorem trapsIf_of_trapIf (hwf : i.wellFormed = true) (hexec : ∀ s, exec i s = trapIf s (cond s))
    (hcond : ∀ s, cond s = true ↔ condition s) : TrapsIf (encode i) i condition := by
  refine ⟨decode_encode hwf, fun s => ⟨fun htrap => ?_, fun hnot => ⟨s.advance, ?_, onlyPc_advance s,
    goesOn_advance rfl rfl⟩⟩⟩
  · rw [hexec, (hcond s).mpr htrap]
    rfl
  · rw [hexec, trapIf, if_neg (mt (hcond s).mp hnot)]
    rfl

/-! ### Comparisons as integers (R404 to R415) -/

theorem not_slt_iff (x y : Dword) : (!x.slt y) = true ↔ y.toInt ≤ x.toInt := by
  rw [Bool.not_eq_true', ← Bool.not_eq_true, BitVec.slt_iff_toInt_lt, Int.not_lt]

theorem ult_iff (x y : Dword) : x.ult y = true ↔ (x.toNat : Int) < y.toNat := by
  rw [BitVec.ult_iff_lt, BitVec.lt_def, Int.ofNat_lt]

theorem not_ult_iff (x y : Dword) : (!x.ult y) = true ↔ (y.toNat : Int) ≤ x.toNat := by
  rw [Bool.not_eq_true', ← Bool.not_eq_true, ult_iff, Int.not_lt]

/-- A register equals a sign-extended immediate when the two are the same integer. -/
theorem readGpr_eq_sext16_iff (s : State) (rs : Reg) (imm : BitVec 16) :
    s.readGpr rs = sext16 imm ↔ s.regInt rs = imm.toInt := by
  rw [← BitVec.toInt_inj, toInt_sext16, State.regInt]

end Sys2Proof.Machine
end

section
/-! The conditional traps, SYSCALL and BREAK: `TrapsAndCalls`. -/

namespace Sys2Proof.Machine

/-- Settles O30: each trap compares the exact integers, and SYSCALL and BREAK enter with their code. -/
theorem trapsAndCalls : Obligations.TrapsAndCalls := by
  refine ⟨fun rs rt code imm => ?_, fun code => ?_⟩
  · have hsigned := toInt_sext16 imm
    exact ⟨trapsIf_of_trapIf (i := .tge rs rt code) rfl (fun _ => rfl) fun _ => not_slt_iff ..,
      trapsIf_of_trapIf (i := .tgeu rs rt code) rfl (fun _ => rfl) fun _ => not_ult_iff ..,
      trapsIf_of_trapIf (i := .tlt rs rt code) rfl (fun _ => rfl) fun _ => BitVec.slt_iff_toInt_lt,
      trapsIf_of_trapIf (i := .tltu rs rt code) rfl (fun _ => rfl) fun _ => ult_iff ..,
      trapsIf_of_trapIf (i := .teq rs rt code) rfl (fun _ => rfl) fun _ => beq_iff_eq,
      trapsIf_of_trapIf (i := .tne rs rt code) rfl (fun _ => rfl) fun _ => bne_iff_ne,
      trapsIf_of_trapIf (i := .tgei rs imm) rfl (fun _ => rfl) fun _ => hsigned ▸ not_slt_iff ..,
      trapsIf_of_trapIf (i := .tgeiu rs imm) rfl (fun _ => rfl) fun _ => not_ult_iff ..,
      trapsIf_of_trapIf (i := .tlti rs imm) rfl (fun _ => rfl) fun _ => hsigned ▸ BitVec.slt_iff_toInt_lt,
      trapsIf_of_trapIf (i := .tltiu rs imm) rfl (fun _ => rfl) fun _ => ult_iff ..,
      trapsIf_of_trapIf (i := .teqi rs imm) rfl (fun _ => rfl) fun s =>
        beq_iff_eq.trans (readGpr_eq_sext16_iff s rs imm),
      trapsIf_of_trapIf (i := .tnei rs imm) rfl (fun _ => rfl) fun s =>
        bne_iff_ne.trans (readGpr_eq_sext16_iff s rs imm).not⟩
  · exact ⟨⟨decode_encode (i := .syscall code) rfl, fun s => ⟨takeException .syscall s, rfl,
        enters_takeException .syscall s, sameAddressRegisters_takeException rfl s⟩⟩,
      ⟨decode_encode (i := .break_ code) rfl, fun s => ⟨takeException .breakpoint s, rfl,
        enters_takeException .breakpoint s, sameAddressRegisters_takeException rfl s⟩⟩⟩

end Sys2Proof.Machine
end

section
/-! SUPPORT. A physical access answers or stops: no device raises an exception. -/

namespace Sys2Proof.Machine

variable {α β : Type} {s : State}

/-! ### Results without an exception -/

/-- A computation answers or stops, and raises no exception. -/
def Res.NeverRaises : Res α → Prop
  | .ok _ _ => True
  | .raise _ _ => False
  | .fault _ => True
  | .refuse _ => True

@[simp] theorem Res.neverRaises_ok (a : α) (t : State) : (Res.ok a t).NeverRaises := trivial
@[simp] theorem Res.neverRaises_fault (f : Fault) : (Res.fault f : Res α).NeverRaises := trivial
@[simp] theorem Res.neverRaises_refuse (x : Refusal) : (Res.refuse x : Res α).NeverRaises := trivial

theorem Res.NeverRaises.bind {r : Res α} {k : α → State → Res β} (hr : r.NeverRaises)
    (hk : ∀ a t, (k a t).NeverRaises) : (r.bind k).NeverRaises := by
  cases r with
  | ok a t => exact hk a t
  | raise | fault | refuse => exact hr

/-- Where no exception is raised there is no effect to take back. -/
theorem Res.NeverRaises.precise {r : Res α} (h : r.NeverRaises) (s : State) : r.precise s = r := by
  cases r with
  | raise => exact h.elim
  | ok | fault | refuse => rfl

/-! ### The I/O controller (R139, R702) -/

theorem pciRead_neverRaises (addr n : Nat) (q : BusRequest) : (pciRead s addr n q).NeverRaises := by
  unfold pciRead
  dsimp only
  repeat' split
  all_goals simp

theorem ioRead_neverRaises (a n : Nat) : (ioRead s a n).NeverRaises := by
  unfold ioRead
  repeat' split
  all_goals simp [pciRead_neverRaises]

theorem ioWrite_neverRaises (a : Nat) (bs : List Byte) : (ioWrite s a bs).NeverRaises := by
  unfold ioWrite
  dsimp only
  repeat' split
  all_goals simp

/-! ### Requests of PCI masters (R712, R713, R717) -/

theorem masterOnly_neverRaises {r : Res Unit} (hr : r.NeverRaises) : (masterOnly s r).NeverRaises := by
  cases r with
  | fault f => exact Res.neverRaises_ok () s
  | ok | raise | refuse => exact hr

theorem dmaWriteIo_neverRaises (a : Nat) (bs : List Byte) : (dmaWriteIo s a bs).NeverRaises := by
  have hpart : ∀ (t : State) a bs, (masterOnly t (ioWrite t a bs)).NeverRaises := fun t a bs =>
    masterOnly_neverRaises (ioWrite_neverRaises a bs)
  unfold dmaWriteIo
  dsimp only
  split
  · exact (hpart s _ _).bind fun _ t => hpart t _ _
  · exact hpart s a bs

theorem serveBeat_neverRaises (b : DmaBeat) : (serveBeat s b).NeverRaises := by
  cases b with
  | ioWrite a bs => exact dmaWriteIo_neverRaises a bs
  | read | write | portWrite => exact Res.neverRaises_ok ..

theorem serveBeats_neverRaises (beats : List DmaBeat) : (serveBeats s beats).NeverRaises := by
  induction beats generalizing s with
  | nil => exact Res.neverRaises_ok ..
  | cons b rest ih =>
    unfold serveBeats
    split
    · exact Res.neverRaises_ok ..
    · exact (serveBeat_neverRaises b).bind fun _ _ => ih

theorem arriveBeat_neverRaises (b : DmaBeat) : (arriveBeat s b).NeverRaises := by
  unfold arriveBeat
  split
  · exact Res.neverRaises_ok ..
  · exact (serveBeat_neverRaises b).bind fun _ _ => serveBeats_neverRaises _

theorem dmaWriteBeat_neverRaises (addr : Nat) (bs : List Byte) : (dmaWriteBeat s addr bs).NeverRaises := by
  unfold dmaWriteBeat dmaWriteDdr
  dsimp only
  repeat' split
  all_goals simp [arriveBeat_neverRaises]

theorem dmaWriteBeats_neverRaises (fuel addr : Nat) (bs : List Byte) :
    (dmaWriteBeats s addr bs fuel).NeverRaises := by
  induction fuel generalizing s addr bs with
  | zero => exact Res.neverRaises_ok ..
  | succ fuel ih =>
    unfold dmaWriteBeats
    split
    · exact Res.neverRaises_ok ..
    · exact (dmaWriteBeat_neverRaises _ _).bind fun _ _ => ih _ _

/-! ### Physical accesses (R103, R135) -/

theorem ddrRead_neverRaises (a n : Nat) : (ddrRead s a n).NeverRaises := by
  unfold ddrRead ddrPortAccessRead
  repeat' split
  all_goals simp

theorem ddrWrite_neverRaises (a : Nat) (bs : List Byte) : (ddrWrite s a bs).NeverRaises := by
  unfold ddrWrite ddrPortAccessWrite serveWaiting
  repeat' split
  all_goals simp [serveBeats_neverRaises]

theorem cpuIoWrite_neverRaises (a : Nat) (bs : List Byte) : (cpuIoWrite s a bs).NeverRaises := by
  refine (ioWrite_neverRaises a bs).bind fun _ t => ?_
  split
  · exact dmaWriteBeats_neverRaises _ _ _
  · exact Res.neverRaises_ok ..

theorem physRead_neverRaises (pa : BitVec 40) (n : Nat) : (physRead s pa n).NeverRaises := by
  unfold physRead
  repeat' split
  all_goals simp [ddrRead_neverRaises, ioRead_neverRaises]

theorem physWrite_neverRaises (pa : BitVec 40) (bs : List Byte) : (physWrite s pa bs).NeverRaises := by
  unfold physWrite
  repeat' split
  all_goals simp [ddrWrite_neverRaises, cpuIoWrite_neverRaises]

end Sys2Proof.Machine
end

section
/-! SYNC, and the accesses that find bytes in the gather buffer: `GatherBufferEmptied`. -/

namespace Sys2Proof.Machine

variable {s t : State} {g : Gather} {x n : Nat} {va : Dword} {pa : BitVec 40} {c : BitVec 3}

/-! ### Two accesses that agree -/

/-- Two accesses do the same, and raise no exception that would bring back the state before them (R621). -/
def SameAnswer {α : Type} (r q : Res α) : Prop := r = q ∧ q.NeverRaises

theorem SameAnswer.bind {α β : Type} {r q : Res α} {k : α → State → Res β} (h : SameAnswer r q)
    (hk : ∀ a t, (k a t).NeverRaises) : SameAnswer (r.bind k) (q.bind k) := by
  obtain ⟨heq, hq⟩ := h
  exact ⟨congrArg (Res.bind · k) heq, hq.bind hk⟩

/-- What two states answer alike is precise alike, whichever state an exception would be taken from. -/
theorem SameAnswer.precise {α : Type} {r q : Res α} (h : SameAnswer r q) (s t : State) :
    r.precise s = q.precise t := by
  obtain ⟨rfl, hr⟩ := h
  rw [hr.precise, hr.precise]

/-! ### An uncached access writes the buffer out first (R143, D7) -/

theorem dataRead_gatherStored (h : GatherAt s g x) (hc : c ≠ 3) (hb : s.busErrorAt pa false = false) (va : Dword)
    (n : Nat) : SameAnswer (dataRead s c va pa n) (dataRead (s.gatherStored g x) c va pa n) := by
  have hread : ∀ t, flushGather t = .ok () (s.gatherStored g x) →
      dataRead t c va pa n = physRead (s.gatherStored g x) pa n := fun t ht => by
    have hb' : (s.gatherStored g x).busErrorAt pa false = false := hb
    rw [dataRead, if_neg hc, ht, Res.bind_ok, hb', if_neg (by decide)]
  have hafter := hread (s.gatherStored g x) (flushGather_of_none rfl)
  exact ⟨(hread s (flushGather_of_gatherAt h)).trans hafter.symm, hafter ▸ physRead_neverRaises pa n⟩

theorem dataWrite_gatherStored (h : GatherAt s g x) (hc : c ≠ 3) (h7 : c ≠ 7) (va : Dword) (pa : BitVec 40)
    (bs : List Byte) : SameAnswer (dataWrite s c va pa bs) (dataWrite (s.gatherStored g x) c va pa bs) := by
  have hwrite : ∀ t, flushGather t = .ok () (s.gatherStored g x) →
      dataWrite t c va pa bs = physWrite (s.gatherStored g x) pa bs := fun t ht => by
    rw [dataWrite, if_neg hc, if_neg h7, ht, Res.bind_ok]
  have hafter := hwrite (s.gatherStored g x) (flushGather_of_none rfl)
  exact ⟨(hwrite s (flushGather_of_gatherAt h)).trans hafter.symm, hafter ▸ physWrite_neverRaises pa bs⟩

/-! ### The primitives (R130) -/

/-- Two states that translate the address of an access alike do the same where the accesses behind it agree. -/
theorem access_congr {α : Type} {store : Bool} {k : BitVec 40 × BitVec 3 → State → Res α}
    (hs : Translates s store va pa c) (ht : Translates t store va pa c) (ha : va.toNat % n = 0)
    (hk : SameAnswer (k (pa, c) s) (k (pa, c) t)) :
    ((alignedAddress s store va n).bind k).precise s = ((alignedAddress t store va n).bind k).precise t := by
  rw [alignedAddress_aligned ha, alignedAddress_aligned ha, dataAddress_of_translates hs,
    dataAddress_of_translates ht]
  exact hk.precise s t

theorem memRead_congr (hs : Translates s false va pa c) (ht : Translates t false va pa c) (ha : va.toNat % n = 0)
    (h : SameAnswer (dataRead s c va pa n) (dataRead t c va pa n)) : memRead s va n = memRead t va n :=
  access_congr hs ht ha (h.bind fun _ _ => trivial)

theorem memReadPart_congr {first : Dword} (hs : Translates s false va pa c) (ht : Translates t false va pa c)
    (h : SameAnswer (dataRead s c va (atByte pa first) n) (dataRead t c va (atByte pa first) n)) :
    memReadPart s va first n = memReadPart t va first n := by
  unfold memReadPart
  rw [← alignedAddress_one, ← alignedAddress_one]
  exact access_congr hs ht (Nat.mod_one _) (h.bind fun _ _ => trivial)

theorem memWrite_congr {v : Dword} (hs : Translates s true va pa c) (ht : Translates t true va pa c)
    (ha : va.toNat % n = 0)
    (h : SameAnswer (dataWrite s c va pa (toBytes v n)) (dataWrite t c va pa (toBytes v n))) :
    memWrite s va n v = memWrite t va n v :=
  access_congr hs ht ha h

theorem memWritePart_congr {first v : Dword} (hs : Translates s true va pa c) (ht : Translates t true va pa c)
    (h : SameAnswer (dataWrite s c va (atByte pa first) (toBytes v n))
      (dataWrite t c va (atByte pa first) (toBytes v n))) :
    memWritePart s va first n v = memWritePart t va first n v := by
  unfold memWritePart
  rw [← alignedAddress_one, ← alignedAddress_one]
  exact access_congr hs ht (Nat.mod_one _) h

theorem memWriteConditional_congr {v : Dword} (hs : Translates s true va pa c) (ht : Translates t true va pa c)
    (ha : va.toNat % n = 0) (hls : s.llbit = true) (hlt : t.llbit = true)
    (h : SameAnswer (dataWrite s c va pa (toBytes v n)) (dataWrite t c va pa (toBytes v n))) :
    memWriteConditional s va n v = memWriteConditional t va n v := by
  refine access_congr hs ht ha ?_
  rw [if_pos hls, if_pos hlt]
  exact h

/-! ### Ends of loads and stores -/

theorem load_congr {rt : Reg} {extend : Dword → Dword} (h0 : rt ≠ 0) (h : memRead s va n = memRead t va n) :
    load s rt va n extend = load t rt va n extend := by
  rw [load, load, if_neg h0, if_neg h0, h]

theorem loadLinked_congr {rt : Reg} {extend : Dword → Dword} (h0 : rt ≠ 0)
    (h : memRead s va n = memRead t va n) : loadLinked s rt va n extend = loadLinked t rt va n extend := by
  rw [loadLinked, loadLinked, if_neg h0, if_neg h0, h]

theorem loadPart_congr {rt : Reg} {p : Part} {merge : Dword → Dword → Dword} (h0 : rt ≠ 0)
    (h : memReadPart s p.va p.first p.count = memReadPart t p.va p.first p.count) :
    loadPart s rt p merge = loadPart t rt p merge := by
  rw [loadPart, loadPart, if_neg h0, if_neg h0, h]

theorem fpInstruction_congr {k : State → Res Unit} (hs : s.cu 1 = true) (ht : t.cu 1 = true) (h : k s = k t) :
    fpInstruction s k = fpInstruction t k := by
  rw [fpInstruction_eq, fpInstruction_eq, if_pos hs, if_pos ht, h]

/-! ### Instructions -/

theorem translates_gatherStored {store : Bool} (h : Translates s store va pa c) (g : Gather) (x : Nat) :
    Translates (s.gatherStored g x) store va pa c := translates_congr h rfl rfl

/-- A load whose reads agree does what it does after the buffer is written out. -/
theorem exec_load_gatherStored {i : Instr} {a : DataAccess} (hi : dataAccessOf i = some a) (hp : a.prefetch = false)
    (hcu : a.cp1 = true → s.cu 1 = true) (hl : a.store = false)
    (ha : (addressOf s a.base a.offset).toNat % a.alignment = 0)
    (ht : Translates s false (addressOf s a.base a.offset) pa c)
    (hr : ∀ (q : BitVec 40) (n : Nat), q.toNat / 8 = pa.toNat / 8 →
      SameAnswer (dataRead s c (addressOf s a.base a.offset) q n)
        (dataRead (s.gatherStored g x) c (addressOf s a.base a.offset) q n)) :
    exec i s = exec i (s.gatherStored g x) := by
  have ht' := translates_gatherStored ht g x
  rw [addressOf_eq] at ha ht ht' hr
  cases i
  case lb | lbu | lh | lhu | lw | lwu | ld =>
    cases hi
    exact load_congr (by simpa using hp) (memRead_congr ht ht' ha (hr pa _ rfl))
  case ll | lld =>
    cases hi
    exact loadLinked_congr (by simpa using hp) (memRead_congr ht ht' ha (hr pa _ rfl))
  case lwl | lwr | ldl | ldr =>
    cases hi
    exact loadPart_congr (by simpa using hp) (memReadPart_congr ht ht' (hr _ _ (atByte_doubleword pa _)))
  case lwc1 | ldc1 =>
    cases hi
    exact fpInstruction_congr (hcu rfl) (hcu rfl)
      (congrArg (Res.bind · _) (memRead_congr ht ht' ha (hr pa _ rfl)))
  case sb | sh | sw | sd | swl | swr | sdl | sdr | sc | scd | swc1 | sdc1 =>
    cases hi
    cases hl
  all_goals cases hi

/-- A store whose writes agree, and which takes place, does what it does after the buffer is written out. -/
theorem exec_store_gatherStored {i : Instr} {a : DataAccess} (hi : dataAccessOf i = some a)
    (hcu : a.cp1 = true → s.cu 1 = true) (hst : a.store = true)
    (ha : (addressOf s a.base a.offset).toNat % a.alignment = 0)
    (ht : Translates s true (addressOf s a.base a.offset) pa c)
    (hll : s.llbit = true ∨ ∀ base rt offset, i ≠ .sc base rt offset ∧ i ≠ .scd base rt offset)
    (hw : ∀ (q : BitVec 40) (bs : List Byte), SameAnswer (dataWrite s c (addressOf s a.base a.offset) q bs)
      (dataWrite (s.gatherStored g x) c (addressOf s a.base a.offset) q bs)) :
    exec i s = exec i (s.gatherStored g x) := by
  have ht' := translates_gatherStored ht g x
  rw [addressOf_eq] at ha ht ht' hw
  cases i
  case sb | sh | sw | sd =>
    cases hi
    exact congrArg Res.finish (memWrite_congr ht ht' ha (hw pa _))
  case swl | swr | sdl | sdr =>
    cases hi
    exact congrArg Res.finish (memWritePart_congr ht ht' (hw _ _))
  case sc base rt offset | scd base rt offset =>
    cases hi
    have hset : s.llbit = true := hll.resolve_right fun hno => by simpa using hno base rt offset
    exact congrArg (fun r : Res Unit => (r.bind _).finish)
      (memWriteConditional_congr ht ht' ha hset hset (hw pa _))
  case swc1 | sdc1 =>
    cases hi
    exact fpInstruction_congr (hcu rfl) (hcu rfl) (memWrite_congr ht ht' ha (hw pa _))
  case lb | lbu | lh | lhu | lw | lwu | ld | lwl | lwr | ldl | ldr | ll | lld | lwc1 | ldc1 =>
    cases hi
    cases hst
  all_goals cases hi

/-! ### SYNC (R402) -/

/-- SYNC goes on from the state in which the buffer is written out. -/
theorem exec_sync {u : State} (h : flushGather s = .ok () u) (stype : BitVec 5) :
    exec (.sync stype) s = .next u.advance := congrArg Res.finish h

/-- Settles O42: SYNC and an uncached access write the buffer out. -/
theorem gatherBufferEmptied : Obligations.GatherBufferEmptied := by
  refine fun s => ⟨fun stype => ⟨decode_encode (i := .sync stype) rfl, fun hg => ?_, fun g x hat => ?_⟩, ?_⟩
  · exact ⟨s.advance, exec_sync (flushGather_of_none hg) stype, onlyPc_advance s, goesOn_advance rfl rfl⟩
  · exact ⟨s.gatherStored g x, _, writtenOut_gatherStored hat, exec_sync (flushGather_of_gatherAt hat) stype, rfl,
      goesOn_advance rfl rfl⟩
  · intro i a pa c g x hi hp hcu va ha ht hc h7 hb hll hat
    refine ⟨s.gatherStored g x, writtenOut_gatherStored hat, ?_⟩
    cases hst : a.store with
    | false =>
      rw [hst] at ht
      exact exec_load_gatherStored hi hp hcu hst ha ht fun q n hq => dataRead_gatherStored hat hc (hb hst q hq) va n
    | true =>
      rw [hst] at ht
      exact exec_store_gatherStored hi hcu hst ha ht hll fun q bs => dataWrite_gatherStored hat hc (h7 hst) va q bs

end Sys2Proof.Machine
end

section
/-! SUPPORT. What an access to memory or to a device leaves alone besides `State.core`: the ITLB, which only a fetch
fills (R72, R128). -/

namespace Sys2Proof.Machine

variable {α : Type} {P : State → Prop} {v : Vector (Option ItlbEntry) 16} {s t : State}

/-! ### What a computation keeps, by its result -/

@[simp] theorem Res.keeps_ok (a : α) (s : State) : (Res.ok a s).Keeps P ↔ P s := Iff.rfl
@[simp] theorem Res.keeps_raise (e : Exc) (s : State) : (Res.raise e s : Res α).Keeps P ↔ P s := Iff.rfl
@[simp] theorem Res.keeps_fault (f : Fault) : (Res.fault f : Res α).Keeps P := trivial
@[simp] theorem Res.keeps_refuse (x : Refusal) : (Res.refuse x : Res α).Keeps P := trivial

/-! ### The DDR2 controller -/

@[simp] theorem ddrField_itlb (s : State) (n : Fin 29) (m x : Dword) : (s.ddrField n m x).itlb = s.itlb := rfl

@[simp] theorem ddrReport_itlb (s : State) (n : Nat) : (s.ddrReport n).itlb = s.itlb := rfl

@[simp] theorem ddrOutOfRange_itlb (s : State) (a n : Nat) : (s.ddrOutOfRange a n).itlb = s.itlb := by
  simp [State.ddrOutOfRange]

@[simp] theorem ddrInitDone_itlb (s : State) : s.ddrInitDone.itlb = s.itlb := by
  simp [State.ddrInitDone, State.ddrDllLock, State.ddrDelayElements]

@[simp] theorem reportDoubleword_itlb (s : State) (d : Nat) : (s.reportDoubleword d).itlb = s.itlb := by
  unfold State.reportDoubleword
  split <;> simp [State.reportCorrectable, State.reportUncorrectable]

@[simp] theorem reportErrors_itlb (s : State) (a n : Nat) : (s.reportErrors a n).itlb = s.itlb := by
  unfold State.reportErrors
  split
  · exact foldl_keeps (P := fun t => t.itlb = s.itlb) _
      (fun t d ht => (reportDoubleword_itlb t d).trans ht) _ rfl
  · rfl

@[simp] theorem ddrMemRead_itlb (s : State) (a n : Nat) : (s.ddrMemRead a n).2.itlb = s.itlb := by
  unfold State.ddrMemRead
  split
  · simp
  · split <;> simp

@[simp] theorem ddrMemWrite_itlb (s : State) (a : Nat) (bs : List Byte) : (s.ddrMemWrite a bs).itlb = s.itlb := by
  unfold State.ddrMemWrite
  split
  · simp
  · split <;> simp

@[simp] theorem ddrSlotWrite_itlb (s : State) (a : Nat) (bs : List Byte) : (s.ddrSlotWrite a bs).itlb = s.itlb := by
  rcases ddrSlotWrite_cases s a bs with hs | ⟨r, hs⟩ <;> rw [hs]
  · unfold State.ddrCtlWrite State.ddrStart
    dsimp only
    repeat' split
    all_goals simp

/-! ### The I/O controller -/

/-- A state has the ITLB `v`. -/
def HasItlb (v : Vector (Option ItlbEntry) 16) (s : State) : Prop := s.itlb = v

@[simp] theorem hasItlb_iff : HasItlb v s ↔ s.itlb = v := Iff.rfl

@[simp] theorem writeReg_itlb (s : State) (n : Fin 64) (lanes x : Word) : (s.writeReg n lanes x).itlb = s.itlb := by
  unfold State.writeReg
  dsimp only
  repeat' split
  all_goals rfl

theorem pciRead_itlb (h : s.itlb = v) (addr n : Nat) (r : BusRequest) : (pciRead s addr n r).Keeps (HasItlb v) := by
  unfold pciRead
  dsimp only
  repeat' split
  all_goals simp [State.orHeader, h]

theorem ioRead_itlb (h : s.itlb = v) (a n : Nat) : (ioRead s a n).Keeps (HasItlb v) := by
  unfold ioRead
  repeat' split
  all_goals simp [h, pciRead_itlb h]

theorem ioWrite_itlb (h : s.itlb = v) (a : Nat) (bs : List Byte) : (ioWrite s a bs).Keeps (HasItlb v) := by
  unfold ioWrite
  dsimp only
  repeat' split
  all_goals simp [State.writeHeader, h]

/-! ### Requests of PCI masters -/

theorem masterOnly_itlb (h : s.itlb = v) {r : Res Unit} (hr : r.Keeps (HasItlb v)) :
    (masterOnly s r).Keeps (HasItlb v) := by
  cases r with
  | fault => exact h
  | ok | raise | refuse => exact hr

theorem dmaWriteIo_itlb (h : s.itlb = v) (a : Nat) (bs : List Byte) : (dmaWriteIo s a bs).Keeps (HasItlb v) := by
  have part : ∀ t, HasItlb v t → ∀ a bs, (masterOnly t (ioWrite t a bs)).Keeps (HasItlb v) := fun t ht a bs =>
    masterOnly_itlb ht (ioWrite_itlb ht a bs)
  unfold dmaWriteIo
  dsimp only
  split
  · exact (part s h _ _).bind fun _ t ht => part t ht _ _
  · exact part s h a bs

theorem serveBeat_itlb (h : s.itlb = v) (b : DmaBeat) : (serveBeat s b).Keeps (HasItlb v) := by
  cases b with
  | read busAddr a n => exact (ddrMemRead_itlb s a n).trans h
  | write a bs => exact (ddrMemWrite_itlb s a bs).trans h
  | portWrite a bs => exact (ddrSlotWrite_itlb s a bs).trans h
  | ioWrite a bs => exact dmaWriteIo_itlb h a bs

theorem serveBeats_itlb (h : s.itlb = v) (beats : List DmaBeat) : (serveBeats s beats).Keeps (HasItlb v) := by
  induction beats generalizing s with
  | nil => exact h
  | cons b rest ih =>
    unfold serveBeats
    split
    · exact h
    · exact (serveBeat_itlb h b).bind fun _ _ => ih

theorem arriveBeat_itlb (h : s.itlb = v) (b : DmaBeat) : (arriveBeat s b).Keeps (HasItlb v) := by
  unfold arriveBeat
  split
  · exact h
  · exact (serveBeat_itlb h b).bind fun _ _ ht => serveBeats_itlb ht _

theorem dmaWriteBeat_itlb (h : s.itlb = v) (addr : Nat) (bs : List Byte) :
    (dmaWriteBeat s addr bs).Keeps (HasItlb v) := by
  have haccept : (s.acceptDma (BitVec.ofNat 64 addr)).itlb = v := by
    unfold State.acceptDma
    split <;> exact h
  unfold dmaWriteBeat dmaWriteDdr
  dsimp only
  repeat' split
  all_goals simp [h, haccept, arriveBeat_itlb haccept]

/-! ### Physical accesses -/

theorem physRead_itlb (h : s.itlb = v) (pa : BitVec 40) (n : Nat) : (physRead s pa n).Keeps (HasItlb v) := by
  have hddr : ∀ a, (ddrRead s a n).Keeps (HasItlb v) := fun a => by
    unfold ddrRead ddrPortAccessRead
    repeat' split
    all_goals simp [h]
  unfold physRead
  repeat' split
  all_goals simp [h, hddr, ioRead_itlb h]

theorem ddrWrite_itlb (h : s.itlb = v) (a : Nat) (bs : List Byte) : (ddrWrite s a bs).Keeps (HasItlb v) := by
  unfold ddrWrite ddrPortAccessWrite
  repeat' split
  · exact serveBeats_itlb ((ddrSlotWrite_itlb s a bs).trans h) _
  · trivial
  · trivial
  · exact (ddrMemWrite_itlb s a bs).trans h

theorem cpuIoWrite_itlb (h : s.itlb = v) (a : Nat) (bs : List Byte) : (cpuIoWrite s a bs).Keeps (HasItlb v) := by
  refine (ioWrite_itlb h a bs).bind fun _ t ht => ?_
  split
  · exact dmaWriteBeats_keeps (fun _ a bs hu => dmaWriteBeat_itlb hu a bs) _ ht _ _
  · exact ht

theorem physWrite_itlb (h : s.itlb = v) (pa : BitVec 40) (bs : List Byte) : (physWrite s pa bs).Keeps (HasItlb v) := by
  unfold physWrite
  repeat' split
  all_goals simp [h, ddrWrite_itlb h, cpuIoWrite_itlb h]

/-! ### The caches -/

theorem evictData_itlb (h : s.itlb = v) (k : Nat) : (evictData s k).Keeps (HasItlb v) := by
  have hback : (writeBackData s k).Keeps (HasItlb v) := by
    unfold writeBackData
    dsimp only
    repeat' split
    all_goals simp [h, physWrite_itlb h]
  exact hback.bind fun _ _ ht => ht

theorem dropDataLines_itlb (h : s.itlb = v) (pa : BitVec 40) (merge : Bool) (key : Nat) :
    (s.dropDataLines pa merge key).itlb = v := by
  refine foldl_keeps (P := HasItlb v) _ (fun t k ht => ?_) _ h
  dsimp only
  repeat' split
  all_goals exact ht

theorem dropInstructionLines_itlb (h : s.itlb = v) (pa : BitVec 40) : (s.dropInstructionLines pa).itlb = v := by
  refine foldl_keeps (P := HasItlb v) _ (fun t k ht => ?_) _ h
  split <;> exact ht

theorem evictSecondary_itlb (h : s.itlb = v) (k : Nat) (writeBack : Bool) :
    (evictSecondary s k writeBack).Keeps (HasItlb v) := by
  unfold evictSecondary
  split
  · exact h
  · have hdrop := dropDataLines_itlb (dropInstructionLines_itlb h ((s.sLine k).address k)) ((s.sLine k).address k)
      writeBack k
    dsimp only
    split
    · exact physWrite_itlb ((State.setSLine_itlb ..).trans hdrop) _ _
    · exact (State.setSLine_itlb ..).trans hdrop

theorem readLine_itlb (h : s.itlb = v) (pa : BitVec 40) (f : Bool) : (readLine s pa f).Keeps (HasItlb v) := by
  unfold readLine
  split
  · exact h
  · exact (physRead_itlb h _ _).bind fun _ _ ht => ht

theorem secondaryLine_itlb (h : s.itlb = v) (pa : BitVec 40) (f : Bool) :
    (secondaryLine s pa f).Keeps (HasItlb v) := by
  unfold secondaryLine
  repeat' split
  · exact h
  · exact (readLine_itlb h _ _).bind fun _ _ ht => ht
  · exact (evictSecondary_itlb h _ _).bind fun _ _ ht => (readLine_itlb ht _ _).bind fun _ _ hu => hu

theorem dataLine_itlb (h : s.itlb = v) (va : Dword) (pa : BitVec 40) : (dataLine s va pa).Keeps (HasItlb v) := by
  unfold dataLine
  split
  · exact h
  · exact (evictData_itlb h _).bind fun _ _ ht => (secondaryLine_itlb ht _ _).bind fun _ _ hu => hu

/-! ### The gather buffer -/

theorem physWriteEach_itlb (h : s.itlb = v) (pa : BitVec 40) (bs : List Byte) :
    (physWriteEach s pa bs).Keeps (HasItlb v) := by
  induction bs generalizing s pa with
  | nil => exact h
  | cons b bs ih => exact (physWrite_itlb h pa [b]).bind fun _ _ ht => ih ht _

theorem flushGather_itlb (h : s.itlb = v) : (flushGather s).Keeps (HasItlb v) := by
  have hempty : { s with gather := none }.itlb = v := h
  unfold flushGather
  dsimp only
  repeat' split
  · exact h
  · exact physWrite_itlb hempty _ _
  · exact physWriteEach_itlb hempty _ _

theorem gatherStore_itlb (h : s.itlb = v) (pa : BitVec 40) (bs : List Byte) :
    (gatherStore s pa bs).Keeps (HasItlb v) := by
  have keep : ∀ t g, HasItlb v t → (keepGather t g).Keeps (HasItlb v) := fun t g ht => by
    have hset : { t with gather := some g }.itlb = v := ht
    unfold keepGather
    dsimp only
    split
    · exact flushGather_itlb hset
    · exact hset
  unfold gatherStore
  repeat' split
  · exact keep s _ h
  · exact (flushGather_itlb h).bind fun _ t ht => keep t _ ht
  · exact keep s _ h

/-! ### Data accesses -/

theorem dataRead_itlb (h : s.itlb = v) (c : BitVec 3) (va : Dword) (pa : BitVec 40) (n : Nat) :
    (dataRead s c va pa n).Keeps (HasItlb v) := by
  unfold dataRead
  split
  · exact (dataLine_itlb h va pa).bind fun _ _ ht => ht
  · refine (flushGather_itlb h).bind fun _ t ht => ?_
    split
    · exact ht
    · exact physRead_itlb ht _ _

theorem dataWrite_itlb (h : s.itlb = v) (c : BitVec 3) (va : Dword) (pa : BitVec 40) (bs : List Byte) :
    (dataWrite s c va pa bs).Keeps (HasItlb v) := by
  unfold dataWrite
  repeat' split
  · exact (dataLine_itlb h va pa).bind fun _ _ ht => ht
  · exact gatherStore_itlb h _ _
  · exact (flushGather_itlb h).bind fun _ _ ht => physWrite_itlb ht _ _

/-- Translation for a load or a store, not for a fetch, leaves the state as it is. -/
theorem translate_data_state {k : Access} (hk : k ≠ .fetch) (s : State) (va : Dword) :
    (translate s k va).Keeps (· = s) := by
  unfold translate
  repeat' split
  · exact Res.keeps_refuse _
  · exact rfl
  · exact rfl
  · next hf => exact absurd (beq_iff_eq.mp hf) hk
  · exact translateMapped_state s k va

theorem dataAddress_state (s : State) (store : Bool) (va : Dword) : (dataAddress s store va).Keeps (· = s) := by
  refine (translate_data_state (dataKind_ne_fetch store) s va).bind fun r t ht => ?_
  split <;> exact ht

theorem alignedAddress_state (s : State) (store : Bool) (va : Dword) (n : Nat) :
    (alignedAddress s store va n).Keeps (· = s) := by
  unfold alignedAddress
  split
  · exact dataAddress_state s store va
  · exact rfl

/-- What follows a check of the address works on the state before it. -/
theorem Res.Keeps.bind_state {β : Type} {r : Res α} {k : α → State → Res β} (hr : r.Keeps (· = s)) (hs : P s)
    (hk : ∀ a, (k a s).Keeps P) : (r.bind k).Keeps P := by
  cases r with
  | ok a t => exact (show t = s from hr) ▸ hk a
  | raise e t => exact (show t = s from hr) ▸ hs
  | fault | refuse => trivial

theorem memRead_itlb (h : s.itlb = v) (va : Dword) (n : Nat) : (memRead s va n).Keeps (HasItlb v) :=
  Res.Keeps.precise ((alignedAddress_state s false va n).bind_state h fun _ =>
    (dataRead_itlb h _ _ _ _).bind fun _ _ ht => ht) h

theorem memReadPart_itlb (h : s.itlb = v) (va first : Dword) (n : Nat) :
    (memReadPart s va first n).Keeps (HasItlb v) :=
  Res.Keeps.precise ((dataAddress_state s false va).bind_state h fun _ =>
    (dataRead_itlb h _ _ _ _).bind fun _ _ ht => ht) h

theorem memWrite_itlb (h : s.itlb = v) (va : Dword) (n : Nat) (x : Dword) : (memWrite s va n x).Keeps (HasItlb v) :=
  ((alignedAddress_state s true va n).bind_state h fun _ => dataWrite_itlb h _ _ _ _).precise h

theorem memWritePart_itlb (h : s.itlb = v) (va first : Dword) (n : Nat) (x : Dword) :
    (memWritePart s va first n x).Keeps (HasItlb v) :=
  ((dataAddress_state s true va).bind_state h fun _ => dataWrite_itlb h _ _ _ _).precise h

theorem memWriteConditional_itlb (h : s.itlb = v) (va : Dword) (n : Nat) (x : Dword) :
    (memWriteConditional s va n x).Keeps (HasItlb v) := by
  refine ((alignedAddress_state s true va n).bind_state h fun _ => ?_).precise h
  split
  · exact dataWrite_itlb h _ _ _ _
  · exact h

end Sys2Proof.Machine
end

section
/-! SUPPORT. When coprocessor 0 may be used (R430, R450, R651): what its check and that of CACHE answer, and what an
instruction of coprocessor 0 and CACHE do in a mode that may not use it. -/

namespace Sys2Proof.Machine

variable {s : State} {user : Bool}

/-- Coprocessor 0 may not be used: the mode is not kernel mode and CU0 is 0 (R430). -/
def Cp0Unusable (s : State) : Prop := s.cu 0 = false ∧ (s.mode = some .supervisor ∨ s.mode = some .user)

theorem checkCp0_of_usable (h : Cp0Usable s) : checkCp0 s = .ok () s := by
  rcases checkCp0_cases s with ⟨-, hc⟩ | ⟨hcu, hm, -⟩ | ⟨hcu, hm, -⟩
  · exact hc
  · rcases h with h | h
    · simp [hcu] at h
    · rcases hm with hm | hm <;> simp [hm] at h
  · simp [Cp0Usable, hcu, hm] at h

theorem checkCp0_of_unusable (h : Cp0Unusable s) : checkCp0 s = .raise (.coprocessorUnusable 0) s := by
  obtain ⟨hcu, hm⟩ := h
  rcases checkCp0_cases s with ⟨hu, -⟩ | ⟨-, -, hc⟩ | ⟨-, hn, -⟩
  · rcases hm with hm | hm <;> simp [hcu, hm] at hu
  · exact hc
  · rcases hm with hm | hm <;> simp [hm] at hn

theorem checkCache_of_usable (h : CacheUsable s user) : checkCache s user = .ok () s := by
  unfold checkCache
  split
  · rfl
  · next hclosed =>
    refine checkCp0_of_usable (h.resolve_right fun ⟨huser, hbit, hm⟩ => hclosed ?_)
    simp [huser, hbit, hm]

/-- Where CP0 may not be used, only the U-Mode bit opens an operation of CACHE, and to user mode alone. -/
theorem checkCache_of_unusable (h : Cp0Unusable s)
    (hbit : user = true → s.mode = some .user → s.cp0.diagnostic.getLsbD 8 = false) :
    checkCache s user = .raise (.coprocessorUnusable 0) s := by
  unfold checkCache
  split
  · next hopen =>
    simp only [Bool.and_eq_true, beq_iff_eq] at hopen
    obtain ⟨⟨huser, h8⟩, hm⟩ := hopen
    cases (hbit huser hm).symm.trans h8
  · exact checkCp0_of_unusable h

theorem cp0Instruction_of_unusable (h : Cp0Unusable s) (k : State → Res Unit) :
    cp0Instruction s k = .next (takeException (.coprocessorUnusable 0) s) := by
  simp [cp0Instruction, checkCp0_of_unusable h]

theorem execEret_of_unusable (h : Cp0Unusable s) :
    execEret s = .next (takeException (.coprocessorUnusable 0) s) := by
  simp [execEret, ifCp0, checkCp0_of_unusable h]

/-! ### CACHE (R450) -/

/-- The operation of a CACHE row, on the virtual and the physical address (R451 to R465). -/
def cacheOperationOf : Instr → Dword → BitVec 40 → State → Res Unit
  | .cache_index_invalidate_i .. => fun va _ s => .ok () (indexInvalidateI s va)
  | .cache_index_writeback_invalidate_d .. => fun va _ s => evictData s (dataKey va)
  | .cache_index_load_tag_d .. => fun va _ s => .ok () (loadTagD s va)
  | .cache_index_store_tag_d .. => fun va _ s => .ok () (storeTagD s va)
  | .cache_hit_invalidate_d .. => fun va pa s => .ok () (hitInvalidateD s va pa)
  | .cache_hit_writeback_invalidate_d .. => fun va pa s => evictMatchingD s pa (waysOf (primarySet va))
  | .cache_index_load_data_d .. => fun va _ s => .ok () (loadDataD s va)
  | .cache_index_store_data_d .. => fun va _ s => .ok () (storeDataD s va)
  | .cache_index_writeback_invalidate_s .. => fun _ pa s => evictSecondary s (secondaryKey pa) true
  | .cache_index_load_tag_s .. => fun _ pa s => .ok () (loadTagS s pa)
  | .cache_index_store_tag_s .. => fun _ pa s => .ok () (storeTagS s pa)
  | .cache_hit_invalidate_s .. => fun _ pa s => evictMatchingS s pa false (waysOf (secondarySet pa))
  | .cache_hit_writeback_invalidate_s .. => fun _ pa s => evictMatchingS s pa true (waysOf (secondarySet pa))
  | .cache_index_load_data_s .. => fun _ pa s => .ok () (loadDataS s pa)
  | .cache_index_store_data_s .. => fun _ pa s => .ok () (storeDataS s pa)
  | _ => fun _ _ _ => .refuse .undefinedCacheOp

/-- Every CACHE row makes the same checks before its operation (R450). -/
theorem exec_cache {i : Instr} {a : CacheOperands} (hi : cacheOperandsOf i = some a) (s : State) :
    exec i s =
      cacheInstruction s a.userOperation (s.effectiveAddress a.base a.offset) (cacheOperationOf i) := by
  cases i
  case cache | cache_index_invalidate_i | cache_index_writeback_invalidate_d | cache_index_load_tag_d
      | cache_index_store_tag_d | cache_hit_invalidate_d | cache_hit_writeback_invalidate_d | cache_index_load_data_d
      | cache_index_store_data_d | cache_index_writeback_invalidate_s | cache_index_load_tag_s
      | cache_index_store_tag_s | cache_hit_invalidate_s | cache_hit_writeback_invalidate_s | cache_index_load_data_s
      | cache_index_store_data_s =>
    cases hi
    rfl
  all_goals cases hi

end Sys2Proof.Machine
end

section
/-! Without CP0, user and supervisor mode change no CP0 register and no TLB entry: `UserModeKeepsCp0`.  Each shared shape
of the meanings keeps them or takes an exception; the case split goes by these shapes. -/

namespace Sys2Proof.Machine

variable {α : Type} {s t : State}

/-! ### What coprocessor 0 holds -/

/-- The CP0 registers, the JTLB and the ITLB are the same. -/
def SamePrivileged (s t : State) : Prop := t.cp0 = s.cp0 ∧ t.tlb = s.tlb ∧ t.itlb = s.itlb

theorem SamePrivileged.refl (s : State) : SamePrivileged s s := ⟨rfl, rfl, rfl⟩

theorem SamePrivileged.writeGpr (h : SamePrivileged s t) (r : Reg) (x : Dword) : SamePrivileged s (t.writeGpr r x) := by
  simpa [SamePrivileged] using h

theorem SamePrivileged.writeS (h : SamePrivileged s t) (n : Reg) (x : Word) : SamePrivileged s (t.writeS n x) := by
  simpa [SamePrivileged] using h

theorem SamePrivileged.writeD (h : SamePrivileged s t) (n : Reg) (x : Dword) : SamePrivileged s (t.writeD n x) := by
  simpa [SamePrivileged] using h

/-- What keeps the core and the ITLB of a state keeps all that coprocessor 0 holds. -/
theorem Res.Keeps.privileged {r : Res α} (hc : r.Keeps (HasCore t.core)) (hi : r.Keeps (HasItlb t.itlb))
    (h : SamePrivileged s t) : r.Keeps (SamePrivileged s) := by
  have htlb : ∀ {u}, HasCore t.core u → u.tlb = t.tlb := fun {u} hu => by
    rw [show u.tlb = u.core.tlb from rfl, show u.core = t.core from hu]
    rfl
  obtain ⟨hcp0, ht, hitlb⟩ := h
  cases r with
  | ok a u => exact ⟨hc.cp0.trans hcp0, (htlb hc).trans ht, hi.trans hitlb⟩
  | raise e u => exact ⟨hc.cp0.trans hcp0, (htlb hc).trans ht, hi.trans hitlb⟩
  | fault | refuse => trivial

/-! ### Ends of instructions -/

/-- An instruction that completes without an exception has changed nothing that coprocessor 0 holds. -/
def KeepsPrivileged (s : State) (o : Outcome) : Prop := NextKeeps (fun t => t.taken = none → SamePrivileged s t) o

theorem keepsPrivileged_next (h : SamePrivileged s t) : KeepsPrivileged s (.next t) := fun _ => h

theorem keepsPrivileged_exception (s t : State) (e : Exc) : KeepsPrivileged s (.next (takeException e t)) :=
  fun h => by cases h

theorem keepsPrivileged_finish {r : Res Unit} (h : r.Keeps (SamePrivileged s)) : KeepsPrivileged s r.finish := by
  cases r with
  | ok a t => exact keepsPrivileged_next h
  | raise e t => exact keepsPrivileged_exception s t e
  | fault | refuse => trivial

/-! ### Integer instructions and control transfers -/

theorem keepsPrivileged_writeResult (s : State) (rd : Reg) (x : Dword) : KeepsPrivileged s (writeResult s rd x) :=
  keepsPrivileged_next ((SamePrivileged.refl s).writeGpr rd x)

theorem keepsPrivileged_writeOrOverflow (s : State) (rd : Reg) (x : Option Dword) :
    KeepsPrivileged s (writeOrOverflow s rd x) := by
  cases x with
  | some x => exact keepsPrivileged_writeResult s rd x
  | none => exact keepsPrivileged_exception s s .overflow

theorem keepsPrivileged_setHiLo (s : State) (hi lo : Dword) : KeepsPrivileged s (complete (s.setHiLo hi lo)) :=
  keepsPrivileged_next (SamePrivileged.refl s)

theorem keepsPrivileged_divide (s : State) (toReg : Int → Dword) (a b : Int) :
    KeepsPrivileged s (divide s toReg a b) := by
  unfold divide
  split <;> exact keepsPrivileged_setHiLo _ _ _

theorem keepsPrivileged_trapIf (s : State) (c : Bool) : KeepsPrivileged s (trapIf s c) := by
  cases c with
  | true => exact keepsPrivileged_exception s s .trap
  | false => exact keepsPrivileged_next (SamePrivileged.refl s)

theorem keepsPrivileged_jump (h : SamePrivileged s t) (target : Dword) : KeepsPrivileged s (jump t target) := by
  unfold jump outsideDelaySlot
  split
  · trivial
  · exact keepsPrivileged_next h

theorem keepsPrivileged_branch (h : SamePrivileged s t) (taken : Bool) (target : Dword) :
    KeepsPrivileged s (branch t taken target) := by
  rw [branch_eq_jump]
  exact keepsPrivileged_jump h _

theorem keepsPrivileged_branchLikely (h : SamePrivileged s t) (taken : Bool) (target : Dword) :
    KeepsPrivileged s (branchLikely t taken target) := by
  unfold branchLikely outsideDelaySlot
  split
  · trivial
  · cases taken <;> exact keepsPrivileged_next h

theorem samePrivileged_linkTo (s : State) (rd : Reg) : SamePrivileged s (s.linkTo rd) :=
  (SamePrivileged.refl s).writeGpr rd _

/-! ### Loads and stores -/

theorem memRead_privileged (s : State) (va : Dword) (n : Nat) : (memRead s va n).Keeps (SamePrivileged s) :=
  (memRead_core (hasCore_core s) va n).privileged (memRead_itlb rfl va n) (.refl s)

theorem memWrite_privileged (s : State) (va : Dword) (n : Nat) (x : Dword) :
    (memWrite s va n x).Keeps (SamePrivileged s) :=
  (memWrite_core (hasCore_core s) va n x).privileged (memWrite_itlb rfl va n x) (.refl s)

theorem keepsPrivileged_load (s : State) (rt : Reg) (va : Dword) (n : Nat) (extend : Dword → Dword) :
    KeepsPrivileged s (load s rt va n extend) := by
  unfold load
  split
  · exact keepsPrivileged_next (.refl s)
  · exact keepsPrivileged_finish ((memRead_privileged s va n).bind fun _ _ ht => ht.writeGpr rt _)

theorem keepsPrivileged_loadPart (s : State) (rt : Reg) (p : Part) (merge : Dword → Dword → Dword) :
    KeepsPrivileged s (loadPart s rt p merge) := by
  unfold loadPart
  split
  · exact keepsPrivileged_next (.refl s)
  · refine keepsPrivileged_finish (Res.Keeps.bind ?_ fun _ _ ht => SamePrivileged.writeGpr ht rt _)
    exact (memReadPart_core (hasCore_core s) _ _ _).privileged (memReadPart_itlb rfl _ _ _) (.refl s)

theorem keepsPrivileged_loadLinked (s : State) (rt : Reg) (va : Dword) (n : Nat) (extend : Dword → Dword) :
    KeepsPrivileged s (loadLinked s rt va n extend) := by
  unfold loadLinked
  split
  · exact keepsPrivileged_next (.refl s)
  · exact keepsPrivileged_finish ((memRead_privileged s va n).bind fun _ _ ht => ht.writeGpr rt _)

theorem keepsPrivileged_storePart (s : State) (p : Part) (x : Dword) : KeepsPrivileged s (storePart s p x) :=
  keepsPrivileged_finish
    ((memWritePart_core (hasCore_core s) _ _ _ x).privileged (memWritePart_itlb rfl _ _ _ x) (.refl s))

theorem keepsPrivileged_storeConditional (s : State) (rt : Reg) (va : Dword) (n : Nat) :
    KeepsPrivileged s (storeConditional s rt va n) := by
  refine keepsPrivileged_finish (Res.Keeps.bind ?_ fun _ _ ht => SamePrivileged.writeGpr ht rt _)
  exact (memWriteConditional_core (hasCore_core s) _ _ _).privileged (memWriteConditional_itlb rfl _ _ _) (.refl s)

/-! ### Floating point -/

theorem keepsPrivileged_fpInstruction {k : State → Res Unit} (hk : (k s).Keeps (SamePrivileged s)) :
    KeepsPrivileged s (fpInstruction s k) := by
  rw [fpInstruction_eq]
  split
  · exact keepsPrivileged_finish hk
  · exact keepsPrivileged_exception s s _

theorem keepsPrivileged_ifCp1 {o : Outcome} (ho : KeepsPrivileged s o) : KeepsPrivileged s (ifCp1 s o) := by
  unfold ifCp1
  rcases checkCp1_cases s with ⟨-, hc⟩ | ⟨-, hc⟩ <;> rw [hc]
  · exact ho
  · exact keepsPrivileged_exception s s _

/-- The end of an operation whose result goes to a register file or to FCR31. -/
theorem fpEnd_privileged (c : Conditions) {write : State → State}
    (hw : ∀ t, SamePrivileged s t → SamePrivileged s (write t)) : (fpEnd s c write).Keeps (SamePrivileged s) := by
  rw [fpEnd_eq]
  split
  · exact SamePrivileged.refl s
  · exact hw _ (SamePrivileged.refl s)

theorem writeFcr_privileged (s : State) (n : Reg) (x : Dword) : (writeFcr s n x).Keeps (SamePrivileged s) := by
  unfold writeFcr
  dsimp only
  repeat' split
  all_goals exact SamePrivileged.refl s

/-! ### Coprocessor 0 -/

theorem keepsPrivileged_cp0Instruction (h : Cp0Unusable s) (k : State → Res Unit) :
    KeepsPrivileged s (cp0Instruction s k) := by
  rw [cp0Instruction_of_unusable h]
  exact keepsPrivileged_exception s s _

theorem keepsPrivileged_moveFromCp0 (h : Cp0Unusable s) (rt rd : Reg) (view : Dword → Dword) :
    KeepsPrivileged s (moveFromCp0 s rt rd view) := by
  unfold moveFromCp0
  split
  · exact keepsPrivileged_next ((SamePrivileged.refl s).writeGpr rt _)
  · exact keepsPrivileged_cp0Instruction h _

/-- A CACHE instruction that CU0 does not open does its operation, if U-Mode opens it, on the state before it. -/
theorem keepsPrivileged_cacheInstruction (h : Cp0Unusable s) {user : Bool} {va : Dword}
    {op : Dword → BitVec 40 → State → Res Unit} (hop : user = true → ∀ pa, (op va pa s).Keeps (SamePrivileged s)) :
    KeepsPrivileged s (cacheInstruction s user va op) := by
  have haddress : (cacheAddress s va).Keeps (· = s) := by
    refine (translate_data_state (by decide) s va).bind_state rfl fun r => ?_
    split
    · exact rfl
    · exact Res.keeps_refuse _
  refine keepsPrivileged_finish ?_
  by_cases huser : user = true ∧ s.mode = some .user ∧ s.cp0.diagnostic.getLsbD 8 = true
  · obtain ⟨huser, hm, hbit⟩ := huser
    rw [checkCache_of_usable (.inr ⟨huser, hbit, hm⟩)]
    exact haddress.bind_state (.refl s) (hop huser)
  · rw [checkCache_of_unusable h fun hu hm => Bool.eq_false_iff.mpr fun hbit => huser ⟨hu, hm, hbit⟩]
    exact SamePrivileged.refl s

theorem evictData_privileged (h : SamePrivileged s t) (k : Nat) : (evictData t k).Keeps (SamePrivileged s) :=
  (evictData_core (hasCore_core t) k).privileged (evictData_itlb rfl k) h

theorem evictSecondary_privileged (h : SamePrivileged s t) (k : Nat) (writeBack : Bool) :
    (evictSecondary t k writeBack).Keeps (SamePrivileged s) :=
  (evictSecondary_core (hasCore_core t) k writeBack).privileged (evictSecondary_itlb rfl k writeBack) h

theorem indexInvalidateI_privileged (s : State) (va : Dword) : SamePrivileged s (indexInvalidateI s va) := by
  refine foldl_keeps _ (fun t k ht => ?_) _ (SamePrivileged.refl s)
  exact ht

theorem hitInvalidateD_privileged (s : State) (va : Dword) (pa : BitVec 40) :
    SamePrivileged s (hitInvalidateD s va pa) := by
  refine foldl_keeps _ (fun t k ht => ?_) _ (SamePrivileged.refl s)
  split <;> exact ht

theorem evictMatchingD_privileged (h : SamePrivileged s t) (pa : BitVec 40) (keys : List Nat) :
    (evictMatchingD t pa keys).Keeps (SamePrivileged s) := by
  induction keys generalizing t with
  | nil => exact h
  | cons k keys ih =>
    unfold evictMatchingD
    split
    · exact (evictData_privileged h k).bind fun _ _ => ih
    · exact ih h

theorem evictMatchingS_privileged (h : SamePrivileged s t) (pa : BitVec 40) (writeBack : Bool) (keys : List Nat) :
    (evictMatchingS t pa writeBack keys).Keeps (SamePrivileged s) := by
  induction keys generalizing t with
  | nil => exact h
  | cons k keys ih =>
    unfold evictMatchingS
    split
    · exact (evictSecondary_privileged h k writeBack).bind fun _ _ => ih
    · exact ih h

/-- The operations that U-Mode opens work on the caches and on memory. -/
theorem cacheOperationOf_privileged {i : Instr} {a : CacheOperands} (hi : cacheOperandsOf i = some a)
    (huser : a.userOperation = true) (s : State) (va : Dword) (pa : BitVec 40) :
    (cacheOperationOf i va pa s).Keeps (SamePrivileged s) := by
  have hs := SamePrivileged.refl s
  cases i
  case cache_index_invalidate_i => exact indexInvalidateI_privileged s va
  case cache_index_writeback_invalidate_d => exact evictData_privileged hs _
  case cache_hit_invalidate_d => exact hitInvalidateD_privileged s va pa
  case cache_hit_writeback_invalidate_d => exact evictMatchingD_privileged hs pa _
  case cache_index_writeback_invalidate_s => exact evictSecondary_privileged hs _ true
  case cache_hit_invalidate_s => exact evictMatchingS_privileged hs pa false _
  case cache_hit_writeback_invalidate_s => exact evictMatchingS_privileged hs pa true _
  case cache | cache_index_load_tag_d | cache_index_store_tag_d | cache_index_load_data_d | cache_index_store_data_d
      | cache_index_load_tag_s | cache_index_store_tag_s | cache_index_load_data_s | cache_index_store_data_s =>
    cases hi
    cases huser
  all_goals cases hi

theorem keepsPrivileged_cache (h : Cp0Unusable s) {i : Instr} {a : CacheOperands} (hi : cacheOperandsOf i = some a) :
    KeepsPrivileged s (exec i s) := by
  rw [exec_cache hi]
  exact keepsPrivileged_cacheInstruction h fun huser pa => cacheOperationOf_privileged hi huser s _ pa

/-! ### Every instruction -/

theorem exec_keepsPrivileged (h : Cp0Unusable s) (i : Instr) : KeepsPrivileged s (exec i s) := by
  have hs := SamePrivileged.refl s
  cases i
  case lb | lbu | lh | lhu | lw | lwu | ld => exact keepsPrivileged_load _ _ _ _ _
  case lwl | lwr | ldl | ldr => exact keepsPrivileged_loadPart _ _ _ _
  case ll | lld => exact keepsPrivileged_loadLinked _ _ _ _ _
  case sb | sh | sw | sd => exact keepsPrivileged_finish (memWrite_privileged ..)
  case swl | swr | sdl | sdr => exact keepsPrivileged_storePart _ _ _
  case sc | scd => exact keepsPrivileged_storeConditional _ _ _ _
  case lwc1 => exact keepsPrivileged_fpInstruction ((memRead_privileged ..).bind fun _ _ ht => ht.writeS _ _)
  case ldc1 => exact keepsPrivileged_fpInstruction ((memRead_privileged ..).bind fun _ _ ht => ht.writeD _ _)
  case swc1 | sdc1 => exact keepsPrivileged_fpInstruction (memWrite_privileged ..)
  case addi | daddi | add | sub | dadd | dsub => exact keepsPrivileged_writeOrOverflow _ _ _
  case addiu | daddiu | slti | sltiu | andi | ori | xori | lui | addu | subu | daddu | dsubu | slt | sltu | and | or
      | xor | nor | sll | srl | sra | dsll | dsrl | dsra | dsll32 | dsrl32 | dsra32 | sllv | srlv | srav | dsllv
      | dsrlv | dsrav | mfhi | mflo | multg | multug | dmultg | dmultug | divg | divug | ddivg | ddivug | modg | modug
      | dmodg | dmodug => exact keepsPrivileged_writeResult _ _ _
  case movz rs rt rd =>
    show KeepsPrivileged s (execMovz rs rt rd s)
    rw [execMovz_eq_writeResult]
    exact keepsPrivileged_writeResult _ _ _
  case movn rs rt rd =>
    show KeepsPrivileged s (execMovn rs rt rd s)
    rw [execMovn_eq_writeResult]
    exact keepsPrivileged_writeResult _ _ _
  case mthi | mtlo | mult | multu | dmult | dmultu => exact keepsPrivileged_setHiLo _ _ _
  case div | divu | ddiv | ddivu => exact keepsPrivileged_divide _ _ _ _
  case j | jr => exact keepsPrivileged_jump hs _
  case jal | jalr => exact keepsPrivileged_jump (samePrivileged_linkTo s _) _
  case beq | bne | blez | bgtz | bltz | bgez => exact keepsPrivileged_branch hs _ _
  case bltzal | bgezal => exact keepsPrivileged_branch (samePrivileged_linkTo s _) _ _
  case beql | bnel | blezl | bgtzl | bltzl | bgezl => exact keepsPrivileged_branchLikely hs _ _
  case bltzall | bgezall => exact keepsPrivileged_branchLikely (samePrivileged_linkTo s _) _ _
  case bc1f | bc1t => exact keepsPrivileged_ifCp1 (keepsPrivileged_branch hs _ _)
  case bc1fl | bc1tl => exact keepsPrivileged_ifCp1 (keepsPrivileged_branchLikely hs _ _)
  case syscall | break_ => exact keepsPrivileged_exception s s _
  case tge | tgeu | tlt | tltu | teq | tne | tgei | tgeiu | tlti | tltiu | teqi | tnei =>
    exact keepsPrivileged_trapIf s _
  case sync =>
    exact keepsPrivileged_finish ((flushGather_core (hasCore_core s)).privileged (flushGather_itlb rfl) hs)
  case mtc0 | dmtc0 | tlbp | tlbr | tlbwi | tlbwr =>
    exact keepsPrivileged_cp0Instruction h _
  case mfc0 => exact keepsPrivileged_moveFromCp0 h _ _ fun x => sext32 (low32 x)
  case dmfc0 => exact keepsPrivileged_moveFromCp0 h _ _ id
  case eret =>
    show KeepsPrivileged s (execEret s)
    rw [execEret_of_unusable h]
    exact keepsPrivileged_exception s s _
  case cache | cache_index_invalidate_i | cache_index_writeback_invalidate_d | cache_index_load_tag_d
      | cache_index_store_tag_d | cache_hit_invalidate_d | cache_hit_writeback_invalidate_d | cache_index_load_data_d
      | cache_index_store_data_d | cache_index_writeback_invalidate_s | cache_index_load_tag_s
      | cache_index_store_tag_s | cache_hit_invalidate_s | cache_hit_writeback_invalidate_s | cache_index_load_data_s
      | cache_index_store_data_s => exact keepsPrivileged_cache h rfl
  case add_s | sub_s | mul_s | div_s | sqrt_s | abs_s | neg_s | madd_s | msub_s | nmadd_s | nmsub_s | round_w_s
      | round_w_d | trunc_w_s | trunc_w_d | ceil_w_s | ceil_w_d | floor_w_s | floor_w_d | cvt_w_s | cvt_w_d | cvt_s_d
      | cvt_s_w | cvt_s_l =>
    exact keepsPrivileged_fpInstruction (fpEnd_privileged _ fun _ ht => ht.writeS _ _)
  case add_d | sub_d | mul_d | div_d | sqrt_d | abs_d | neg_d | madd_d | msub_d | nmadd_d | nmsub_d | add_ps | sub_ps
      | mul_ps | abs_ps | neg_ps | madd_ps | msub_ps | nmadd_ps | nmsub_ps | round_l_s | round_l_d | trunc_l_s
      | trunc_l_d | ceil_l_s | ceil_l_d | floor_l_s | floor_l_d | cvt_l_s | cvt_l_d | cvt_d_s | cvt_d_w | cvt_d_l =>
    exact keepsPrivileged_fpInstruction (fpEnd_privileged _ fun _ ht => ht.writeD _ _)
  case c_f_s | c_un_s | c_eq_s | c_ueq_s | c_olt_s | c_ult_s | c_ole_s | c_ule_s | c_sf_s | c_ngle_s | c_seq_s
      | c_ngl_s | c_lt_s | c_nge_s | c_le_s | c_ngt_s | c_f_d | c_un_d | c_eq_d | c_ueq_d | c_olt_d | c_ult_d
      | c_ole_d | c_ule_d | c_sf_d | c_ngle_d | c_seq_d | c_ngl_d | c_lt_d | c_nge_d | c_le_d | c_ngt_d | c_f_ps
      | c_un_ps | c_eq_ps | c_ueq_ps | c_olt_ps | c_ult_ps | c_ole_ps | c_ule_ps | c_sf_ps | c_ngle_ps | c_seq_ps
      | c_ngl_ps | c_lt_ps | c_nge_ps | c_le_ps | c_ngt_ps =>
    exact keepsPrivileged_fpInstruction (fpEnd_privileged _ fun _ ht => ht)
  case mov_s | mtc1 => exact keepsPrivileged_fpInstruction (hs.writeS _ _)
  case mov_d | mov_ps | dmtc1 => exact keepsPrivileged_fpInstruction (hs.writeD _ _)
  case mfc1 | dmfc1 | cfc1 => exact keepsPrivileged_fpInstruction (hs.writeGpr _ _)
  case ctc1 => exact keepsPrivileged_fpInstruction (writeFcr_privileged s _ _)

/-- Settles O14: with CP0 unusable every meaning keeps what coprocessor 0 holds or takes an exception, and the mode
depends on Status alone. -/
theorem userModeKeepsCp0 : Obligations.UserModeKeepsCp0 := by
  intro i s t hm hcu _ hexec htaken
  obtain ⟨hcp0, htlb, hitlb⟩ := (exec_keepsPrivileged ⟨hcu, hm.symm⟩ i).next hexec htaken
  refine ⟨hcp0, htlb, hitlb, ?_⟩
  unfold State.mode State.erl State.exl State.ksu
  rw [hcp0]

end Sys2Proof.Machine
end

section
/-! The return from an exception: `ExceptionReturn`. -/

namespace Sys2Proof.Machine

/-! ### Status after a return (R445, R631) -/

/-- ERET clears bit 2 of Status, ERL, if it was set, and bit 1, EXL, otherwise. -/
theorem getLsbD_status_returnFromException (s : State) (n : Nat) :
    (returnFromException s).cp0.status.getLsbD n =
      (s.cp0.status.getLsbD n && !decide (n = if s.erl then 2 else 1)) := by
  have hbit : ∀ (b : Word) (k : Nat), b = BitVec.twoPow 32 k →
      (s.cp0.status &&& ~~~b).getLsbD n = (s.cp0.status.getLsbD n && !decide (n = k)) := fun b k hb => by
    rw [hb, BitVec.getLsbD_and, BitVec.getLsbD_not, BitVec.getLsbD_twoPow]
    by_cases hn : n < 32
    · by_cases hk : n = k
      · simp [hk]
      · simp [hn, hk, Ne.symm hk]
    · simp [BitVec.getLsbD_of_ge s.cp0.status n (by omega)]
  unfold returnFromException
  dsimp only
  split
  · exact hbit 0x4 2 (by decide)
  · exact hbit 0x2 1 (by decide)

theorem erl_returnFromException (s : State) : (returnFromException s).erl = false := by
  rw [State.erl, getLsbD_status_returnFromException]
  cases h : s.erl with
  | true => exact Bool.and_false _
  | false => rw [← State.erl, h, Bool.false_and]

theorem exl_returnFromException (s : State) : (returnFromException s).exl = (s.erl && s.exl) := by
  rw [State.exl, getLsbD_status_returnFromException]
  cases s.erl <;> simp [State.exl]

theorem ksu_returnFromException (s : State) : (returnFromException s).ksu = s.ksu := by
  unfold State.ksu
  refine BitVec.eq_of_getLsbD_eq fun n _ => ?_
  rw [BitVec.getLsbD_extractLsb', BitVec.getLsbD_extractLsb', getLsbD_status_returnFromException]
  have hkept : ¬ 3 + n = if s.erl then 2 else 1 := by split <;> omega
  simp [hkept]

/-! ### The statement -/

theorem execEret_of_usable {s : State} (h : Cp0Usable s) :
    execEret s = if s.delay.isSome then .refused .delaySlotBranch else .next (returnFromException s) := by
  rw [execEret, ifCp0, checkCp0_of_usable h]

/-- Settles O17: only the bit of Status that ERET clears differs, so KSU names the mode once EXL and ERL are 0. -/
theorem exceptionReturn : Obligations.ExceptionReturn := by
  refine ⟨by decide, fun s h => ⟨fun hout => ⟨returnFromException s, ?_, ?_, rfl, rfl, erl_returnFromException s,
    fun herl => ?_, fun herl => ?_, fun n h1 h2 => ?_, fun herl hksu => ?_, fun herl hksu => ?_, rfl, ?_⟩,
    fun hin => ?_⟩⟩
  · exact (execEret_of_usable h).trans (by simp [hout])
  · simp [returnFromException]
  · rw [exl_returnFromException, herl, Bool.true_and]
  · rw [exl_returnFromException, herl, Bool.false_and]
  · have hkept : ¬ n = if s.erl then 2 else 1 := by split <;> assumption
    simp [getLsbD_status_returnFromException, hkept]
  · rw [mode_user_iff, exl_returnFromException, erl_returnFromException, ksu_returnFromException, herl]
    exact ⟨rfl, rfl, hksu⟩
  · rw [mode_supervisor_iff, exl_returnFromException, erl_returnFromException, ksu_returnFromException, herl]
    exact ⟨rfl, rfl, hksu⟩
  · exact ⟨fun _ => rfl, fun _ => rfl, fun _ => rfl, fun _ => rfl, fun _ => rfl⟩
  · exact (execEret_of_usable h).trans (if_pos (Option.isSome_iff_ne_none.mpr hin))

end Sys2Proof.Machine
end

section
/-! The checks of CACHE, and the instructions of a coprocessor that may not be used: `CacheChecks` and
`CoprocessorUnusable`. -/

namespace Sys2Proof.Machine

variable {i : Instr} {s : State} {va : Dword}

/-! ### CACHE (R450) -/

/-- A usable CACHE instruction works on the address that is translated as for a load. -/
theorem exec_cache_usable {a : CacheOperands} (hi : cacheOperandsOf i = some a) (h : CacheUsable s a.userOperation) :
    exec i s = ((cacheAddress s (addressOf s a.base a.offset)).bind fun pa t =>
      cacheOperationOf i (addressOf s a.base a.offset) pa t).finish := by
  rw [exec_cache hi, addressOf_eq, cacheInstruction, checkCache_of_usable h, Res.bind_ok]

theorem cacheAddress_of_raise {e : Exc} {u : State} (h : translate s .load va = .raise e u) :
    cacheAddress s va = .raise e s := by
  have hu : u = s := by
    have hs := translate_data_state (k := .load) (by decide) s va
    rwa [h] at hs
  rw [cacheAddress, h, hu, Res.bind_raise]

theorem cacheAddress_of_uncached {pa : BitVec 40} {c : BitVec 3} (h : translate s .load va = .ok (pa, c) s)
    (hc : c ≠ 3) : cacheAddress s va = .refuse .uncachedCacheOp := by
  rw [cacheAddress, h, Res.bind_ok, if_neg hc]

theorem cacheAddress_of_cached {pa : BitVec 40} (h : translate s .load va = .ok (pa, 3) s) :
    cacheAddress s va = .ok pa s := by
  rw [cacheAddress, h, Res.bind_ok, if_pos rfl]

/-- Settles O48: every row checks its address before its operation, and the general row has none. -/
theorem cacheChecks : Obligations.CacheChecks := by
  refine ⟨fun i a s hi h => ⟨fun e u ht => ?_, fun pa c ht hc => ?_⟩, fun s base op offset pa h _ ht => ?_⟩
  · rw [exec_cache_usable hi h, cacheAddress_of_raise ht, Res.bind_raise, Res.finish_raise]
  · rw [exec_cache_usable hi h, cacheAddress_of_uncached ht hc, Res.bind_refuse, Res.finish_refuse]
  · rw [exec_cache_usable (a := ⟨base, offset, false⟩) rfl (.inl h), cacheAddress_of_cached ht]
    rfl

/-! ### Coprocessor 1 (R27, R480) -/

theorem fpInstruction_of_unusable (h : s.cu 1 = false) (k : State → Res Unit) :
    fpInstruction s k = .next (takeException (.coprocessorUnusable 1) s) := by
  rw [fpInstruction_eq, h, if_neg (by decide)]

theorem ifCp1_of_unusable (h : s.cu 1 = false) (o : Outcome) :
    ifCp1 s o = .next (takeException (.coprocessorUnusable 1) s) := by
  simp [ifCp1, checkCp1, h]

/-- The meaning of every instruction of coprocessor 1 begins with the check. -/
theorem exec_cp1_unusable (h : s.cu 1 = false) (hi : usesCp1 i) :
    exec i s = .next (takeException (.coprocessorUnusable 1) s) := by
  cases i
  case bc1f | bc1t | bc1fl | bc1tl => exact ifCp1_of_unusable h _
  case lwc1 | ldc1 | swc1 | sdc1 => exact fpInstruction_of_unusable h _
  case add_s | sub_s | mul_s | div_s | sqrt_s | abs_s | neg_s | mov_s | madd_s | msub_s | nmadd_s | nmsub_s
      | add_d | sub_d | mul_d | div_d | sqrt_d | abs_d | neg_d | mov_d | madd_d | msub_d | nmadd_d | nmsub_d
      | add_ps | sub_ps | mul_ps | abs_ps | neg_ps | mov_ps | madd_ps | msub_ps | nmadd_ps | nmsub_ps =>
    exact fpInstruction_of_unusable h _
  case round_w_s | round_w_d | trunc_w_s | trunc_w_d | ceil_w_s | ceil_w_d | floor_w_s | floor_w_d | cvt_w_s | cvt_w_d
      | cvt_s_d | cvt_s_w | cvt_s_l | round_l_s | round_l_d | trunc_l_s | trunc_l_d | ceil_l_s | ceil_l_d | floor_l_s
      | floor_l_d | cvt_l_s | cvt_l_d | cvt_d_s | cvt_d_w | cvt_d_l => exact fpInstruction_of_unusable h _
  case c_f_s | c_un_s | c_eq_s | c_ueq_s | c_olt_s | c_ult_s | c_ole_s | c_ule_s | c_sf_s | c_ngle_s | c_seq_s
      | c_ngl_s | c_lt_s | c_nge_s | c_le_s | c_ngt_s | c_f_d | c_un_d | c_eq_d | c_ueq_d | c_olt_d | c_ult_d
      | c_ole_d | c_ule_d | c_sf_d | c_ngle_d | c_seq_d | c_ngl_d | c_lt_d | c_nge_d | c_le_d | c_ngt_d | c_f_ps
      | c_un_ps | c_eq_ps | c_ueq_ps | c_olt_ps | c_ult_ps | c_ole_ps | c_ule_ps | c_sf_ps | c_ngle_ps | c_seq_ps
      | c_ngl_ps | c_lt_ps | c_nge_ps | c_le_ps | c_ngt_ps => exact fpInstruction_of_unusable h _
  case mtc1 | dmtc1 | mfc1 | dmfc1 | cfc1 | ctc1 => exact fpInstruction_of_unusable h _
  all_goals exact absurd hi (by simp [usesCp1, encode])

/-! ### Coprocessor 0 (R430, R434, R450) -/

theorem moveFromCp0_of_unusable (h : Cp0Unusable s) {rt rd : Reg} (hrd : ¬ (rd = 24 ∨ rd = 25))
    (view : Dword → Dword) : moveFromCp0 s rt rd view = .next (takeException (.coprocessorUnusable 0) s) := by
  rw [moveFromCp0, if_neg (by simpa using hrd), cp0Instruction_of_unusable h]

theorem exec_cache_unusable (h : Cp0Unusable s) {a : CacheOperands} (hi : cacheOperandsOf i = some a)
    (hbit : a.userOperation = true → s.mode = some .user → s.cp0.diagnostic.getLsbD 8 = false) :
    exec i s = .next (takeException (.coprocessorUnusable 0) s) := by
  rw [exec_cache hi, cacheInstruction, checkCache_of_unusable h hbit, Res.bind_raise, Res.finish_raise]

/-- The meaning of every instruction of coprocessor 0 begins with the check, but for the reads of the counters. -/
theorem exec_cp0_unusable (h : Cp0Unusable s) (hi : usesCp0 i) (hr : ¬ readsCounters i)
    (hbit : ∀ a, cacheOperandsOf i = some a → a.userOperation = true → s.mode = some .user →
      s.cp0.diagnostic.getLsbD 8 = false) : exec i s = .next (takeException (.coprocessorUnusable 0) s) := by
  cases i
  case mfc0 => exact moveFromCp0_of_unusable h hr fun v => sext32 (low32 v)
  case dmfc0 => exact moveFromCp0_of_unusable h hr id
  case mtc0 | dmtc0 | tlbp | tlbr | tlbwi | tlbwr => exact cp0Instruction_of_unusable h _
  case eret => exact execEret_of_unusable h
  case cache | cache_index_invalidate_i | cache_index_writeback_invalidate_d | cache_index_load_tag_d
      | cache_index_store_tag_d | cache_hit_invalidate_d | cache_hit_writeback_invalidate_d | cache_index_load_data_d
      | cache_index_store_data_d | cache_index_writeback_invalidate_s | cache_index_load_tag_s
      | cache_index_store_tag_s | cache_hit_invalidate_s | cache_hit_writeback_invalidate_s | cache_index_load_data_s
      | cache_index_store_data_s => exact exec_cache_unusable h rfl (hbit _ rfl)
  all_goals exact absurd hi (by simp [usesCp0, encode])

/-- Settles O44: the check comes before anything else that the instruction does. -/
theorem coprocessorUnusable : Obligations.CoprocessorUnusable :=
  ⟨fun _ _ hi h => exec_cp1_unusable h hi, fun _ _ hi hr hcu hm hbit => exec_cp0_unusable ⟨hcu, hm⟩ hi hr hbit⟩

end Sys2Proof.Machine
end

section
/-! Reading the CP0 registers by number: `ReadsOfCp0`. -/

namespace Sys2Proof.Machine

variable {s : State} {i : Instr} {rt rd : Reg}

/-! ### Words made of fields -/

/-- A value made of two fields, as a number. -/
theorem toNat_append_eq_add {m n : Nat} (x : BitVec m) (y : BitVec n) : (x ++ y).toNat = x.toNat * 2 ^ n + y.toNat := by
  rw [BitVec.toNat_append, ← Nat.shiftLeft_add_eq_or_of_lt y.isLt, Nat.shiftLeft_eq]

theorem append_eq_ofNat {m n : Nat} (x : BitVec m) (y : BitVec n) :
    x ++ y = BitVec.ofNat (m + n) (x.toNat * 2 ^ n + y.toNat) := by
  rw [← toNat_append_eq_add, BitVec.ofNat_toNat, BitVec.setWidth_eq]

/-- A word below 2 ^ 31 is its own sign extension. -/
theorem sext32_of_small {x : Word} {n : Nat} (hx : x.toNat = n) (hn : n < 2 ^ 31) : sext32 x = BitVec.ofNat 64 n := by
  rw [sext32, BitVec.signExtend_eq_setWidth_of_msb_false (by rw [BitVec.msb_eq_decide]; simp; omega)]
  rw [← hx, BitVec.ofNat_toNat]

theorem sext32_low32 (v : Dword) : sext32 (low32 v) = signedOf 32 v.toNat := by
  rw [sext32_eq_signedOf, low32_toNat, signedOf, signedOf, Int.natCast_emod, Int.emod_bmod]

theorem indexWord_toNat (c : Cp0) : c.indexWord.toNat = c.indexP.toNat * 2 ^ 31 + c.index.toNat := by
  rw [Cp0.indexWord, toNat_append_eq_add, toNat_append_eq_add, BitVec.toNat_ofBool]
  simp
  omega

theorem causeWord_toNat (s : State) :
    s.causeWord.toNat = s.cp0.cause.bd.toNat * 2 ^ 31 + s.cp0.cause.ce.toNat * 2 ^ 28 + s.causeIp.toNat * 2 ^ 8 +
      s.cp0.cause.excCode.toNat * 2 ^ 2 := by
  simp only [State.causeWord, toNat_append_eq_add, BitVec.toNat_ofBool, BitVec.toNat_zero, BitVec.ofNat_eq_ofNat]
  omega

/-- PRID has its revision below the implementation number, as a sum. -/
theorem pridWord_toNat (s : State) : s.pridWord.toNat = 0x6300 + s.params.pridRev.toNat := by
  rw [State.pridWord, toNat_or_of_disjoint (k := 8) (a := 0x63) rfl (by bv_omega)]
  simp
  bv_omega

/-- Config has K0 below its fixed fields, as a sum. -/
theorem configWord_toNat (c : Cp0) : c.configWord.toNat = 0x30930 + c.k0.toNat := by
  rw [Cp0.configWord, toNat_or_of_disjoint (k := 4) (a := 0x3093) rfl (by bv_omega)]
  simp
  bv_omega

/-! ### The moves from CP0 (R431, R433, R434) -/

/-- A move from CP0 writes what it sees of the register, for the counters in every mode. -/
theorem setsRegister_of_moveFromCp0 {view : Dword → Dword} (he : exec i s = moveFromCp0 s rt rd view)
    (h : Cp0Usable s ∨ rd = 24 ∨ rd = 25) : SetsRegister i s rt (view (s.readCp0 rd)) := by
  refine setsRegister_of_writeGpr (he.trans ?_)
  unfold moveFromCp0
  split
  · rfl
  · next hrd =>
    rw [cp0Instruction_usable (h.resolve_right (by simpa using hrd)), Res.finish_ok]

theorem setsRegister_reads (h : Cp0Usable s ∨ rd = 24 ∨ rd = 25) {v : Dword} (hv : s.readCp0 rd = v) :
    SetsRegister (.dmfc0 rt rd) s rt v ∧ SetsRegister (.mfc0 rt rd) s rt (signedOf 32 v.toNat) := by
  subst hv
  refine ⟨setsRegister_of_moveFromCp0 (view := id) rfl h, ?_⟩
  rw [← sext32_low32]
  exact setsRegister_of_moveFromCp0 (view := fun v => sext32 (low32 v)) rfl h

/-- Settles O45: the value of each number is its field or the number that its fields make. -/
theorem readsOfCp0 : Obligations.ReadsOfCp0 := by
  intro s rt c cause values
  have hread : ∀ p ∈ values, s.readCp0 p.1 = p.2 := by
    simp only [values, List.forall_mem_cons]
    refine ⟨?_, ?_, rfl, rfl, rfl, ?_, ?_, rfl, rfl, ?_, rfl, ?_, ?_, ?_, rfl, ?_, ?_, rfl, rfl, rfl, rfl, rfl, rfl, rfl,
      ?_, rfl, rfl, ?_, ?_, rfl, rfl, nofun⟩
    · exact (sext32_eq_signedOf _).trans (congrArg (signedOf 32) (indexWord_toNat c))
    · exact (BitVec.ofNat_toNat 64 c.random).symm
    · exact sext32_eq_signedOf c.pageMask
    · exact (BitVec.ofNat_toNat 64 c.wired).symm
    · exact sext32_eq_signedOf c.count
    · exact sext32_eq_signedOf c.compare
    · exact sext32_eq_signedOf c.status
    · exact (sext32_eq_signedOf _).trans (congrArg (signedOf 32) (causeWord_toNat s))
    · exact sext32_of_small (pridWord_toNat s) (by bv_omega)
    · exact sext32_of_small (configWord_toNat c) (by bv_omega)
    · exact append_eq_ofNat c.perf1 c.perf0
    · exact sext32_eq_signedOf c.tagLo
    · exact sext32_eq_signedOf c.tagHi
  exact ⟨fun p hp h => setsRegister_reads h (hread p hp), fun h => ⟨_, setsRegister_reads (.inl h) rfl⟩⟩

end Sys2Proof.Machine
end

section
/-! Writing the CP0 registers by number: `WritesOfCp0`. -/

namespace Sys2Proof.Machine

variable {s : State} {i : Instr}

/-! ### Fields of a doubleword -/

theorem extractLsb'_eq_ofNat {w : Nat} (x : BitVec w) (start len : Nat) :
    x.extractLsb' start len = BitVec.ofNat len (x.toNat / 2 ^ start) := by
  rw [BitVec.extractLsb', Nat.shiftRight_eq_div_pow]

/-- The bits from `k` on of a new value joined to the low bits of the old one. -/
theorem join_highMask {k : Nat} {mask : Dword} (hm : mask = ~~~BitVec.ofNat 64 (2 ^ k - 1)) (new old : Dword) :
    (new &&& mask) ||| (old &&& ~~~mask) = BitVec.ofNat 64 (new.toNat / 2 ^ k * 2 ^ k + old.toNat % 2 ^ k) := by
  have hhigh : (new &&& mask).toNat = new.toNat / 2 ^ k * 2 ^ k := by rw [hm, toNat_and_not_lowMask]
  have hlow : (old &&& ~~~mask).toNat = old.toNat % 2 ^ k := by rw [hm, BitVec.not_not, toNat_and_lowMask]
  rw [← hlow, ← toNat_or_of_disjoint hhigh (by rw [hlow]; exact Nat.mod_lt _ (Nat.two_pow_pos k)), BitVec.ofNat_toNat,
    BitVec.setWidth_eq]

/-! ### The moves to CP0 (R432, R435, R436) -/

/-- A write of a CP0 register changes CP0 and, for an order to empty it, the ITLB. -/
theorem writeCp0_spec (s : State) (n : Reg) (v : Dword) :
    s.writeCp0 n v = { s with cp0 := s.cp0.write n v, itlb := (s.writeCp0 n v).itlb } ∧
      ∀ m : Fin 16, (s.writeCp0 n v).itlb[m] = if n = 22 ∧ v.getLsbD 2 = true then none else s.itlb[m] := by
  by_cases h : n = 22 ∧ v.getLsbD 2 = true
  · have hw : s.writeCp0 n v = (s.setCp0 (s.cp0.write n v)).emptyItlb := if_pos (by simpa using h)
    rw [hw]
    exact ⟨rfl, fun m => by simp [State.emptyItlb, h]⟩
  · have hw : s.writeCp0 n v = s.setCp0 (s.cp0.write n v) := if_neg (by simpa using h)
    rw [hw]
    exact ⟨rfl, fun m => (if_neg h).symm⟩

/-- What an instruction that writes a CP0 register has done when it is through. -/
theorem completes_of_writeCp0 {n : Reg} {v : Dword} {c : Cp0} (he : exec i s = .next (s.writeCp0 n v).advance)
    (hc : s.cp0.write n v = c) :
    Completes i s fun t => t = { s with cp0 := c, itlb := t.itlb, pc := t.pc, delay := t.delay } ∧
      ∀ m : Fin 16, t.itlb[m] = if n = 22 ∧ v.getLsbD 2 = true then none else s.itlb[m] := by
  subst hc
  obtain ⟨hframe, hitlb⟩ := writeCp0_spec s n v
  generalize s.writeCp0 n v = u at he hframe hitlb
  refine ⟨_, he, ⟨?_, hitlb⟩, goesOn_advance ?_ ?_⟩
  all_goals rw [hframe]
  rfl

/-- Settles O46: each number writes the bits under its mask. -/
theorem writesOfCp0 : Obligations.WritesOfCp0 := by
  intro s rt h c low after writes
  have hwrite : ∀ v, ∀ p ∈ after v, c.write p.1 v = p.2 := by
    intro v
    simp only [after, List.forall_mem_cons]
    refine ⟨rfl, rfl, rfl, rfl, ?_, rfl, rfl, rfl, rfl, rfl, rfl, rfl, rfl, ?_, rfl, rfl, rfl, rfl, rfl, rfl, ?_, rfl,
      rfl, rfl, rfl, ?_, rfl, rfl, rfl, rfl, rfl, rfl, nofun⟩
    · exact congrArg (fun x => { c with context := x })
        (join_highMask (k := 23) (mask := contextMask) (by decide) v c.context)
    · exact congrArg (fun x => { c with cause := { c.cause with sw := x } }) (extractLsb'_eq_ofNat v 8 2)
    · exact congrArg (fun x => { c with xcontext := x })
        (join_highMask (k := 33) (mask := xcontextMask) (by decide) v c.xcontext)
    · exact congrArg (fun x => { c with perf1 := x, perf0 := low v }) (extractLsb'_eq_ofNat v 32 32)
  refine ⟨fun p hp => completes_of_writeCp0 ?_ (hwrite _ p hp), fun p hp => completes_of_writeCp0 ?_ (hwrite _ p hp)⟩
  · exact cp0Instruction_usable h _
  · rw [← sext32_low32]
    exact cp0Instruction_usable h _

end Sys2Proof.Machine
end

section
/-! The TLB instructions: `TlbInstructions`. -/

namespace Sys2Proof.Machine

variable {s : State} {i : Instr}

/-! ### The registers of an entry (R33, R35, R40, R441) -/

theorem vpn2Mask_eq_setWidth (mask : BitVec 12) : vpn2Mask mask = mask.setWidth 27 := by
  refine BitVec.eq_of_getLsbD_eq fun b hb => ?_
  rw [getLsbD_vpn2Mask, BitVec.getLsbD_setWidth, decide_eq_true hb, Bool.true_and]

theorem pageMaskOfEntry_eq (e : TlbEntry) : pageMaskOfEntry e = BitVec.ofNat 32 (e.mask.toNat * 2 ^ 13) := by
  rw [pageMaskOfEntry, append_eq_ofNat, toNat_append_eq_add]
  simp

theorem entryHiOfEntry_eq (e : TlbEntry) :
    entryHiOfEntry e = BitVec.ofNat 64
      (e.r.toNat * 2 ^ 62 + (e.vpn2 &&& ~~~(e.mask.setWidth 27)).toNat * 2 ^ 13 + e.asid.toNat) := by
  rw [entryHiOfEntry, append_eq_ofNat, vpn2Mask_eq_setWidth]
  simp only [toNat_append_eq_add, BitVec.ofNat_eq_ofNat, BitVec.toNat_ofNat]
  refine congrArg (BitVec.ofNat 64) ?_
  omega

theorem entryLoOfPage_eq (p : TlbPage) (g : Bool) :
    entryLoOfPage p g = BitVec.ofNat 64
      (p.e.toNat * 2 ^ 61 + p.pfn.toNat * 2 ^ 6 + p.c.toNat * 2 ^ 3 + p.d.toNat * 2 ^ 2 + p.v.toNat * 2 + g.toNat) := by
  rw [entryLoOfPage, append_eq_ofNat]
  simp only [toNat_append_eq_add, BitVec.toNat_ofBool, BitVec.ofNat_eq_ofNat, BitVec.toNat_ofNat]
  refine congrArg (BitVec.ofNat 64) ?_
  omega

/-! ### What an instruction of coprocessor 0 has done when it is through -/

/-- An instruction that replaces CP0 changes nothing else. -/
theorem completes_of_setCp0 {c : Cp0} (he : exec i s = (Res.ok () (s.setCp0 c)).finish) :
    Completes i s fun t => t.cp0 = c ∧ OnlyCp0 s t :=
  ⟨(s.setCp0 c).advance, he, ⟨rfl, rfl, fun _ => rfl, fun _ => rfl, fun _ => rfl, fun _ => rfl, fun _ => rfl⟩,
    goesOn_advance rfl rfl⟩

/-- An instruction that writes a legal entry changes that entry and nothing else. -/
theorem completes_of_writeTlbEntry {n : BitVec 6} {e : TlbEntry} (he : exec i s = (writeTlbEntry s n).finish)
    (hl : legalMask s.pageMaskField = true) (hentry : s.entryToWrite = e) :
    Completes i s fun t => (∀ j : Fin 64, t.tlb[j] = if j.val = n.toNat then e else s.tlb[j]) ∧
      t = { s with tlb := t.tlb, pc := t.pc, delay := t.delay } ∧ SameMemory s t := by
  rw [writeTlbEntry, if_pos hl, hentry] at he
  refine ⟨(s.setTlb n e).advance, he, ⟨fun j => ?_, rfl, fun _ => rfl, fun _ => rfl, fun _ => rfl, fun _ => rfl,
    fun _ => rfl⟩, goesOn_advance rfl rfl⟩
  simp [State.setTlb, Vector.getElem_set, eq_comm]

theorem entryToWrite_eq (s : State) :
    let page (lo : Dword) : TlbPage :=
      { e := lo.getLsbD 61, pfn := BitVec.ofNat 28 (lo.toNat / 2 ^ 6), c := BitVec.ofNat 3 (lo.toNat / 2 ^ 3)
        d := lo.getLsbD 2, v := lo.getLsbD 1 }
    s.entryToWrite =
      { mask := s.pageMaskField, r := BitVec.ofNat 2 (s.cp0.entryHi.toNat / 2 ^ 62)
        vpn2 := BitVec.ofNat 27 (s.cp0.entryHi.toNat / 2 ^ 13) &&& ~~~(s.pageMaskField.setWidth 27)
        g := s.cp0.entryLo0.getLsbD 0 && s.cp0.entryLo1.getLsbD 0
        asid := BitVec.ofNat 8 s.cp0.entryHi.toNat, even := page s.cp0.entryLo0, odd := page s.cp0.entryLo1 } := by
  dsimp only
  rw [State.entryToWrite, vpn2Mask_eq_setWidth]
  simp only [pageOfEntryLo, extractLsb'_eq_ofNat, State.asid]
  simp

/-- Settles O47: a probe is the lookup of R120, and entries and registers have the same fields. -/
theorem tlbInstructions : Obligations.TlbInstructions := by
  intro s h
  refine ⟨fun i hi => completes_of_setCp0 ?_, fun hno => ?_, ?_, fun hmask => ?_⟩
  · exact (cp0Instruction_usable h probeTlb).trans (by rw [probeTlb, tlbLookup_found hi])
  · have he := (cp0Instruction_usable h probeTlb).trans (by rw [probeTlb, tlbLookup_miss hno])
    obtain ⟨t, ht, ⟨hcp0, honly⟩, hgoes⟩ := completes_of_setCp0 (i := .tlbp) he
    exact ⟨t, ht, ⟨by rw [hcp0], honly⟩, hgoes⟩
  · intro e lo
    simp only [lo, ← entryLoOfPage_eq, ← entryHiOfEntry_eq, ← pageMaskOfEntry_eq]
    exact completes_of_setCp0 (cp0Instruction_usable h _)
  · have hl := (legalMask_iff s.pageMaskField).mpr hmask
    exact ⟨completes_of_writeTlbEntry (cp0Instruction_usable h _) hl (entryToWrite_eq s),
      completes_of_writeTlbEntry (cp0Instruction_usable h _) hl (entryToWrite_eq s)⟩

end Sys2Proof.Machine
end

section
/-! SUPPORT. The operands of the CACHE operations: which line and which doubleword an address names, what TagHi and TagLo
hold as one number, and when a line holds an address (R451 to R465). -/

namespace Sys2Proof.Machine

variable {s u : State} {i : Instr} {pa : BitVec 40} {va : Dword}

/-! ### Lines that an address names -/

theorem primarySet_eq (va : Dword) : primarySet va = va.toNat / 32 % 512 := by
  rw [primarySet, BitVec.extractLsb'_toNat, Nat.shiftRight_eq_div_pow]

theorem secondarySet_eq (pa : BitVec 40) : secondarySet pa = pa.toNat / 32 % 4096 := by
  rw [secondarySet, BitVec.extractLsb'_toNat, Nat.shiftRight_eq_div_pow]

theorem dataKey_eq (va : Dword) : dataKey va = lineKey (va.toNat / 32 % 512) (va.toNat % 4) := by
  rw [dataKey, primarySet_eq, extract_two_toNat]

theorem secondaryKey_eq (pa : BitVec 40) : secondaryKey pa = lineKey (pa.toNat / 32 % 4096) (pa.toNat % 4) := by
  rw [secondaryKey, secondarySet_eq, extract_two_toNat]

theorem mem_waysOf_iff {set k : Nat} : k ∈ waysOf set ↔ k / 4 = set := by
  simp only [waysOf, lineKey, List.mem_cons, List.not_mem_nil, or_false]
  omega

theorem dLine_matches_iff (l : DLine) (pa : BitVec 40) :
    l.matches pa = true ↔ l.cs ≠ 0 ∧ l.tag.toNat = pa.toNat / 4096 := by
  have htag : (pa.extractLsb' 12 28).toNat = pa.toNat / 4096 := by
    rw [BitVec.extractLsb'_toNat, Nat.shiftRight_eq_div_pow]
    omega
  simp [DLine.matches, ← BitVec.toNat_inj, htag]

theorem sLine_matches_iff (l : SLine) (pa : BitVec 40) :
    l.matches pa = true ↔ l.state ≠ 0 ∧ l.tag.toNat = pa.toNat / 2 ^ 17 := by
  have htag : (pa.extractLsb' 17 23).toNat = pa.toNat / 2 ^ 17 := by
    rw [BitVec.extractLsb'_toNat, Nat.shiftRight_eq_div_pow]
    omega
  simp [SLine.matches, ← BitVec.toNat_inj, htag]

/-! ### Doublewords of a line (R457, R458, R464, R465) -/

theorem doublewordNat_eq (d : LineData) (a : Nat) : doublewordNat d a = (d.extractLsb' (64 * a) 64).toNat := by
  rw [doublewordNat, lineNat, BitVec.extractLsb'_toNat, Nat.shiftRight_eq_div_pow, ← Nat.mul_assoc]

/-- The doubleword that an Index Load Data operation reads. -/
theorem shifted_doubleword (d : LineData) (a : BitVec 2) :
    ((d >>> doublewordShift a).extractLsb' 0 64).toNat = doublewordNat d a.toNat := by
  rw [doublewordNat_eq, doublewordShift]
  refine congrArg BitVec.toNat (BitVec.eq_of_getLsbD_eq fun n hn => ?_)
  simp [hn]

/-- The doublewords of a line after one of them is replaced. -/
theorem extract_setDoubleword (d : LineData) (a : BitVec 2) (v : Dword) {j : Nat} (hj : j < 4) :
    (setDoubleword d a v).extractLsb' (64 * j) 64 = if j = a.toNat then v else d.extractLsb' (64 * j) 64 := by
  have hmask : (0xFFFFFFFFFFFFFFFF : LineData) = BitVec.ofNat 256 (2 ^ 64 - 1) := rfl
  refine BitVec.eq_of_getLsbD_eq fun n hn => ?_
  have hsub : ∀ b : Nat, j = b → 64 * j + n - 64 * b = n := fun b hb => by omega
  rw [BitVec.getLsbD_extractLsb', setDoubleword, BitVec.getLsbD_or, BitVec.getLsbD_and, BitVec.getLsbD_not, hmask,
    BitVec.getLsbD_shiftLeft, BitVec.getLsbD_shiftLeft, getLsbD_lowMask, BitVec.getLsbD_setWidth, doublewordShift]
  by_cases h : j = a.toNat
  · rw [if_pos h, hsub _ h]
    have hlt : 64 * j + n < 256 := by omega
    have hge : ¬ 64 * j + n < 64 * a.toNat := by omega
    simp [hn, hlt, hge, show n < 256 by omega]
  · rw [if_neg h, BitVec.getLsbD_extractLsb']
    have hlt : 64 * j + n < 256 := by omega
    rcases Nat.lt_or_gt_of_ne h with hj' | hj'
    · have hlow : 64 * j + n < 64 * a.toNat := by omega
      simp [hn, hlt, hlow]
    · have hge : ¬ 64 * j + n < 64 * a.toNat := by omega
      have hhigh : ¬ 64 * j + n - 64 * a.toNat < 64 := by omega
      simp [hn, hlt, hge, hhigh, BitVec.getLsbD_of_ge v _ (Nat.not_lt.mp hhigh)]

theorem withDoubleword_setDoubleword (d : LineData) (a : BitVec 2) (v : Dword) :
    WithDoubleword d (setDoubleword d a v) a.toNat v.toNat := by
  refine ⟨?_, fun j hj hne => ?_⟩
  · rw [doublewordNat_eq, extract_setDoubleword d a v a.isLt, if_pos rfl]
  · rw [doublewordNat_eq, doublewordNat_eq, extract_setDoubleword d a v hj, if_neg hne]

theorem doubleword_toNat {w : Nat} (x : BitVec w) : (x.extractLsb' 3 2).toNat = x.toNat / 8 % 4 := by
  rw [BitVec.extractLsb'_toNat, Nat.shiftRight_eq_div_pow]

/-! ### TagHi and TagLo as one number (D17) -/

theorem tagData_toNat (s : State) : s.tagData.toNat = s.cp0.tagHi.toNat * 2 ^ 32 + s.cp0.tagLo.toNat :=
  toNat_append_eq_add _ _

theorem onlyTags_setTagData (s : State) (v : Dword) : OnlyTags s (s.setTagData v).advance v.toNat := by
  rw [OnlyTags, ← extractLsb'_eq_ofNat v 32 32]
  rfl

/-! ### A CACHE instruction that completes -/

/-- A usable operation at a cached address does what its row says. -/
theorem completes_of_cache {a : CacheOperands} {P : State → Prop} (hi : cacheOperandsOf i = some a)
    (h : CacheUsable s a.userOperation) (ht : translate s .load (addressOf s a.base a.offset) = .ok (pa, 3) s)
    (hop : cacheOperationOf i (addressOf s a.base a.offset) pa s = .ok () u) (hpc : u.pc = s.pc)
    (hdelay : u.delay = s.delay) (hP : P u.advance) : Completes i s P := by
  refine ⟨u.advance, ?_, hP, goesOn_advance hpc hdelay⟩
  rw [exec_cache_usable hi h, cacheAddress_of_cached ht, Res.bind_ok, hop]
  rfl

end Sys2Proof.Machine
end

section
/-! The operations of CACHE on the primary caches: `PrimaryCacheOperations`. -/

namespace Sys2Proof.Machine

variable {s t u : State} {pa : BitVec 40}

/-! ### Lines that an operation evicts one after the other (R456, R462, R463) -/

/-- Evict the lines that are hit, among some lines. -/
def evictEach (hit : State → Nat → Bool) (evict : State → Nat → Res Unit) (s : State) : List Nat → Res Unit
  | [] => .ok () s
  | k :: ks => if hit s k then (evict s k).bind fun _ t => evictEach hit evict t ks else evictEach hit evict s ks

section
variable {hit : State → Nat → Bool} {evict : State → Nat → Res Unit} {j : Nat} {keys : List Nat}

theorem evictEach_of_none (h : ∀ k ∈ keys, hit s k = false) : evictEach hit evict s keys = .ok () s := by
  induction keys with
  | nil => rfl
  | cons k ks ih =>
    rw [List.forall_mem_cons] at h
    rw [evictEach, if_neg (by simp [h.1]), ih h.2]

/-- One line alone is hit, and after its eviction none is. -/
theorem evictEach_of_one (hj : j ∈ keys) (hhit : hit s j = true) (hone : ∀ k ∈ keys, k ≠ j → hit s k = false)
    (hevict : evict s j = .ok () u) (hu : ∀ k ∈ keys, hit u k = false) : evictEach hit evict s keys = .ok () u := by
  induction keys with
  | nil => cases hj
  | cons k ks ih =>
    rw [List.forall_mem_cons] at hone hu
    by_cases hk : k = j
    · subst hk
      rw [evictEach, if_pos hhit, hevict, Res.bind_ok, evictEach_of_none hu.2]
    · have hmem : j ∈ ks := List.mem_of_ne_of_mem (Ne.symm hk) hj
      rw [evictEach, if_neg (by simp [hone.1 hk]), ih hmem hone.2 hu.2]

end

theorem evictMatchingD_eq (s : State) (pa : BitVec 40) (keys : List Nat) :
    evictMatchingD s pa keys = evictEach (fun t k => (t.dLine k).matches pa) evictData s keys := by
  induction keys generalizing s with
  | nil => rfl
  | cons k ks ih => simp only [evictMatchingD, evictEach, ih]

/-! ### Invalidating lines (R451, R455) -/

theorem invalidate_of_invalid {l : ILine} (h : l.valid = false) : { l with valid := false } = l := by
  rw [← h]

theorem onlyIcache_advance (h : u = { s with icache := u.icache }) :
    u.advance = { s with icache := u.advance.icache, pc := u.advance.pc, delay := u.advance.delay } := by
  rw [h]
  rfl

theorem onlyDcache_advance (h : u = { s with dcache := u.dcache }) :
    u.advance = { s with dcache := u.advance.dcache, pc := u.advance.pc, delay := u.advance.delay } := by
  rw [h]
  rfl

theorem indexInvalidateI_spec (h : s.canonical) (va : Dword) :
    (∀ j, (indexInvalidateI s va).iLine j =
      if j / 4 = va.toNat / 32 % 512 then { s.iLine j with valid := false } else s.iLine j) ∧
    indexInvalidateI s va = { s with icache := (indexInvalidateI s va).icache } := by
  have hclears := foldl_clears (get := State.iLine) (hit := ILine.valid) (clear := fun l => { l with valid := false })
    (P := fun t => t.canonical ∧ t = { s with icache := t.icache }) (step := State.invalidateI) (s := s)
    (keys := waysOf (primarySet va)) (fun _ => rfl) (fun t k _ ht => ?_) ⟨h, rfl⟩
  · obtain ⟨⟨-, hframe⟩, hline⟩ := hclears
    refine ⟨fun j => (hline j).trans ?_, hframe⟩
    simp only [mem_waysOf_iff, primarySet_eq]
    cases hv : (s.iLine j).valid <;> simp [invalidate_of_invalid, hv]
  · obtain ⟨hcan, hframe⟩ := ht
    refine ⟨⟨invalidateI_canonical hcan k, ?_⟩, fun j => ?_⟩
    · rw [hframe]
      rfl
    · rw [iLine_invalidateI hcan]
      by_cases hj : j = k
      · subst hj
        cases hv : (t.iLine j).valid <;> simp [invalidate_of_invalid, hv]
      · simp [hj]

theorem hitInvalidateD_spec (h : s.canonical) (va : Dword) (pa : BitVec 40) :
    (∀ j, (hitInvalidateD s va pa).dLine j =
      if j / 4 = va.toNat / 32 % 512 ∧ (s.dLine j).cs ≠ 0 ∧ (s.dLine j).tag.toNat = pa.toNat / 4096
      then { s.dLine j with cs := 0, w := false } else s.dLine j) ∧
    hitInvalidateD s va pa = { s with dcache := (hitInvalidateD s va pa).dcache } := by
  have hclears := foldl_clears (get := State.dLine) (hit := (·.matches pa))
    (clear := fun l => { l with cs := 0, w := false }) (P := fun t => t.canonical ∧ t = { s with dcache := t.dcache })
    (step := fun t k => if (t.dLine k).matches pa then t.invalidateD k else t) (s := s)
    (keys := waysOf (primarySet va)) (fun _ => rfl) (fun t k _ ht => ?_) ⟨h, rfl⟩
  · obtain ⟨⟨-, hframe⟩, hline⟩ := hclears
    refine ⟨fun j => (hline j).trans ?_, hframe⟩
    simp only [mem_waysOf_iff, primarySet_eq, dLine_matches_iff]
  · obtain ⟨hcan, hframe⟩ := ht
    cases hm : (t.dLine k).matches pa
    · exact ⟨⟨hcan, hframe⟩, fun j => by simp⟩
    · refine ⟨⟨invalidateD_canonical hcan k, ?_⟩, fun j => ?_⟩
      · rw [if_pos rfl, hframe]
        rfl
      · rw [if_pos rfl, dLine_invalidateD hcan]
        simp

/-! ### Writing a data cache line back (R452, R456) -/

theorem evictData_of_clean {k : Nat} (h : (s.dLine k).cs ≠ 3) : evictData s k = .ok () (s.invalidateD k) := by
  have hclean : (s.dLine k).dirty = false := by simpa [DLine.dirty] using h
  rw [evictData, writeBackData, hclean]
  rfl

/-- The state after the data of data cache line `k` have gone to line `q` of the secondary cache. -/
def State.mergeData (s : State) (k q : Nat) : State :=
  s.setSLine q { s.sLine q with state := 3, data := (s.dLine k).data }

theorem evictData_of_dirty {k q : Nat} (h : (s.dLine k).cs = 3) (hq : s.sHit ((s.dLine k).address k) = some q) :
    evictData s k = .ok () ((s.mergeData k q).invalidateD k) := by
  have hdirty : (s.dLine k).dirty = true := by simp [DLine.dirty, h]
  rw [evictData, writeBackData, hdirty]
  simp only [Bool.not_true, Bool.false_eq_true, if_false, hq]
  rfl

theorem sLine_mergeData (h : s.canonical) (k q : Nat) :
    (s.mergeData k q).sLine q = { s.sLine q with state := 3, data := (s.dLine k).data } ∧
      ∀ j, j ≠ q → (s.mergeData k q).sLine j = s.sLine j :=
  ⟨by rw [State.mergeData, sLine_setSLine h, if_pos rfl],
    fun j hj => by rw [State.mergeData, sLine_setSLine h, if_neg hj]⟩

/-- A line set by an operation on the data cache is the only one that changes. -/
theorem onlyDataLine_setDLine (h : s.canonical) (k : Nat) (l : DLine) : OnlyDataLine s (s.setDLine k l).advance k l :=
  ⟨(dLine_setDLine h k k l).trans (if_pos rfl), fun j hj => (dLine_setDLine h k j l).trans (if_neg hj), rfl⟩

theorem onlyDataLine_mergeData (h : s.canonical) (k q : Nat) :
    OnlyDataLine { s with scache := (s.mergeData k q).scache } ((s.mergeData k q).invalidateD k).advance k
        { s.dLine k with cs := 0, w := false } ∧
      ((s.mergeData k q).invalidateD k).advance.sLine q = { s.sLine q with state := 3, data := (s.dLine k).data } ∧
      ∀ j, j ≠ q → ((s.mergeData k q).invalidateD k).advance.sLine j = s.sLine j :=
  ⟨onlyDataLine_setDLine (h.setSLine _ _) k _, sLine_mergeData h k q⟩

/-- No line of the set holds the address, but for line `j`. -/
theorem evictMatchingD_of_one {j set : Nat} (hj : j / 4 = set)
    (hcs : (s.dLine j).cs ≠ 0) (htag : (s.dLine j).tag.toNat = pa.toNat / 4096)
    (hone : ∀ i, i / 4 = set → i ≠ j → (s.dLine i).cs ≠ 0 → (s.dLine i).tag.toNat ≠ pa.toNat / 4096)
    (hevict : evictData s j = .ok () (t.invalidateD j)) (hcan : t.canonical) (hd : t.dcache = s.dcache) :
    evictMatchingD s pa (waysOf set) = .ok () (t.invalidateD j) := by
  have hothers : ∀ i, i / 4 = set → i ≠ j → (s.dLine i).matches pa = false := fun i hi hij =>
    Bool.eq_false_iff.mpr fun hm => hone i hi hij ((dLine_matches_iff _ _).mp hm).1 ((dLine_matches_iff _ _).mp hm).2
  have hline : ∀ i, t.dLine i = s.dLine i := fun i => by rw [State.dLine, hd, State.dLine]
  rw [evictMatchingD_eq]
  refine evictEach_of_one (mem_waysOf_iff.mpr hj) ((dLine_matches_iff _ _).mpr ⟨hcs, htag⟩)
    (fun i hi => hothers i (mem_waysOf_iff.mp hi)) hevict fun i hi => ?_
  rw [dLine_invalidateD hcan]
  split
  · rfl
  · next hij => rw [hline, hothers i (mem_waysOf_iff.mp hi) hij]

theorem evictMatchingD_of_none {set : Nat}
    (hnone : ∀ j, j / 4 = set → (s.dLine j).cs ≠ 0 → (s.dLine j).tag.toNat ≠ pa.toNat / 4096) :
    evictMatchingD s pa (waysOf set) = .ok () s := by
  rw [evictMatchingD_eq]
  refine evictEach_of_none fun j hj => Bool.eq_false_iff.mpr fun hm => ?_
  obtain ⟨hcs, htag⟩ := (dLine_matches_iff _ _).mp hm
  exact hnone j (mem_waysOf_iff.mp hj) hcs htag

/-! ### Tags and data (R453, R454, R457, R458) -/

theorem loadTagD_spec (s : State) (va : Dword) :
    (loadTagD s va).cp0.tagLo.toNat = (s.dLine (dataKey va)).tag.toNat % 2 ^ 24 * 2 ^ 8 +
        (s.dLine (dataKey va)).cs.toNat * 2 ^ 6 + (s.dLine (dataKey va)).scset.toNat * 2 ^ 4 ∧
      (loadTagD s va).cp0.tagHi.toNat % 2 ^ 29 = (s.dLine (dataKey va)).tag.toNat / 2 ^ 24 := by
  have hzero : ∀ n, (0 : BitVec n).toNat = 0 := fun n => BitVec.toNat_ofNat 0 n
  simp only [loadTagD, State.setCp0, toNat_append_eq_add, BitVec.extractLsb'_toNat, Nat.shiftRight_eq_div_pow,
    Nat.pow_zero, Nat.div_one, hzero]
  omega

theorem storeTagD_eq (s : State) (va : Dword) :
    storeTagD s va = s.setDLine (dataKey va) { s.dLine (dataKey va) with
      scset := BitVec.ofNat 2 (s.tagData.toNat / 2 ^ 4), cs := BitVec.ofNat 2 (s.tagData.toNat / 2 ^ 6)
      tag := BitVec.ofNat 28 (s.tagData.toNat / 2 ^ 8) } := by
  have hscset : s.cp0.tagLo.extractLsb' 4 2 = BitVec.ofNat 2 (s.tagData.toNat / 2 ^ 4) := by
    apply BitVec.eq_of_toNat_eq
    simp only [tagData_toNat, BitVec.extractLsb'_toNat, Nat.shiftRight_eq_div_pow, BitVec.toNat_ofNat]
    omega
  have hcs : s.cp0.tagLo.extractLsb' 6 2 = BitVec.ofNat 2 (s.tagData.toNat / 2 ^ 6) := by
    apply BitVec.eq_of_toNat_eq
    simp only [tagData_toNat, BitVec.extractLsb'_toNat, Nat.shiftRight_eq_div_pow, BitVec.toNat_ofNat]
    omega
  have htag : s.cp0.tagHi.extractLsb' 0 4 ++ s.cp0.tagLo.extractLsb' 8 24 =
      BitVec.ofNat 28 (s.tagData.toNat / 2 ^ 8) := by
    apply BitVec.eq_of_toNat_eq
    simp only [tagData_toNat, toNat_append_eq_add, BitVec.extractLsb'_toNat, Nat.shiftRight_eq_div_pow,
      BitVec.toNat_ofNat]
    omega
  rw [storeTagD, hscset, hcs, htag]

theorem loadDataD_spec (s : State) (va : Dword) :
    OnlyTags s (loadDataD s va).advance (doublewordNat (s.dLine (dataKey va)).data (va.toNat / 8 % 4)) := by
  rw [← doubleword_toNat, ← shifted_doubleword]
  exact onlyTags_setTagData s _

theorem storeDataD_spec (h : s.canonical) (va : Dword) :
    OnlyDataLine s (storeDataD s va).advance (dataKey va)
        { s.dLine (dataKey va) with data := ((storeDataD s va).advance.dLine (dataKey va)).data } ∧
      WithDoubleword (s.dLine (dataKey va)).data ((storeDataD s va).advance.dLine (dataKey va)).data (va.toNat / 8 % 4)
        s.tagData.toNat := by
  have hline := (dLine_setDLine h (dataKey va) (dataKey va) { s.dLine (dataKey va) with
    data := setDoubleword (s.dLine (dataKey va)).data (va.extractLsb' 3 2) s.tagData }).trans (if_pos rfl)
  have hdata : ((storeDataD s va).advance.dLine (dataKey va)).data =
    setDoubleword (s.dLine (dataKey va)).data (va.extractLsb' 3 2) s.tagData := congrArg DLine.data hline
  rw [hdata, ← doubleword_toNat]
  exact ⟨onlyDataLine_setDLine h _ _, withDoubleword_setDoubleword _ _ _⟩

/-- Settles O49: each operation sets one line, but for the two that go over the ways of a set. -/
theorem primaryCacheOperations : Obligations.PrimaryCacheOperations := by
  intro s base offset pa hcan ht va set k a l tags
  have hkey : dataKey va = k := dataKey_eq va
  have hset : primarySet va = set := primarySet_eq va
  refine ⟨fun h => ⟨?_, fun hcs => ?_, fun q hcs hq => ?_, ?_, fun hnone => ?_, fun j hj hcs hne htag hone => ?_,
    fun j q hj hcs htag hone hq => ?_⟩, fun hcp0 => ⟨?_, ?_, ?_, ?_⟩⟩
  · obtain ⟨hlines, hframe⟩ := indexInvalidateI_spec hcan va
    generalize hop : indexInvalidateI s va = u at hlines hframe
    exact completes_of_cache (a := ⟨base, offset, true⟩) rfl h ht (congrArg (Res.ok ()) hop) (by rw [hframe])
      (by rw [hframe]) ⟨hlines, onlyIcache_advance hframe⟩
  · have hop : evictData s (dataKey va) = .ok () (s.invalidateD k) := by rw [hkey, evictData_of_clean hcs]
    exact completes_of_cache (a := ⟨base, offset, true⟩) rfl h ht hop rfl rfl (onlyDataLine_setDLine hcan k _)
  · have hop : evictData s (dataKey va) = .ok () ((s.mergeData k q).invalidateD k) := by
      rw [hkey, evictData_of_dirty hcs hq]
    exact completes_of_cache (a := ⟨base, offset, true⟩) rfl h ht hop rfl rfl (onlyDataLine_mergeData hcan k q)
  · obtain ⟨hlines, hframe⟩ := hitInvalidateD_spec hcan va pa
    generalize hop : hitInvalidateD s va pa = u at hlines hframe
    exact completes_of_cache (a := ⟨base, offset, true⟩) rfl h ht (congrArg (Res.ok ()) hop) (by rw [hframe])
      (by rw [hframe]) ⟨hlines, onlyDcache_advance hframe⟩
  · have hop : evictMatchingD s pa (waysOf (primarySet va)) = .ok () s := by rw [hset, evictMatchingD_of_none hnone]
    exact completes_of_cache (a := ⟨base, offset, true⟩) rfl h ht hop rfl rfl (onlyPc_advance s)
  · have hop : evictMatchingD s pa (waysOf (primarySet va)) = .ok () (s.invalidateD j) := by
      rw [hset, evictMatchingD_of_one hj hcs htag hone (evictData_of_clean hne) hcan rfl]
    exact completes_of_cache (a := ⟨base, offset, true⟩) rfl h ht hop rfl rfl (onlyDataLine_setDLine hcan j _)
  · have hop : evictMatchingD s pa (waysOf (primarySet va)) = .ok () ((s.mergeData j q).invalidateD j) := by
      rw [hset, evictMatchingD_of_one hj (by rw [hcs]; decide) htag hone (evictData_of_dirty hcs hq)
        (hcan.setSLine _ _) rfl]
    exact completes_of_cache (a := ⟨base, offset, true⟩) rfl h ht hop rfl rfl (onlyDataLine_mergeData hcan j q)
  · obtain ⟨hlo, hhi⟩ := loadTagD_spec s va
    rw [hkey] at hlo hhi
    exact completes_of_cache (a := ⟨base, offset, false⟩) rfl (.inl hcp0) ht rfl rfl rfl ⟨hlo, hhi, rfl⟩
  · have heq := storeTagD_eq s va
    rw [hkey, tagData_toNat] at heq
    exact completes_of_cache (a := ⟨base, offset, false⟩) rfl (.inl hcp0) ht (congrArg (Res.ok ()) heq) rfl rfl
      (onlyDataLine_setDLine hcan k _)
  · have hdata := loadDataD_spec s va
    rw [hkey] at hdata
    exact completes_of_cache (a := ⟨base, offset, false⟩) rfl (.inl hcp0) ht rfl rfl rfl hdata
  · have hdata := storeDataD_spec hcan va
    rw [hkey, tagData_toNat] at hdata
    exact completes_of_cache (a := ⟨base, offset, false⟩) rfl (.inl hcp0) ht rfl rfl rfl hdata

end Sys2Proof.Machine
end

section
/-! The operations of CACHE on the secondary cache: `SecondaryCacheOperations`. -/

namespace Sys2Proof.Machine

variable {s t u : State} {i : Instr} {pa a : BitVec 40} {k q x : Nat}

/-! ### Lines of the primary caches that leave with a secondary cache line (R459) -/

/-- Clearing the lines that are hit is an eviction of each that cannot fail. -/
theorem evictEach_of_total (hit : State → Nat → Bool) (f : State → Nat → State) (s : State) (keys : List Nat) :
    evictEach hit (fun t k => .ok () (f t k)) s keys =
      .ok () (keys.foldl (fun t k => if hit t k then f t k else t) s) := by
  induction keys generalizing s with
  | nil => rfl
  | cons k ks ih =>
    rw [evictEach, List.foldl_cons]
    split
    · exact ih _
    · exact ih _

/-- The data cache lines of an address become invalid, and of the secondary cache line `key` alone may change. -/
theorem dropDataLines_lines (h : s.canonical) (a : BitVec 40) (merge : Bool) (key : Nat) :
    ((s.dropDataLines a merge key).canonical ∧
      s.dropDataLines a merge key =
        { s with dcache := (s.dropDataLines a merge key).dcache, scache := (s.dropDataLines a merge key).scache } ∧
      ∀ m, m ≠ key → (s.dropDataLines a merge key).sLine m = s.sLine m) ∧
    ∀ j, (s.dropDataLines a merge key).dLine j =
      if j ∈ primaryKeys a ∧ (s.dLine j).matches a = true then { s.dLine j with cs := 0, w := false }
      else s.dLine j := by
  refine foldl_clears (get := State.dLine) (hit := (·.matches a)) (clear := fun l => { l with cs := 0, w := false })
    (P := fun t => t.canonical ∧ t = { s with dcache := t.dcache, scache := t.scache } ∧
      ∀ m, m ≠ key → t.sLine m = s.sLine m) (fun _ => rfl) (fun t k _ ht => ?_) ⟨h, rfl, fun _ _ => rfl⟩
  obtain ⟨hcan, hframe, hother⟩ := ht
  simp only []
  cases hm : (t.dLine k).matches a
  · exact ⟨⟨hcan, hframe, hother⟩, fun j => by simp⟩
  · simp only [if_true, and_true]
    split
    · have hcan' := hcan.setSLine key { t.sLine key with state := 3, data := (t.dLine k).data }
      refine ⟨⟨invalidateD_canonical hcan' k, ?_, fun m hm => ?_⟩, fun j => dLine_invalidateD hcan' k j⟩
      · rw [hframe]
        rfl
      · exact (sLine_setSLine hcan key m _).trans ((if_neg hm).trans (hother m hm))
    · refine ⟨⟨invalidateD_canonical hcan k, ?_, hother⟩, fun j => dLine_invalidateD hcan k j⟩
      rw [hframe]
      rfl

/-- The data of the one line of the address, when it is dirty, go to the secondary cache line `key`. -/
theorem dropDataLines_of_dirty (h : s.canonical) {key : Nat} (hq : q ∈ primaryKeys a)
    (hm : (s.dLine q).matches a = true) (hcs : (s.dLine q).cs = 3)
    (hone : ∀ j ∈ primaryKeys a, j ≠ q → (s.dLine j).matches a = false) :
    s.dropDataLines a true key = (s.mergeData q key).invalidateD q := by
  have hcan : (s.mergeData q key).canonical := h.setSLine _ _
  have hdirty : (s.dLine q).dirty = true := by simp [DLine.dirty, hcs]
  have heach := evictEach_of_total (fun t j => (t.dLine j).matches a)
    (fun t j => (if true && (t.dLine j).dirty then t.mergeData j key else t).invalidateD j) s (primaryKeys a)
  rw [evictEach_of_one (u := (s.mergeData q key).invalidateD q) hq hm hone] at heach
  · exact (Res.ok.inj heach).2.symm
  · rw [hdirty]
    rfl
  · intro j hj
    rw [dLine_invalidateD hcan]
    split
    · rfl
    · next hjq => exact hone j hj hjq

/-! ### A line that leaves the caches -/

/-- The lines of the primary caches of secondary cache line `k` have left them, with `merge` dirty data to the line. -/
def State.withoutPrimary (s : State) (k : Nat) (merge : Bool) : State :=
  (s.dropInstructionLines ((s.sLine k).address k)).dropDataLines ((s.sLine k).address k) merge k

/-- Secondary cache line `k` has left the caches, with the same line of the primary caches. -/
def State.withoutSecondary (s : State) (k : Nat) (merge : Bool) : State :=
  (s.withoutPrimary k merge).setSLine k { (s.withoutPrimary k merge).sLine k with state := 0 }

theorem withoutPrimary_spec (h : s.canonical) (k : Nat) (merge : Bool) :
    (s.withoutPrimary k merge).canonical ∧ OnlyLines s (s.withoutPrimary k merge) ∧
      (∀ m, m ≠ k → (s.withoutPrimary k merge).sLine m = s.sLine m) ∧
      (∀ j, (s.withoutPrimary k merge).iLine j =
        if j ∈ primaryKeys ((s.sLine k).address k) ∧ (s.iLine j).matches ((s.sLine k).address k) = true then
          { s.iLine j with valid := false } else s.iLine j) ∧
      ∀ j, (s.withoutPrimary k merge).dLine j =
        if j ∈ primaryKeys ((s.sLine k).address k) ∧ (s.dLine j).matches ((s.sLine k).address k) = true then
          { s.dLine j with cs := 0, w := false } else s.dLine j := by
  obtain ⟨⟨hcan1, hframe1⟩, hi⟩ := dropInstructionLines_spec h ((s.sLine k).address k)
  obtain ⟨⟨hcan2, hframe2, hs⟩, hd⟩ := dropDataLines_lines hcan1 ((s.sLine k).address k) merge k
  rw [State.withoutPrimary]
  generalize s.dropInstructionLines ((s.sLine k).address k) = t1 at *
  generalize t1.dropDataLines ((s.sLine k).address k) merge k = t2 at *
  have hd1 : ∀ j, t1.dLine j = s.dLine j := fun j => by rw [hframe1]; rfl
  have hs1 : ∀ j, t1.sLine j = s.sLine j := fun j => by rw [hframe1]; rfl
  have hi2 : ∀ j, t2.iLine j = t1.iLine j := fun j => by rw [hframe2]; rfl
  refine ⟨hcan2, ?_, fun m hm => (hs m hm).trans (hs1 m), fun j => (hi2 j).trans (hi j), fun j => ?_⟩
  · rw [OnlyLines, hframe2, hframe1]
  · rw [hd j, hd1]

theorem leavesCaches_withoutSecondary (h : s.canonical) (k : Nat) (merge : Bool) :
    LeavesCaches s (s.withoutSecondary k merge) k ((s.sLine k).address k) := by
  obtain ⟨hcan, -, hs, hi, hd⟩ := withoutPrimary_spec h k merge
  rw [State.withoutSecondary]
  generalize s.withoutPrimary k merge = t at *
  refine ⟨?_, fun j hj => ?_, hi, hd⟩
  · rw [sLine_setSLine hcan, if_pos rfl]
  · rw [sLine_setSLine hcan, if_neg hj, hs j hj]

theorem onlyLines_withoutSecondary (h : s.canonical) (k : Nat) (merge : Bool) :
    OnlyLines s (s.withoutSecondary k merge) := by
  obtain ⟨-, hframe, -⟩ := withoutPrimary_spec h k merge
  rw [State.withoutSecondary]
  generalize s.withoutPrimary k merge = t at hframe
  rw [OnlyLines, hframe]
  rfl

/-- Without a dirty line in the data cache the secondary cache line keeps its state and data. -/
theorem sLine_withoutPrimary_of_clean (h : s.canonical) (hclean : NoDirtyDataLine s ((s.sLine k).address k))
    (merge : Bool) : (s.withoutPrimary k merge).sLine k = s.sLine k := by
  obtain ⟨⟨hcan, hframe⟩, -⟩ := dropInstructionLines_spec h ((s.sLine k).address k)
  rw [State.withoutPrimary]
  generalize s.dropInstructionLines ((s.sLine k).address k) = t at *
  have hd : t.dLine = s.dLine := by rw [hframe]; rfl
  obtain ⟨⟨-, hframe2, -⟩, -⟩ := dropDataLines_spec (s := t) hcan (by rwa [NoDirtyDataLine, hd]) merge k
  rw [hframe2, hframe]
  rfl

/-- The one line of the data cache, when it is dirty, leaves its data in the secondary cache line. -/
theorem sLine_withoutPrimary_of_dirty (h : s.canonical) (hq : q ∈ primaryKeys ((s.sLine k).address k))
    (hm : (s.dLine q).matches ((s.sLine k).address k) = true) (hcs : (s.dLine q).cs = 3)
    (hone : ∀ j ∈ primaryKeys ((s.sLine k).address k), j ≠ q →
      (s.dLine j).matches ((s.sLine k).address k) = false) :
    (s.withoutPrimary k true).sLine k = { s.sLine k with state := 3, data := (s.dLine q).data } := by
  obtain ⟨⟨hcan, hframe⟩, -⟩ := dropInstructionLines_spec h ((s.sLine k).address k)
  rw [State.withoutPrimary]
  generalize s.dropInstructionLines ((s.sLine k).address k) = t at *
  have hd : t.dLine = s.dLine := by rw [hframe]; rfl
  have hs : t.sLine = s.sLine := by rw [hframe]; rfl
  rw [← hd] at hm hcs hone
  rw [dropDataLines_of_dirty hcan hq hm hcs hone, ← hd, ← hs]
  exact (sLine_mergeData hcan q k).1

/-! ### What goes to memory (R459, R462, R463) -/

theorem evictSecondary_dropped (h : (s.sLine k).state ≠ 0) :
    evictSecondary s k false = .ok () (s.withoutSecondary k false) := by
  rw [evictSecondary, if_neg h]
  rfl

/-- Memory after line `k` has been written back to `x`. -/
def State.memWrittenBack (s : State) (k x : Nat) : List Host.Cell :=
  if ((s.withoutPrimary k true).sLine k).state = 3 then
    writeBytes s.mem x (toBytes ((s.withoutPrimary k true).sLine k).data 32)
  else s.mem

/-- The state after line `k` has been written back to `x`. -/
def State.writtenBackSecondary (s : State) (k x : Nat) : State :=
  { s.withoutSecondary k true with mem := s.memWrittenBack k x }

theorem DramAt.ofOnlyLines (h : DramAt s pa x) (hu : OnlyLines s u) : DramAt u pa x := by
  rw [hu]
  exact h

theorem evictSecondary_writtenBack (hcan : s.canonical) (h : (s.sLine k).state ≠ 0)
    (hx : DramAt s ((s.sLine k).address k) x) : evictSecondary s k true = .ok () (s.writtenBackSecondary k x) := by
  have hframe := onlyLines_withoutSecondary hcan k true
  have hdram := hx.ofOnlyLines hframe
  have hmem : (s.withoutSecondary k true).mem = s.mem := by rw [hframe]
  have hunfold : evictSecondary s k true =
      if ((s.withoutPrimary k true).sLine k).dirty then
        physWrite (s.withoutSecondary k true) ((s.sLine k).address k)
          (toBytes ((s.withoutPrimary k true).sLine k).data 32)
      else .ok () (s.withoutSecondary k true) := by
    rw [evictSecondary, if_neg h]
    rfl
  rw [hunfold, physWrite_dram hdram, State.writtenBackSecondary, State.memWrittenBack, hmem]
  by_cases hs : ((s.withoutPrimary k true).sLine k).state = 3
  · rw [if_pos (by simpa [SLine.dirty] using hs), if_pos hs]
  · rw [if_neg (by simpa [SLine.dirty] using hs), if_neg hs, ← hmem]

theorem LeavesCaches.withMem (h : LeavesCaches s u k a) (m : List Host.Cell) :
    LeavesCaches s { u with mem := m } k a := h

theorem LeavesCaches.advance (h : LeavesCaches s u k a) : LeavesCaches s u.advance k a := h

theorem leavesCaches_writtenBackSecondary (h : s.canonical) (k x : Nat) :
    LeavesCaches s (s.writtenBackSecondary k x) k ((s.sLine k).address k) :=
  (leavesCaches_withoutSecondary h k true).withMem _

theorem lineStored_writeBytes (h : s.canonical) {d : LineData} (ht : t.mem = writeBytes s.mem x (toBytes d 32)) :
    LineStored s t x d := by
  obtain ⟨hmem, -⟩ := h
  have hlen : (toBytes d 32).length = 32 := toBytes_length d 32
  rw [LineStored, ht]
  refine ⟨fun i hi => ?_, fun a ha => ?_⟩
  · rw [readByte_writeBytes hmem x _ i (by omega), getElem_toBytes]
  · rw [readByte_writeBytes_other _ _ _ (by omega)]

theorem writtenBack_memWrittenBack (h : s.canonical) (ht : t.mem = s.memWrittenBack k x) :
    WrittenBack s t k ((s.sLine k).address k) x := by
  rw [State.memWrittenBack] at ht
  refine ⟨fun hclean hs => ?_, fun hclean hs => ?_, fun q hq hm hcs hone => ?_⟩
  · rw [sLine_withoutPrimary_of_clean h hclean, if_pos hs] at ht
    exact lineStored_writeBytes h ht
  · rwa [sLine_withoutPrimary_of_clean h hclean, if_neg hs] at ht
  · rw [sLine_withoutPrimary_of_dirty h hq hm hcs hone, if_pos rfl] at ht
    exact lineStored_writeBytes h ht

/-! ### The ways of a set (R462, R463) -/

theorem evictMatchingS_eq (s : State) (pa : BitVec 40) (writeBack : Bool) (keys : List Nat) :
    evictMatchingS s pa writeBack keys =
      evictEach (fun t k => (t.sLine k).matches pa) (fun t k => evictSecondary t k writeBack) s keys := by
  induction keys generalizing s with
  | nil => rfl
  | cons k ks ih => simp only [evictMatchingS, evictEach, ih]

/-- Line `j` is a way of the secondary cache set of an address and holds it. -/
def State.holdsAddress (s : State) (pa : BitVec 40) (j : Nat) : Prop :=
  j / 4 = pa.toNat / 32 % 4096 ∧ (s.sLine j).state ≠ 0 ∧ (s.sLine j).tag.toNat = pa.toNat / 2 ^ 17

theorem holdsAddress_iff (s : State) (pa : BitVec 40) (j : Nat) :
    s.holdsAddress pa j ↔ j ∈ waysOf (secondarySet pa) ∧ (s.sLine j).matches pa = true := by
  rw [State.holdsAddress, mem_waysOf_iff, secondarySet_eq, sLine_matches_iff]

theorem evictMatchingS_of_none (h : ∀ j, ¬ s.holdsAddress pa j) (writeBack : Bool) :
    evictMatchingS s pa writeBack (waysOf (secondarySet pa)) = .ok () s := by
  rw [evictMatchingS_eq]
  exact evictEach_of_none fun j hj => Bool.eq_false_iff.mpr fun hm => h j ((holdsAddress_iff s pa j).mpr ⟨hj, hm⟩)

theorem evictMatchingS_of_one {j : Nat} {writeBack : Bool} (h : s.holdsAddress pa j)
    (hone : ∀ i, s.holdsAddress pa i → i = j) (hevict : evictSecondary s j writeBack = .ok () u)
    (hu : LeavesCaches s u j a) : evictMatchingS s pa writeBack (waysOf (secondarySet pa)) = .ok () u := by
  obtain ⟨hj, hm⟩ := (holdsAddress_iff s pa j).mp h
  obtain ⟨hstate, hother, -⟩ := hu
  have hothers : ∀ i ∈ waysOf (secondarySet pa), i ≠ j → (s.sLine i).matches pa = false := fun i hi hij =>
    Bool.eq_false_iff.mpr fun hmi => hij (hone i ((holdsAddress_iff s pa i).mpr ⟨hi, hmi⟩))
  rw [evictMatchingS_eq]
  refine evictEach_of_one hj hm hothers hevict fun i hi => ?_
  by_cases hij : i = j
  · simp [hij, SLine.matches, hstate]
  · rw [hother i hij, hothers i hi hij]

/-! ### Tags and data (R460, R461, R464, R465) -/

/-- What TagHi and TagLo take of a secondary cache line, as one number (D17). -/
def SLine.tagNumber (l : SLine) : Nat :=
  l.tag.toNat / 2 ^ 19 * 2 ^ 32 + l.tag.toNat % 2 ^ 19 * 2 ^ 13 + l.state.toNat * 2 ^ 10

theorem tagLo_of_sLine (l : SLine) :
    (l.tag.extractLsb' 0 19 : BitVec 19) ++ (0 : BitVec 1) ++ l.state ++ (0 : BitVec 10) =
      BitVec.ofNat 32 l.tagNumber := by
  have hzero : ∀ n, (0 : BitVec n).toNat = 0 := fun n => BitVec.toNat_ofNat 0 n
  apply BitVec.eq_of_toNat_eq
  simp only [SLine.tagNumber, toNat_append_eq_add, BitVec.extractLsb'_toNat, Nat.shiftRight_eq_div_pow,
    BitVec.toNat_ofNat, Nat.pow_zero, Nat.div_one, hzero]
  omega

theorem tagHi_of_sLine (l : SLine) :
    (0 : BitVec 28) ++ (l.tag.extractLsb' 19 4 : BitVec 4) = BitVec.ofNat 32 (l.tagNumber / 2 ^ 32) := by
  have hzero : ∀ n, (0 : BitVec n).toNat = 0 := fun n => BitVec.toNat_ofNat 0 n
  apply BitVec.eq_of_toNat_eq
  simp only [SLine.tagNumber, toNat_append_eq_add, BitVec.extractLsb'_toNat, Nat.shiftRight_eq_div_pow,
    BitVec.toNat_ofNat, hzero]
  omega

theorem loadTagS_spec (s : State) (pa : BitVec 40) :
    OnlyTags s (loadTagS s pa).advance (s.sLine (secondaryKey pa)).tagNumber := by
  rw [OnlyTags, ← tagLo_of_sLine, ← tagHi_of_sLine]
  rfl

theorem storeTagS_eq (s : State) (pa : BitVec 40) :
    storeTagS s pa = s.setSLine (secondaryKey pa) { s.sLine (secondaryKey pa) with
      state := BitVec.ofNat 2 (s.tagData.toNat / 2 ^ 10), tag := BitVec.ofNat 23 (s.tagData.toNat / 2 ^ 13) } := by
  have hstate : s.cp0.tagLo.extractLsb' 10 2 = BitVec.ofNat 2 (s.tagData.toNat / 2 ^ 10) := by
    apply BitVec.eq_of_toNat_eq
    simp only [tagData_toNat, BitVec.extractLsb'_toNat, Nat.shiftRight_eq_div_pow, BitVec.toNat_ofNat]
    omega
  have htag : s.cp0.tagHi.extractLsb' 0 4 ++ s.cp0.tagLo.extractLsb' 13 19 =
      BitVec.ofNat 23 (s.tagData.toNat / 2 ^ 13) := by
    apply BitVec.eq_of_toNat_eq
    simp only [tagData_toNat, toNat_append_eq_add, BitVec.extractLsb'_toNat, Nat.shiftRight_eq_div_pow,
      BitVec.toNat_ofNat]
    omega
  rw [storeTagS, hstate, htag]

theorem loadDataS_spec (s : State) (pa : BitVec 40) :
    OnlyTags s (loadDataS s pa).advance (doublewordNat (s.sLine (secondaryKey pa)).data (pa.toNat / 8 % 4)) := by
  rw [← doubleword_toNat, ← shifted_doubleword]
  exact onlyTags_setTagData s _

theorem onlySecondaryLine_setSLine (h : s.canonical) (k : Nat) (l : SLine) :
    OnlySecondaryLine s (s.setSLine k l).advance k l :=
  ⟨(sLine_setSLine h k k l).trans (if_pos rfl), fun j hj => (sLine_setSLine h k j l).trans (if_neg hj), rfl⟩

theorem storeDataS_spec (h : s.canonical) (pa : BitVec 40) :
    OnlySecondaryLine s (storeDataS s pa).advance (secondaryKey pa)
        { s.sLine (secondaryKey pa) with data := ((storeDataS s pa).advance.sLine (secondaryKey pa)).data } ∧
      WithDoubleword (s.sLine (secondaryKey pa)).data ((storeDataS s pa).advance.sLine (secondaryKey pa)).data
        (pa.toNat / 8 % 4) s.tagData.toNat := by
  have hline := (sLine_setSLine h (secondaryKey pa) (secondaryKey pa) { s.sLine (secondaryKey pa) with
    data := setDoubleword (s.sLine (secondaryKey pa)).data (pa.extractLsb' 3 2) s.tagData }).trans (if_pos rfl)
  have hdata : ((storeDataS s pa).advance.sLine (secondaryKey pa)).data =
    setDoubleword (s.sLine (secondaryKey pa)).data (pa.extractLsb' 3 2) s.tagData := congrArg SLine.data hline
  rw [hdata, ← doubleword_toNat]
  exact ⟨onlySecondaryLine_setSLine h _ _, withDoubleword_setDoubleword _ _ _⟩

/-! ### The obligation -/

theorem onlyCaches_of_onlyLines (hu : OnlyLines s u) (m : List Host.Cell) :
    OnlyCaches s { u with mem := m }.advance := by
  rw [hu]
  rfl

/-- A line that leaves the caches without a write to memory. -/
theorem completes_of_dropped {o : CacheOperands} (hcan : s.canonical) (hi : cacheOperandsOf i = some o)
    (h : CacheUsable s o.userOperation) (ht : translate s .load (addressOf s o.base o.offset) = .ok (pa, 3) s)
    (hop : cacheOperationOf i (addressOf s o.base o.offset) pa s = .ok () (s.withoutSecondary k false)) :
    Completes i s fun t => LeavesCaches s t k ((s.sLine k).address k) ∧ t.mem = s.mem ∧ OnlyCaches s t := by
  have hframe := onlyLines_withoutSecondary hcan k false
  have hleaves := leavesCaches_withoutSecondary hcan k false
  generalize s.withoutSecondary k false = u at *
  have hmem : u.mem = s.mem := by rw [hframe]
  exact completes_of_cache hi h ht hop (by rw [hframe]) (by rw [hframe])
    ⟨hleaves.advance, hmem, onlyCaches_of_onlyLines hframe u.mem⟩

/-- A line that leaves the caches, with its data to memory when they are dirty. -/
theorem completes_of_writtenBack {o : CacheOperands} (hcan : s.canonical) (hi : cacheOperandsOf i = some o)
    (h : CacheUsable s o.userOperation) (ht : translate s .load (addressOf s o.base o.offset) = .ok (pa, 3) s)
    (hop : cacheOperationOf i (addressOf s o.base o.offset) pa s = .ok () (s.writtenBackSecondary k x)) :
    Completes i s fun t => LeavesCaches s t k ((s.sLine k).address k) ∧
      WrittenBack s t k ((s.sLine k).address k) x ∧ OnlyCaches s t := by
  have hframe := onlyLines_withoutSecondary hcan k true
  have hleaves := leavesCaches_withoutSecondary hcan k true
  rw [State.writtenBackSecondary] at hop
  generalize s.withoutSecondary k true = u at *
  generalize hmem : s.memWrittenBack k x = m at *
  refine completes_of_cache hi h ht hop ?_ ?_
    ⟨(hleaves.withMem _).advance, writtenBack_memWrittenBack hcan hmem.symm, onlyCaches_of_onlyLines hframe _⟩
  all_goals rw [hframe]

/-- Settles O50: a line that leaves the secondary cache does so in one way, and the other operations set one line or the
tags. -/
theorem secondaryCacheOperations : Obligations.SecondaryCacheOperations := by
  intro s base offset pa hcan ht set k a l tags holds
  have hkey : secondaryKey pa = k := secondaryKey_eq pa
  refine ⟨fun h => ⟨fun hs => ?_, fun x hs hx => ?_, fun hnone => ⟨?_, ?_⟩,
    fun j hj hone => ⟨?_, fun x hx => ?_⟩⟩, fun hcp0 => ⟨?_, ?_, ?_, ?_⟩⟩
  · have hop : evictSecondary s (secondaryKey pa) true = .ok () s := by rw [hkey, evictSecondary, if_pos hs]
    exact completes_of_cache (a := ⟨base, offset, true⟩) rfl h ht hop rfl rfl (onlyPc_advance s)
  · have hop : evictSecondary s (secondaryKey pa) true = .ok () (s.writtenBackSecondary k x) := by
      rw [hkey, evictSecondary_writtenBack hcan hs hx]
    exact completes_of_writtenBack (o := ⟨base, offset, true⟩) hcan rfl h ht hop
  · exact completes_of_cache (a := ⟨base, offset, true⟩) rfl h ht (evictMatchingS_of_none hnone false) rfl rfl
      (onlyPc_advance s)
  · exact completes_of_cache (a := ⟨base, offset, true⟩) rfl h ht (evictMatchingS_of_none hnone true) rfl rfl
      (onlyPc_advance s)
  · obtain ⟨-, hs, -⟩ := id hj
    exact completes_of_dropped (o := ⟨base, offset, true⟩) hcan rfl h ht
      (evictMatchingS_of_one hj hone (evictSecondary_dropped hs) (leavesCaches_withoutSecondary hcan j false))
  · obtain ⟨-, hs, -⟩ := id hj
    exact completes_of_writtenBack (o := ⟨base, offset, true⟩) hcan rfl h ht
      (evictMatchingS_of_one hj hone (evictSecondary_writtenBack hcan hs hx)
        (leavesCaches_writtenBackSecondary hcan j x))
  · have htags := loadTagS_spec s pa
    rw [hkey] at htags
    exact completes_of_cache (a := ⟨base, offset, false⟩) rfl (.inl hcp0) ht rfl rfl rfl htags
  · have heq := storeTagS_eq s pa
    rw [hkey, tagData_toNat] at heq
    exact completes_of_cache (a := ⟨base, offset, false⟩) rfl (.inl hcp0) ht (congrArg (Res.ok ()) heq) rfl rfl
      (onlySecondaryLine_setSLine hcan k _)
  · have hdata := loadDataS_spec s pa
    rw [hkey] at hdata
    exact completes_of_cache (a := ⟨base, offset, false⟩) rfl (.inl hcp0) ht rfl rfl rfl hdata
  · have hdata := storeDataS_spec hcan pa
    rw [hkey, tagData_toNat] at hdata
    exact completes_of_cache (a := ⟨base, offset, false⟩) rfl (.inl hcp0) ht rfl rfl rfl hdata

end Sys2Proof.Machine
end

section
/-! SUPPORT. The fields of FCR31 bit by bit (R29; notes/assumptions/34.md), and when the conditions of an operation
trap (R488). -/

namespace Sys2Proof.Machine

/-! ### Trapping -/

/-- Two values have a set bit in common. -/
theorem and_ne_zero_iff {w : Nat} (x y : BitVec w) :
    x &&& y ≠ 0 ↔ ∃ n, n < w ∧ x.getLsbD n = true ∧ y.getLsbD n = true := by
  constructor
  · intro h
    by_contra hno
    refine h (BitVec.eq_of_getLsbD_eq fun i hi => ?_)
    have hi' : ¬ (x.getLsbD i = true ∧ y.getLsbD i = true) := fun hxy => hno ⟨i, hi, hxy⟩
    simpa using hi'
  · rintro ⟨n, -, hx, hy⟩ h
    have hbit : (x &&& y).getLsbD n = true := by rw [BitVec.getLsbD_and, hx, hy]; rfl
    rw [h] at hbit
    simp at hbit

theorem trapsWith_iff (c : Conditions) (enables : BitVec 5) :
    trapsWith c enables = true ↔
      c.getLsbD 5 = true ∨ ∃ b, b < 5 ∧ c.getLsbD b = true ∧ enables.getLsbD b = true := by
  rw [trapsWith, Bool.or_eq_true, bne_iff_ne, and_ne_zero_iff]
  refine or_congr_right (exists_congr fun b => and_congr_right fun hb => ?_)
  simp [hb]

theorem fpEnables_getLsbD (s : State) {b : Nat} (hb : b < 5) : s.fpEnables.getLsbD b = s.fcr31.getLsbD (7 + b) := by
  simp [State.fpEnables, hb]

/-! ### Cause, Flags and the condition bits -/

theorem getLsbD_causeMask : ∀ b, b < 32 → (0x0003F000 : Word).getLsbD b = decide (12 ≤ b ∧ b < 18) := by decide

theorem getLsbD_withCause (f : Word) (c : Conditions) {b : Nat} (hb : b < 32) :
    (withCause f c).getLsbD b = if 12 ≤ b ∧ b < 18 then c.getLsbD (b - 12) else f.getLsbD b := by
  simp only [withCause, BitVec.getLsbD_or, BitVec.getLsbD_and, BitVec.getLsbD_not, BitVec.getLsbD_shiftLeft,
    BitVec.getLsbD_setWidth, getLsbD_causeMask b hb]
  by_cases h12 : 12 ≤ b
  · by_cases h18 : b < 18
    · simp [h12, h18, hb, show ¬ b < 12 by omega, show b - 12 < 32 by omega]
    · simp [h12, h18, hb, BitVec.getLsbD_of_ge c (b - 12) (by omega)]
  · simp [h12, hb, show b < 12 by omega]

theorem getLsbD_withFlags (f : Word) (c : Conditions) {b : Nat} (hb : b < 32) :
    (withFlags f c).getLsbD b = if 2 ≤ b ∧ b < 7 then f.getLsbD b || c.getLsbD (b - 2) else f.getLsbD b := by
  simp only [withFlags, BitVec.getLsbD_or, BitVec.getLsbD_shiftLeft, BitVec.getLsbD_setWidth,
    BitVec.getLsbD_extractLsb', Nat.zero_add]
  by_cases h2 : 2 ≤ b
  · by_cases h7 : b < 7
    · simp [h2, h7, hb, show ¬ b < 2 by omega, show b - 2 < 32 by omega, show b - 2 < 5 by omega]
    · simp [h2, h7, show ¬ b - 2 < 5 by omega]
  · simp [h2, show b < 2 by omega]

/-! ### The end of an operation (R484, R487 to R489) -/

theorem fpEnd_of_traps {s : State} {c : Conditions} (h : trapsWith c s.fpEnables = true) (write : State → State) :
    fpEnd s c write = .raise .floatingPoint (s.setFcr31 (withCause s.fcr31 c)) := by
  rw [fpEnd_eq, if_pos h]

theorem fpEnd_of_not_traps {s : State} {c : Conditions} (h : trapsWith c s.fpEnables = false)
    (write : State → State) :
    fpEnd s c write = .ok () (write (s.setFcr31 (withFlags (withCause s.fcr31 c) c))) := by
  rw [fpEnd_eq, h]
  rfl

/-- Settles O57: the trap condition bit by bit, and FCR31 bit by bit at either end. -/
theorem fpTrapCondition : Obligations.FpTrapCondition := by
  intro s c write traps
  have htraps : trapsWith c s.fpEnables = true ↔ traps := by
    rw [trapsWith_iff]
    refine or_congr_right (exists_congr fun b => and_congr_right fun hb => ?_)
    rw [fpEnables_getLsbD s hb]
  refine ⟨fun h => ⟨_, fpEnd_of_traps (htraps.mpr h) write, rfl, fun b hb => getLsbD_withCause _ _ hb⟩,
    fun h => ⟨_, fpEnd_of_not_traps (Bool.eq_false_iff.mpr (mt htraps.mp h)) write, rfl, fun b hb => ?_⟩⟩
  rw [State.setFcr31_fcr31, getLsbD_withFlags _ _ hb, getLsbD_withCause _ _ hb]
  grind

end Sys2Proof.Machine
end

section
/-! The branches on the floating-point condition: `ConditionBranches`. -/

namespace Sys2Proof.Machine

variable {s : State} {i : Instr} {offset : BitVec 16} {c : Bool}

theorem ifCp1_of_usable (h : s.cu 1 = true) (o : Outcome) : ifCp1 s o = o := by
  simp [ifCp1, checkCp1, h]

/-- What every branch on the condition does in a delay slot, and a plain one outside it (R330, R332). -/
theorem conditionBranch_of_branch {taken : Prop} [Decidable taken] (hcu : s.cu 1 = true)
    (hexec : exec i s = ifCp1 s (branch s c (s.branchTarget offset))) (hc : c = true ↔ taken) :
    (s.delay = none → ∃ t, exec i s = .next t ∧ t.pc = s.pc + 4 ∧
        t.delay = some (if taken then branchDestination offset s else s.pc + 8) ∧ OnlyPc s t) ∧
      (s.delay ≠ none → exec i s = .refused .delaySlotBranch) := by
  rw [hexec, ifCp1_of_usable hcu, branch_eq_jump]
  refine ⟨fun hout => ⟨_, jump_eq_next.mpr ⟨hout, rfl⟩, rfl, ?_, ?_⟩,
    fun hin => outsideDelaySlot_of_delay_ne_none hin _⟩
  · simp only [State.branchTo, branchTarget_eq, hc]
  · exact ⟨rfl, fun _ => rfl, fun _ => rfl, fun _ => rfl, fun _ => rfl, fun _ => rfl⟩

/-- A likely branch on the condition: not taken, it skips its delay slot (R331). -/
theorem conditionBranch_of_branchLikely {taken : Prop} (hcu : s.cu 1 = true)
    (hexec : exec i s = ifCp1 s (branchLikely s c (s.branchTarget offset))) (hc : c = true ↔ taken) :
    (s.delay = none → ∃ t, exec i s = .next t ∧
        (taken → t.pc = s.pc + 4 ∧ t.delay = some (branchDestination offset s)) ∧
        (¬ taken → t.pc = s.pc + 8 ∧ t.delay = none) ∧ OnlyPc s t) ∧
      (s.delay ≠ none → exec i s = .refused .delaySlotBranch) := by
  rw [hexec, ifCp1_of_usable hcu, branchTarget_eq]
  refine ⟨fun hout => ⟨_, branchLikely_eq_next.mpr ⟨hout, rfl⟩, fun h => ?_, fun h => ?_, ?_⟩,
    fun hin => outsideDelaySlot_of_delay_ne_none hin _⟩
  · rw [if_pos (hc.mpr h)]
    exact ⟨rfl, rfl⟩
  · rw [if_neg (mt hc.mp h)]
    exact ⟨rfl, rfl⟩
  · split <;> exact ⟨rfl, fun _ => rfl, fun _ => rfl, fun _ => rfl, fun _ => rfl, fun _ => rfl⟩

/-- Settles O29: each meaning is a branch on condition bit 0, which is bit 23 of FCR31. -/
theorem conditionBranches : Obligations.ConditionBranches := by
  intro offset
  have hfalse : ∀ s : State, (!s.cc0) = true ↔ s.fcr31.getLsbD 23 = false := fun s => Iff.of_eq (Bool.not_eq_true' _)
  exact ⟨⟨decode_encode (i := .bc1f offset) rfl, fun s h => conditionBranch_of_branch h rfl (hfalse s)⟩,
    ⟨decode_encode (i := .bc1t offset) rfl, fun s h => conditionBranch_of_branch h rfl Iff.rfl⟩,
    ⟨decode_encode (i := .bc1fl offset) rfl, fun s h => conditionBranch_of_branchLikely h rfl (hfalse s)⟩,
    ⟨decode_encode (i := .bc1tl offset) rfl, fun s h => conditionBranch_of_branchLikely h rfl Iff.rfl⟩⟩

end Sys2Proof.Machine
end

section
/-! SUPPORT. Instructions that end in `fpEnd` (R484): the exception or the result, for each size of the destination, and
for a comparison. -/

namespace Sys2Proof.Machine

variable {i : Instr} {fd : Reg} {cond : State → Conditions}

/-! ### Operations with a result -/

theorem fpInstruction_of_usable {s : State} (h : s.cu 1 = true) (k : State → Res Unit) :
    fpInstruction s k = (k s).finish := by
  rw [fpInstruction_eq, if_pos h]

/-- A meaning that ends in `fpEnd` with a write of a floating-point register is an operation in the sense of R484. -/
theorem fpOperation_of_fpEnd {write : State → State → State} {result : State → State → Prop}
    (hexec : ∀ s, ∃ k, exec i s = fpInstruction s k ∧ k s = fpEnd s (cond s) (write s))
    (hwrite : ∀ s t, write s t = { t with fpr := (write s t).fpr })
    (hresult : ∀ s f, result s (write s (s.setFcr31 f)).advance) : FpOperation i cond result := by
  intro s hcu
  obtain ⟨k, hi, hk⟩ := hexec s
  rw [hi, fpInstruction_of_usable hcu, hk]
  refine ⟨fun h => by rw [fpEnd_of_traps h, Res.finish_raise], fun h => ?_⟩
  rw [fpEnd_of_not_traps h, Res.finish_ok]
  have hframe := hwrite s (s.setFcr31 (withFlags (withCause s.fcr31 (cond s)) (cond s)))
  refine ⟨_, rfl, ?_, hresult s _, ?_, ?_⟩
  all_goals
    generalize write s _ = u at hframe
    rw [hframe]
  · rfl
  · exact ⟨rfl, fun _ => rfl, fun _ => rfl, fun _ => rfl, fun _ => rfl, fun _ => rfl⟩
  · exact ⟨rfl, rfl⟩

/-- The meanings with a single or a word end in `endS`, which their definitions show. -/
theorem fpSingle_of_endS {r : State → FpResult}
    (hexec : ∀ s, ∃ k, exec i s = fpInstruction s k ∧ k s = endS s fd (r s) := by
      exact fun _ => ⟨_, rfl, rfl⟩) : FpSingle i fd r :=
  fpOperation_of_fpEnd hexec (fun _ t => writeS_frame t fd _) fun s f => singleSet_writeS (s.setFcr31 f) fd _

/-- The meanings with a double or a long end in `endD`. -/
theorem fpDouble_of_endD {r : State → FpResult}
    (hexec : ∀ s, ∃ k, exec i s = fpInstruction s k ∧ k s = endD s fd (r s) := by
      exact fun _ => ⟨_, rfl, rfl⟩) : FpDouble i fd r :=
  fpOperation_of_fpEnd hexec (fun _ t => writeD_frame t fd _) fun s f => doubleSet_writeD (s.setFcr31 f) fd _

/-- The meanings with a paired single end in `endPS`. -/
theorem fpPaired_of_endPS {lower upper : State → FpResult}
    (hexec : ∀ s, ∃ k, exec i s = fpInstruction s k ∧ k s = endPS s fd (lower s) (upper s) := by
      exact fun _ => ⟨_, rfl, rfl⟩) : FpPaired i fd lower upper :=
  fpOperation_of_fpEnd hexec (fun _ t => writeD_frame t fd _) fun s f => doubleSet_writeD (s.setFcr31 f) fd _

/-! ### Comparisons -/

/-- A meaning that ends in `fpEnd` with a write of condition bits is a comparison in the sense of R530. -/
theorem fpComparison_of_fpEnd {flags : State → Word → Word}
    (hexec : ∀ s, ∃ k, exec i s = fpInstruction s k ∧
      k s = fpEnd s (cond s) fun t => t.setFcr31 (flags s t.fcr31)) : FpComparison i cond flags := by
  intro s hcu
  obtain ⟨k, hi, hk⟩ := hexec s
  rw [hi, fpInstruction_of_usable hcu, hk]
  refine ⟨fun h => by rw [fpEnd_of_traps h, Res.finish_raise], fun h => ?_⟩
  rw [fpEnd_of_not_traps h, Res.finish_ok]
  exact ⟨_, rfl, rfl, rfl, ⟨rfl, fun _ => rfl, fun _ => rfl, fun _ => rfl, fun _ => rfl, fun _ => rfl⟩, rfl, rfl⟩

end Sys2Proof.Machine
end

section
/-! The arithmetic, multiply-add and conversion instructions: `FpArithmeticInstructions` and
`FpConversionInstructions`. -/

namespace Sys2Proof.Machine

/-- Settles O52: each meaning ends in `endS`, `endD` or `endPS` with the results of its operation. -/
theorem fpArithmeticInstructions : Obligations.FpArithmeticInstructions := fun _ _ _ =>
  ⟨fpSingle_of_endS, fpDouble_of_endD, fpSingle_of_endS, fpDouble_of_endD, fpSingle_of_endS, fpDouble_of_endD,
    fpSingle_of_endS, fpDouble_of_endD, fpSingle_of_endS, fpSingle_of_endS, fpSingle_of_endS, fpDouble_of_endD,
    fpDouble_of_endD, fpDouble_of_endD, fpPaired_of_endPS, fpPaired_of_endPS, fpPaired_of_endPS,
    fpPaired_of_endPS, fpPaired_of_endPS, fpSingle_of_endS, fpDouble_of_endD, fpPaired_of_endPS, fpSingle_of_endS,
    fpDouble_of_endD, fpPaired_of_endPS, fpSingle_of_endS, fpDouble_of_endD, fpPaired_of_endPS, fpSingle_of_endS,
    fpDouble_of_endD, fpPaired_of_endPS⟩

/-- Settles O53: each meaning ends in `endS` for a single or a word, in `endD` for a double or a long. -/
theorem fpConversionInstructions : Obligations.FpConversionInstructions := fun _ _ =>
  ⟨fpDouble_of_endD, fpDouble_of_endD, fpSingle_of_endS, fpSingle_of_endS, fpDouble_of_endD, fpDouble_of_endD,
    fpSingle_of_endS, fpSingle_of_endS, fpDouble_of_endD, fpDouble_of_endD, fpSingle_of_endS, fpSingle_of_endS,
    fpDouble_of_endD, fpDouble_of_endD, fpSingle_of_endS, fpSingle_of_endS, fpDouble_of_endD, fpDouble_of_endD,
    fpSingle_of_endS, fpSingle_of_endS, fpSingle_of_endS, fpSingle_of_endS, fpSingle_of_endS, fpDouble_of_endD,
    fpDouble_of_endD, fpDouble_of_endD⟩

end Sys2Proof.Machine
end

section
/-! The moves within, to and from the floating-point unit: `FpMoves`. -/

namespace Sys2Proof.Machine

variable {s : State} {i : Instr} {n : Reg}

/-! ### Moves (R506, R547 to R550, R552) -/

theorem completes_of_writeS {v : Word} (h : exec i s = .next (s.writeS n v).advance) :
    Completes i s fun t => SingleSet s t n v ∧ t.fcr31 = s.fcr31 ∧ OnlyFpu s t := by
  obtain ⟨hfcr, honly, hgo⟩ := onlyFpu_advance (writeS_frame s n v)
  exact ⟨_, h, ⟨singleSet_writeS s n v, hfcr, honly⟩, hgo⟩

theorem completes_of_writeD {v : Dword} (h : exec i s = .next (s.writeD n v).advance) :
    Completes i s fun t => DoubleSet s t n v ∧ t.fcr31 = s.fcr31 ∧ OnlyFpu s t := by
  obtain ⟨hfcr, honly, hgo⟩ := onlyFpu_advance (writeD_frame s n v)
  exact ⟨_, h, ⟨doubleSet_writeD s n v, hfcr, honly⟩, hgo⟩

theorem low32_eq_ofNat (v : Dword) : low32 v = BitVec.ofNat 32 v.toNat := by
  rw [← low32_ofNat, BitVec.ofNat_toNat, BitVec.setWidth_eq]

/-! ### CTC1 (R551) -/

/-- A value of FCR31 traps by its bits: Cause.E, or a Cause bit with its enable (R551). -/
theorem fcr31Traps_iff (f : Word) :
    fcr31Traps f = true ↔
      f.getLsbD 17 = true ∨ ∃ b, b < 5 ∧ f.getLsbD (12 + b) = true ∧ f.getLsbD (7 + b) = true := by
  rw [fcr31Traps, trapsWith_iff]
  refine or_congr (by simp) (exists_congr fun b => and_congr_right fun hb => ?_)
  simp [hb, show b < 6 by omega]

theorem exec_ctc1 (hcu : s.cu 1 = true) (rt fs : Reg) :
    exec (.ctc1 rt fs) s = (writeFcr s fs (s.readGpr rt)).finish := fpInstruction_of_usable hcu _

/-- Settles O55: each move writes one register; CTC1 writes FCR31 alone, and traps on what it has written. -/
theorem fpMoves : Obligations.FpMoves := by
  intro s rt fs fd hcu f traps
  have hrun : ∀ {i : Instr} {t : State}, (∃ k, exec i s = fpInstruction s k ∧ k s = .ok () t) →
      exec i s = .next t.advance := fun ⟨_, hi, hk⟩ => hi.trans (fpInstruction_of_ok hcu hk)
  have hwritten : writableFcr31 (low32 (s.readGpr rt)) = f := by rw [low32_eq_ofNat]; rfl
  have hctc1 : exec (.ctc1 rt 31) s =
      (if fcr31Traps f then .raise .floatingPoint (s.setFcr31 f) else .ok () (s.setFcr31 f) : Res Unit).finish := by
    rw [exec_ctc1 hcu, ← hwritten]
    rfl
  refine ⟨completes_of_writeS (hrun ⟨_, rfl, rfl⟩), completes_of_writeD (hrun ⟨_, rfl, rfl⟩),
    completes_of_writeD (hrun ⟨_, rfl, rfl⟩), ?_, setsRegister_of_writeGpr (hrun ⟨_, rfl, rfl⟩), ?_,
    completes_of_writeD (hrun ⟨_, rfl, rfl⟩), cfc1_zero_setsRegister hcu rt, ?_, fun h0 h31 => ?_, fun h => ?_,
    fun h => ?_, fun h31 => ?_⟩
  · rw [← sext32_eq_signedOf]
    exact setsRegister_of_writeGpr (hrun ⟨_, rfl, rfl⟩)
  · rw [← low32_eq_ofNat]
    exact completes_of_writeS (hrun ⟨_, rfl, rfl⟩)
  · rw [← sext32_eq_signedOf]
    exact setsRegister_of_writeGpr (hrun ⟨_, rfl, rfl⟩)
  · have hread : s.readFcr fs = 0 := by rw [State.readFcr, if_neg h0, if_neg h31]
    rw [← hread]
    exact setsRegister_of_writeGpr (hrun ⟨_, rfl, rfl⟩)
  · rw [hctc1, if_pos ((fcr31Traps_iff f).mpr h)]
    rfl
  · rw [if_neg (mt (fcr31Traps_iff f).mp h)] at hctc1
    exact ⟨_, hctc1, ⟨rfl, rfl, rfl, fun _ => rfl, fun _ => rfl, fun _ => rfl, fun _ => rfl, fun _ => rfl⟩, rfl, rfl⟩
  · refine ⟨s.advance, ?_, onlyPc_advance s, rfl, rfl⟩
    rw [exec_ctc1 hcu, writeFcr, if_neg h31]
    rfl

end Sys2Proof.Machine
end

section
/-! Taking an exception (spec/60_exceptions.md): the entry procedure for each exception and the address registers:
`ExceptionEntry` and `AddressRegisters`. -/

namespace Sys2Proof.Machine

/-! ### The entry procedure (R630) -/

/-- Settles O15: each exception is taken by the one entry procedure, with the code of its row of R620. -/
theorem exceptionEntry : Obligations.ExceptionEntry := fun s =>
  ⟨enters_takeException .interrupt s,
    fun va => enters_takeException (.tlbModified va) s,
    fun store va => by cases store <;> exact enters_takeException (.tlbRefill _ va) s,
    fun store va => by cases store <;> exact enters_takeException (.tlbInvalid _ va) s,
    fun store va => by cases store <;> exact enters_takeException (.addressError _ va) s,
    fun fetch => by cases fetch <;> exact enters_takeException (.busError _) s,
    enters_takeException .syscall s, enters_takeException .breakpoint s,
    enters_takeException .reservedInstruction s,
    fun unit => ⟨enters_takeException (.coprocessorUnusable unit) s, rfl⟩,
    enters_takeException .overflow s, enters_takeException .trap s, enters_takeException .floatingPoint s,
    enters_takeException .watch s⟩

/-! ### The address registers (R641, R643) -/

theorem contextFor_toNat (old va : Dword) :
    (contextFor old va).toNat = old.toNat / 2 ^ 23 * 2 ^ 23 + va.toNat / 2 ^ 13 % 2 ^ 19 * 2 ^ 4 := by
  have hold := old.isLt
  simp only [contextFor, toNat_append_eq_add, BitVec.extractLsb'_toNat, Nat.shiftRight_eq_div_pow,
    BitVec.toNat_zero, BitVec.ofNat_eq_ofNat]
  omega

theorem xcontextFor_toNat (old va : Dword) :
    (xcontextFor old va).toNat =
      old.toNat / 2 ^ 33 * 2 ^ 33 + va.toNat / 2 ^ 62 * 2 ^ 31 + va.toNat / 2 ^ 13 % 2 ^ 27 * 2 ^ 4 := by
  have hold := old.isLt
  have hva := va.isLt
  simp only [xcontextFor, toNat_append_eq_add, BitVec.extractLsb'_toNat, Nat.shiftRight_eq_div_pow,
    BitVec.toNat_zero, BitVec.ofNat_eq_ofNat]
  omega

theorem entryHiFor_toNat (old va : Dword) :
    (entryHiFor old va).toNat =
      va.toNat / 2 ^ 62 * 2 ^ 62 + va.toNat / 2 ^ 13 % 2 ^ 27 * 2 ^ 13 + old.toNat % 2 ^ 8 := by
  have hva := va.isLt
  simp only [entryHiFor, toNat_append_eq_add, BitVec.extractLsb'_toNat, Nat.shiftRight_eq_div_pow,
    BitVec.toNat_zero, BitVec.ofNat_eq_ofNat]
  omega

/-- An exception with a TLB address writes the four address registers (R643). -/
theorem takeException_addressRegisters {e : Exc} {va : Dword} (hbad : e.badAddress = some va)
    (htlb : e.tlbAddress = some va) (s : State) :
    (takeException e s).cp0.badVAddr = va ∧ (takeException e s).cp0.context = contextFor s.cp0.context va ∧
      (takeException e s).cp0.xcontext = xcontextFor s.cp0.xcontext va ∧
      (takeException e s).cp0.entryHi = entryHiFor s.cp0.entryHi va := by
  simp [takeException, Exc.recordAddress, hbad, htlb]

/-- No exception writes a register that a TLB instruction reads its entry or its number from, but EntryHi. -/
theorem takeException_tlbRegisters (e : Exc) (s : State) :
    (takeException e s).cp0.indexP = s.cp0.indexP ∧ (takeException e s).cp0.index = s.cp0.index ∧
    (takeException e s).cp0.random = s.cp0.random ∧ (takeException e s).cp0.wired = s.cp0.wired ∧
    (takeException e s).cp0.pageMask = s.cp0.pageMask ∧
    (takeException e s).cp0.entryLo0 = s.cp0.entryLo0 ∧ (takeException e s).cp0.entryLo1 = s.cp0.entryLo1 := by
  unfold takeException Exc.recordAddress
  cases e.badAddress <;> cases e.tlbAddress <;> exact ⟨rfl, rfl, rfl, rfl, rfl, rfl, rfl⟩

/-- Settles O16: which address registers an exception writes follows from the addresses it carries. -/
theorem addressRegisters : Obligations.AddressRegisters := by
  intro s e
  refine ⟨fun va he => ?_, fun store va he => ?_, fun hmod hother => ?_, takeException_tlbRegisters e s⟩
  · have haddr : e.badAddress = some va ∧ e.tlbAddress = some va := by
      rcases he with rfl | ⟨store, rfl | rfl⟩ <;> exact ⟨rfl, rfl⟩
    obtain ⟨hbad, hcontext, hxcontext, hentryHi⟩ := takeException_addressRegisters haddr.1 haddr.2 s
    rw [hcontext, hxcontext, hentryHi]
    exact ⟨hbad, contextFor_toNat .., xcontextFor_toNat .., entryHiFor_toNat ..⟩
  · subst he
    rfl
  · refine sameAddressRegisters_takeException ?_ s
    cases e
    case tlbModified va => exact absurd rfl (hmod va)
    case tlbRefill store va => exact absurd rfl (hother store va).1
    case tlbInvalid store va => exact absurd rfl (hother store va).2.1
    case addressError store va => exact absurd rfl (hother store va).2.2
    all_goals rfl

end Sys2Proof.Machine
end

section
/-! The NMI and the soft reset, and the condition of an interrupt: `NmiEntry` and `InterruptCondition`. -/

namespace Sys2Proof.Machine

/-! ### The NMI and the soft reset (R637, R791, R792) -/

/-- A step whose event is due takes the event alone (R79). -/
theorem step_of_event {s : State} {e : HostEvent} {rest : List TimedEvent} (h : s.events = ⟨0, e⟩ :: rest) :
    step s = eventStep e rest s := by
  simp [step, h]

/-- The step of an event that answers a state: the devices then see the boundary. -/
theorem eventStep_of_ok {s t : State} {e : HostEvent} {rest : List TimedEvent}
    (h : hostEvent e { s with events := rest, taken := none } = .ok () t) :
    eventStep e rest s = .next t.deviceTick := by
  rw [eventStep, h]
  rfl

theorem takeNmi_errorEpc (s : State) :
    (takeNmi s).cp0.errorEpc = if s.delay = none then s.pc else s.pc - 4 := by
  unfold takeNmi
  cases s.delay <;> rfl

/-- Settles O18: the event is an NMI, with the latched pulses cleared in a soft reset, and the boundary after it latches
lines alone. -/
theorem nmiEntry : Obligations.NmiEntry := by
  intro s e rest h
  rw [step_of_event h]
  refine ⟨fun he => ?_, fun he hno => ?_⟩
  · rcases he with rfl | ⟨rfl, hsoft⟩
    · refine ⟨_, eventStep_of_ok rfl, rfl, rfl, takeNmi_errorEpc _, rfl, rfl, fun h => by cases h⟩
    · refine ⟨_, eventStep_of_ok (congrArg (Res.ok ()) (if_pos hsoft)), rfl, rfl, takeNmi_errorEpc _, rfl, rfl,
        fun _ => BitVec.zero_or⟩
  · subst he
    exact ⟨_, eventStep_of_ok (congrArg (Res.ok ()) (if_neg (by simp [hno]))), rfl⟩

/-! ### The condition of an interrupt (R670, R671) -/

/-- Bits 15 to 8 of Cause are the interrupt bits (R44). -/
theorem causeWord_getLsbD_ip (s : State) {n : Nat} (hn : n < 8) :
    s.causeWord.getLsbD (8 + n) = s.causeIp.getLsbD n := by
  unfold State.causeWord
  simp only [BitVec.getLsbD_append]
  simp [show ¬ (8 + n < 2) by omega, show ¬ (8 + n - 2 < 5) by omega, show ¬ (8 + n - 2 - 5 < 1) by omega,
    show 8 + n - 2 - 5 - 1 = n by omega, hn]

theorem status_getLsbD_im (s : State) {n : Nat} (hn : n < 8) : s.cp0.status.getLsbD (8 + n) = s.im.getLsbD n := by
  simp [State.im, hn]

/-- The bits of Cause.IP, from its four sources (R671). -/
theorem causeIp_getLsbD (s : State) {n : Nat} (hn : n < 8) :
    s.causeIp.getLsbD n =
      if n < 2 then s.cp0.cause.sw.getLsbD n
      else if n < 6 then s.intisr.getLsbD (11 + (n - 2))
      else if n = 6 then s.irq5 || s.perfOverflow
      else s.cp0.cause.timer := by
  unfold State.causeIp
  simp only [BitVec.getLsbD_append, BitVec.getLsbD_extractLsb', BitVec.getLsbD_ofBool]
  interval_cases n <;> rfl

theorem irq5_iff (s : State) :
    s.irq5 = true ↔ ∃ n, n < 11 ∧ s.intisr.getLsbD n = true ∧ (s.reg 14).getLsbD n = true := by
  rw [State.irq5, bne_iff_ne, and_ne_zero_iff]
  refine exists_congr fun n => and_congr_right fun hn => ?_
  simp [hn]

theorem perfOverflow_iff (s : State) :
    s.perfOverflow = true ↔
      s.cp0.perfControl.getLsbD 4 = true ∧ (2 ^ 31 ≤ s.cp0.perf0.toNat ∨ 2 ^ 31 ≤ s.cp0.perf1.toNat) := by
  have htop : ∀ x : Word, x.getLsbD 31 = true ↔ 2 ^ 31 ≤ x.toNat := fun x => by
    have hmsb : x.msb = x.getLsbD 31 := BitVec.msb_eq_getLsbD_last _
    rw [← hmsb, BitVec.msb_eq_decide, decide_eq_true_iff]
  simp only [State.perfOverflow, Bool.and_eq_true, Bool.or_eq_true, htop]

theorem interruptPending_iff (s : State) :
    s.interruptPending = true ↔
      (∃ n, n < 8 ∧ s.causeIp.getLsbD n = true ∧ s.im.getLsbD n = true) ∧
        s.ie = true ∧ s.exl = false ∧ s.erl = false := by
  rw [State.interruptPending, Bool.and_eq_true, bne_iff_ne, and_ne_zero_iff]
  simp [State.interruptsEnabled, and_assoc]

/-- Settles O8: the interrupt bits of Cause one by one, and the condition on them. -/
theorem interruptCondition : Obligations.InterruptCondition := by
  intro s
  refine ⟨?_, ?_, ?_, fun n hn => ?_, fun n hn => ?_, ?_⟩
  · rw [interruptPending_iff]
    refine and_congr (exists_congr fun n => and_congr_right fun hn => ?_) Iff.rfl
    rw [causeWord_getLsbD_ip s hn, status_getLsbD_im s hn]
  · rw [causeWord_getLsbD_ip s (n := 7) (by decide), causeIp_getLsbD s (by decide)]
    rfl
  · rw [causeWord_getLsbD_ip s (n := 6) (by decide), causeIp_getLsbD s (by decide), ← irq5_iff, ← perfOverflow_iff,
      ← Bool.or_eq_true]
    rfl
  · rw [show 10 + n = 8 + (n + 2) by omega, causeWord_getLsbD_ip s (by omega), causeIp_getLsbD s (by omega),
      if_neg (by omega), if_pos (by omega), Nat.add_sub_cancel]
  · rw [causeWord_getLsbD_ip s (by omega), causeIp_getLsbD s (by omega), if_pos hn]
  · rw [State.interruptDue, Bool.and_eq_true, decide_eq_true_iff]

end Sys2Proof.Machine
end

section
/-! Precise exceptions (R621): `ExceptionsArePrecise`.  Each shared shape of the meanings goes on without an exception, or
takes one from the state before the instruction, of which a floating-point exception has written FCR31; the case split
goes by these shapes. -/

namespace Sys2Proof.Machine

variable {α β : Type} {s t : State}

/-! ### Results -/

/-- A computation that began in `s` has recorded no exception, or raises one from `s`, of which a floating-point exception
has written FCR31. -/
def Res.PreciseFrom (s : State) : Res α → Prop
  | .ok _ t => t.taken = none
  | .raise e t => ∃ f, t = s.setFcr31 f ∧ (e ≠ .floatingPoint → f = s.fcr31)
  | .fault _ => True
  | .refuse _ => True

theorem Res.preciseFrom_raise (s : State) (e : Exc) : (Res.raise e s : Res α).PreciseFrom s :=
  ⟨s.fcr31, rfl, fun _ => rfl⟩

theorem Res.PreciseFrom.bind {r : Res α} {k : α → State → Res β} (hr : r.PreciseFrom s)
    (hk : ∀ a t, t.taken = none → (k a t).PreciseFrom s) : (r.bind k).PreciseFrom s := by
  cases r with
  | ok a t => exact hk a t hr
  | raise e t => exact hr
  | fault | refuse => trivial

/-- What follows a check that leaves the state as it is. -/
theorem Res.PreciseFrom.bind_check {r : Res α} {k : α → State → Res β} (hr : r.Keeps (· = s))
    (hk : ∀ a, (k a s).PreciseFrom s) : (r.bind k).PreciseFrom s := by
  cases r with
  | ok a t => exact (show t = s from hr) ▸ hk a
  | raise e t => exact (show t = s from hr) ▸ Res.preciseFrom_raise s e
  | fault | refuse => trivial

theorem HasCore.taken (h : HasCore t.core s) : s.taken = t.taken := by
  rw [show s.taken = s.core.taken from rfl, show s.core = t.core from h]
  rfl

/-- A computation that keeps the core and never raises is precise wherever it begins. -/
theorem Res.preciseFrom_of_neverRaises {r : Res α} (hn : r.NeverRaises) (hc : r.Keeps (HasCore t.core))
    (ht : t.taken = none) (s : State) : r.PreciseFrom s := by
  cases r with
  | ok a u => exact hc.taken.trans ht
  | raise => exact hn.elim
  | fault | refuse => trivial

/-- `Res.precise` makes a computation that keeps the core precise. -/
theorem Res.preciseFrom_precise {r : Res α} (hc : (r.precise s).Keeps (HasCore s.core)) (hs : s.taken = none) :
    (r.precise s).PreciseFrom s := by
  cases r with
  | ok a u => exact (HasCore.taken hc).trans hs
  | raise e u => exact Res.preciseFrom_raise s e
  | fault | refuse => trivial

/-! ### Ends of instructions -/

/-- An instruction that began in `s` goes on without an exception, or has taken one precisely. -/
def PreciseNext (s : State) (o : Outcome) : Prop :=
  NextKeeps (fun t => t.taken = none ∨
    ∃ e f, t = takeException e (s.setFcr31 f) ∧ (e ≠ .floatingPoint → f = s.fcr31)) o

theorem preciseNext_next (h : t.taken = none) : PreciseNext s (.next t) := .inl h

theorem preciseNext_exception (s : State) (e : Exc) : PreciseNext s (.next (takeException e s)) :=
  .inr ⟨e, s.fcr31, rfl, fun _ => rfl⟩

theorem preciseNext_finish {r : Res Unit} (h : r.PreciseFrom s) : PreciseNext s r.finish := by
  cases r with
  | ok a t => exact preciseNext_next h
  | raise e t =>
    obtain ⟨f, rfl, hf⟩ := h
    exact .inr ⟨e, f, rfl, hf⟩
  | fault | refuse => trivial

/-! ### Integer instructions and control transfers -/

theorem preciseNext_writeResult (hs : s.taken = none) (rd : Reg) (x : Dword) : PreciseNext s (writeResult s rd x) :=
  preciseNext_next (by simpa using hs)

theorem preciseNext_writeOrOverflow (hs : s.taken = none) (rd : Reg) (x : Option Dword) :
    PreciseNext s (writeOrOverflow s rd x) := by
  cases x with
  | some x => exact preciseNext_writeResult hs rd x
  | none => exact preciseNext_exception s .overflow

theorem preciseNext_setHiLo (hs : s.taken = none) (hi lo : Dword) : PreciseNext s (complete (s.setHiLo hi lo)) :=
  preciseNext_next hs

theorem preciseNext_divide (hs : s.taken = none) (toReg : Int → Dword) (a b : Int) :
    PreciseNext s (divide s toReg a b) := by
  unfold divide
  split <;> exact preciseNext_setHiLo hs _ _

theorem preciseNext_trapIf (hs : s.taken = none) (c : Bool) : PreciseNext s (trapIf s c) := by
  cases c with
  | true => exact preciseNext_exception s .trap
  | false => exact preciseNext_next hs

theorem preciseNext_outsideDelaySlot {u : State} (ht : t.taken = none) :
    PreciseNext s (outsideDelaySlot u t) := by
  unfold outsideDelaySlot
  split
  · trivial
  · exact preciseNext_next ht

theorem preciseNext_jump (ht : t.taken = none) (target : Dword) : PreciseNext s (jump t target) :=
  preciseNext_outsideDelaySlot ht

theorem preciseNext_branch (ht : t.taken = none) (c : Bool) (target : Dword) : PreciseNext s (branch t c target) := by
  rw [branch_eq_jump]
  exact preciseNext_jump ht _

theorem preciseNext_branchLikely (ht : t.taken = none) (c : Bool) (target : Dword) :
    PreciseNext s (branchLikely t c target) := by
  cases c <;> exact preciseNext_outsideDelaySlot ht

theorem taken_linkTo (hs : s.taken = none) (rd : Reg) : (s.linkTo rd).taken = none := by
  simpa [State.linkTo] using hs

/-! ### Loads and stores (R130) -/

theorem memRead_precise (hs : s.taken = none) (va : Dword) (n : Nat) : (memRead s va n).PreciseFrom s :=
  Res.preciseFrom_precise (memRead_core (hasCore_core s) va n) hs

theorem memWrite_precise (hs : s.taken = none) (va : Dword) (n : Nat) (x : Dword) :
    (memWrite s va n x).PreciseFrom s :=
  Res.preciseFrom_precise (memWrite_core (hasCore_core s) va n x) hs

theorem preciseNext_load (hs : s.taken = none) (rt : Reg) (va : Dword) (n : Nat) (extend : Dword → Dword) :
    PreciseNext s (load s rt va n extend) := by
  unfold load
  split
  · exact preciseNext_next hs
  · exact preciseNext_finish ((memRead_precise hs va n).bind fun _ u hu => (State.writeGpr_taken ..).trans hu)

theorem preciseNext_loadPart (hs : s.taken = none) (rt : Reg) (p : Part) (merge : Dword → Dword → Dword) :
    PreciseNext s (loadPart s rt p merge) := by
  unfold loadPart
  split
  · exact preciseNext_next hs
  · have hread : (memReadPart s p.va p.first p.count).PreciseFrom s :=
      Res.preciseFrom_precise (memReadPart_core (hasCore_core s) ..) hs
    exact preciseNext_finish (hread.bind fun _ u hu => (State.writeGpr_taken ..).trans hu)

theorem preciseNext_loadLinked (hs : s.taken = none) (rt : Reg) (va : Dword) (n : Nat) (extend : Dword → Dword) :
    PreciseNext s (loadLinked s rt va n extend) := by
  unfold loadLinked
  split
  · exact preciseNext_next hs
  · exact preciseNext_finish ((memRead_precise hs va n).bind fun _ u hu => (State.writeGpr_taken ..).trans hu)

theorem preciseNext_storePart (hs : s.taken = none) (p : Part) (x : Dword) : PreciseNext s (storePart s p x) :=
  preciseNext_finish (Res.preciseFrom_precise (memWritePart_core (hasCore_core s) ..) hs)

theorem preciseNext_storeConditional (hs : s.taken = none) (rt : Reg) (va : Dword) (n : Nat) :
    PreciseNext s (storeConditional s rt va n) := by
  have hwrite : (memWriteConditional s va n (s.readGpr rt)).PreciseFrom s :=
    Res.preciseFrom_precise (memWriteConditional_core (hasCore_core s) ..) hs
  exact preciseNext_finish (hwrite.bind fun _ u hu => (State.writeGpr_taken ..).trans hu)

/-! ### SYNC (R402) -/

theorem physWriteEach_neverRaises (pa : BitVec 40) (bs : List Byte) : (physWriteEach s pa bs).NeverRaises := by
  induction bs generalizing s pa with
  | nil => exact Res.neverRaises_ok ..
  | cons b bs ih => exact (physWrite_neverRaises pa [b]).bind fun _ _ => ih _

theorem flushGather_neverRaises (s : State) : (flushGather s).NeverRaises := by
  unfold flushGather
  repeat' split
  · exact Res.neverRaises_ok ..
  · exact physWrite_neverRaises ..
  · exact physWriteEach_neverRaises ..

/-! ### Floating point -/

theorem preciseNext_fpInstruction {k : State → Res Unit} (hk : (k s).PreciseFrom s) :
    PreciseNext s (fpInstruction s k) := by
  rw [fpInstruction_eq]
  split
  · exact preciseNext_finish hk
  · exact preciseNext_exception s _

theorem preciseNext_ifCp1 {o : Outcome} (ho : PreciseNext s o) : PreciseNext s (ifCp1 s o) := by
  unfold ifCp1
  rcases checkCp1_cases s with ⟨-, hc⟩ | ⟨-, hc⟩ <;> rw [hc]
  · exact ho
  · exact preciseNext_exception s _

/-- The floating-point exception is taken with FCR31.Cause written (R487). -/
theorem fpEnd_precise (hs : s.taken = none) (c : Conditions) {write : State → State}
    (hw : ∀ t, (write t).taken = t.taken) : (fpEnd s c write).PreciseFrom s := by
  rw [fpEnd_eq]
  split
  · exact ⟨_, rfl, fun h => absurd rfl h⟩
  · exact (hw _).trans hs

/-- CTC1 takes the floating-point exception with FCR31 written (R551). -/
theorem writeFcr_precise (hs : s.taken = none) (n : Reg) (x : Dword) : (writeFcr s n x).PreciseFrom s := by
  unfold writeFcr
  dsimp only
  repeat' split
  · exact ⟨_, rfl, fun h => absurd rfl h⟩
  · exact hs
  · exact hs

/-! ### Coprocessor 0 -/

theorem checkCp0_state (s : State) : (checkCp0 s).Keeps (· = s) := by
  rcases checkCp0_cases s with ⟨-, hc⟩ | ⟨-, -, hc⟩ | ⟨-, -, hc⟩ <;> rw [hc]
  · exact rfl
  · exact rfl
  · exact Res.keeps_refuse _

theorem preciseNext_cp0Instruction {k : State → Res Unit} (hk : (k s).PreciseFrom s) :
    PreciseNext s (cp0Instruction s k) :=
  preciseNext_finish (.bind_check (checkCp0_state s) fun _ => hk)

theorem preciseNext_moveFromCp0 (hs : s.taken = none) (rt rd : Reg) (view : Dword → Dword) :
    PreciseNext s (moveFromCp0 s rt rd view) := by
  have hwrite : (s.writeGpr rt (view (s.readCp0 rd))).taken = none := (State.writeGpr_taken ..).trans hs
  unfold moveFromCp0
  split
  · exact preciseNext_next hwrite
  · exact preciseNext_cp0Instruction hwrite

theorem writeCp0_taken (s : State) (n : Reg) (x : Dword) : (s.writeCp0 n x).taken = s.taken := by
  unfold State.writeCp0
  dsimp only
  repeat' split
  all_goals rfl

theorem probeTlb_precise (hs : s.taken = none) : (probeTlb s).PreciseFrom s := by
  unfold probeTlb
  split
  · exact hs
  · exact hs
  · trivial

theorem writeTlbEntry_precise (hs : s.taken = none) (n : BitVec 6) : (writeTlbEntry s n).PreciseFrom s := by
  unfold writeTlbEntry
  split
  · exact hs
  · trivial

theorem preciseNext_eret (hs : s.taken = none) : PreciseNext s (execEret s) := by
  unfold execEret ifCp0
  rcases checkCp0_cases s with ⟨-, hc⟩ | ⟨-, -, hc⟩ | ⟨-, -, hc⟩ <;> rw [hc]
  · exact preciseNext_outsideDelaySlot (u := s) (t := returnFromException s) hs
  · exact preciseNext_exception s _
  · trivial

/-! ### CACHE (R450 to R465) -/

theorem evictData_neverRaises (s : State) (k : Nat) : (evictData s k).NeverRaises := by
  refine Res.NeverRaises.bind ?_ fun _ _ => Res.neverRaises_ok ..
  unfold writeBackData
  dsimp only
  repeat' split
  · exact Res.neverRaises_ok ..
  · exact Res.neverRaises_ok ..
  · exact physWrite_neverRaises ..

theorem evictSecondary_neverRaises (s : State) (k : Nat) (writeBack : Bool) :
    (evictSecondary s k writeBack).NeverRaises := by
  unfold evictSecondary
  dsimp only
  repeat' split
  · exact Res.neverRaises_ok ..
  · exact physWrite_neverRaises ..
  · exact Res.neverRaises_ok ..

theorem evictData_precise (ht : t.taken = none) (s : State) (k : Nat) : (evictData t k).PreciseFrom s :=
  Res.preciseFrom_of_neverRaises (evictData_neverRaises t k) (evictData_core (hasCore_core t) k) ht s

theorem evictSecondary_precise (ht : t.taken = none) (s : State) (k : Nat) (writeBack : Bool) :
    (evictSecondary t k writeBack).PreciseFrom s :=
  Res.preciseFrom_of_neverRaises (evictSecondary_neverRaises t k writeBack)
    (evictSecondary_core (hasCore_core t) k writeBack) ht s

/-- The hit operations that evict lines one after the other. -/
theorem evictEach_precise {hit : State → Nat → Bool} {evict : State → Nat → Res Unit}
    (hevict : ∀ t k, t.taken = none → (evict t k).PreciseFrom s) (ht : t.taken = none) (keys : List Nat) :
    (evictEach hit evict t keys).PreciseFrom s := by
  induction keys generalizing t with
  | nil => exact ht
  | cons k keys ih =>
    unfold evictEach
    split
    · exact (hevict t k ht).bind fun _ _ => ih
    · exact ih ht

theorem indexInvalidateI_taken (hs : s.taken = none) (va : Dword) : (indexInvalidateI s va).taken = none := by
  refine foldl_keeps (P := fun t : State => t.taken = none) _ (fun t k ht => ?_) _ hs
  exact ht

theorem hitInvalidateD_taken (hs : s.taken = none) (va : Dword) (pa : BitVec 40) :
    (hitInvalidateD s va pa).taken = none := by
  refine foldl_keeps (P := fun t : State => t.taken = none) _ (fun t k ht => ?_) _ hs
  split <;> exact ht

theorem cacheOperationOf_precise (hs : s.taken = none) (i : Instr) (va : Dword) (pa : BitVec 40) :
    (cacheOperationOf i va pa s).PreciseFrom s := by
  cases i
  case cache_index_invalidate_i => exact indexInvalidateI_taken hs va
  case cache_index_writeback_invalidate_d => exact evictData_precise hs s _
  case cache_hit_invalidate_d => exact hitInvalidateD_taken hs va pa
  case cache_hit_writeback_invalidate_d =>
    show (evictMatchingD s pa _).PreciseFrom s
    rw [evictMatchingD_eq]
    exact evictEach_precise (fun t k ht => evictData_precise ht s k) hs _
  case cache_index_writeback_invalidate_s => exact evictSecondary_precise hs s _ true
  case cache_hit_invalidate_s | cache_hit_writeback_invalidate_s =>
    show (evictMatchingS s pa _ _).PreciseFrom s
    rw [evictMatchingS_eq]
    exact evictEach_precise (fun t k ht => evictSecondary_precise ht s k _) hs _
  case cache_index_load_tag_d | cache_index_store_tag_d | cache_index_load_data_d | cache_index_store_data_d
      | cache_index_load_tag_s | cache_index_store_tag_s | cache_index_load_data_s | cache_index_store_data_s =>
    exact hs
  all_goals trivial

theorem preciseNext_cache (hs : s.taken = none) {i : Instr} {a : CacheOperands} (hi : cacheOperandsOf i = some a) :
    PreciseNext s (exec i s) := by
  have hcheck : (checkCache s a.userOperation).Keeps (· = s) := by
    unfold checkCache
    split
    · exact rfl
    · exact checkCp0_state s
  have haddress : (cacheAddress s (s.effectiveAddress a.base a.offset)).Keeps (· = s) := by
    refine (translate_data_state (by decide) s _).bind_state rfl fun r => ?_
    split
    · exact rfl
    · exact Res.keeps_refuse _
  rw [exec_cache hi]
  exact preciseNext_finish (.bind_check hcheck fun _ => .bind_check haddress fun pa =>
    cacheOperationOf_precise hs i _ pa)

/-! ### Every instruction -/

theorem exec_preciseNext (hs : s.taken = none) (i : Instr) : PreciseNext s (exec i s) := by
  cases i
  case lb | lbu | lh | lhu | lw | lwu | ld => exact preciseNext_load hs _ _ _ _
  case lwl | lwr | ldl | ldr => exact preciseNext_loadPart hs _ _ _
  case ll | lld => exact preciseNext_loadLinked hs _ _ _ _
  case sb | sh | sw | sd => exact preciseNext_finish (memWrite_precise hs ..)
  case swl | swr | sdl | sdr => exact preciseNext_storePart hs _ _
  case sc | scd => exact preciseNext_storeConditional hs _ _ _
  case lwc1 =>
    exact preciseNext_fpInstruction ((memRead_precise hs ..).bind fun _ u hu => (State.writeS_taken ..).trans hu)
  case ldc1 =>
    exact preciseNext_fpInstruction ((memRead_precise hs ..).bind fun _ u hu => (State.writeD_taken ..).trans hu)
  case swc1 | sdc1 => exact preciseNext_fpInstruction (memWrite_precise hs ..)
  case addi | daddi | add | sub | dadd | dsub => exact preciseNext_writeOrOverflow hs _ _
  case addiu | daddiu | slti | sltiu | andi | ori | xori | lui | addu | subu | daddu | dsubu | slt | sltu | and | or
      | xor | nor | sll | srl | sra | dsll | dsrl | dsra | dsll32 | dsrl32 | dsra32 | sllv | srlv | srav | dsllv
      | dsrlv | dsrav | mfhi | mflo | multg | multug | dmultg | dmultug | divg | divug | ddivg | ddivug | modg | modug
      | dmodg | dmodug => exact preciseNext_writeResult hs _ _
  case movz rs rt rd =>
    show PreciseNext s (execMovz rs rt rd s)
    rw [execMovz_eq_writeResult]
    exact preciseNext_writeResult hs _ _
  case movn rs rt rd =>
    show PreciseNext s (execMovn rs rt rd s)
    rw [execMovn_eq_writeResult]
    exact preciseNext_writeResult hs _ _
  case mthi | mtlo | mult | multu | dmult | dmultu => exact preciseNext_setHiLo hs _ _
  case div | divu | ddiv | ddivu => exact preciseNext_divide hs _ _ _
  case j | jr => exact preciseNext_jump hs _
  case jal | jalr => exact preciseNext_jump (taken_linkTo hs _) _
  case beq | bne | blez | bgtz | bltz | bgez => exact preciseNext_branch hs _ _
  case bltzal | bgezal => exact preciseNext_branch (taken_linkTo hs _) _ _
  case beql | bnel | blezl | bgtzl | bltzl | bgezl => exact preciseNext_branchLikely hs _ _
  case bltzall | bgezall => exact preciseNext_branchLikely (taken_linkTo hs _) _ _
  case bc1f | bc1t => exact preciseNext_ifCp1 (preciseNext_branch hs _ _)
  case bc1fl | bc1tl => exact preciseNext_ifCp1 (preciseNext_branchLikely hs _ _)
  case syscall | break_ => exact preciseNext_exception s _
  case tge | tgeu | tlt | tltu | teq | tne | tgei | tgeiu | tlti | tltiu | teqi | tnei => exact preciseNext_trapIf hs _
  case sync =>
    exact preciseNext_finish
      (Res.preciseFrom_of_neverRaises (flushGather_neverRaises s) (flushGather_core (hasCore_core s)) hs s)
  case mtc0 | dmtc0 => exact preciseNext_cp0Instruction ((writeCp0_taken ..).trans hs)
  case tlbp => exact preciseNext_cp0Instruction (probeTlb_precise hs)
  case tlbr => exact preciseNext_cp0Instruction hs
  case tlbwi | tlbwr => exact preciseNext_cp0Instruction (writeTlbEntry_precise hs _)
  case mfc0 => exact preciseNext_moveFromCp0 hs _ _ fun x => sext32 (low32 x)
  case dmfc0 => exact preciseNext_moveFromCp0 hs _ _ id
  case eret => exact preciseNext_eret hs
  case cache | cache_index_invalidate_i | cache_index_writeback_invalidate_d | cache_index_load_tag_d
      | cache_index_store_tag_d | cache_hit_invalidate_d | cache_hit_writeback_invalidate_d | cache_index_load_data_d
      | cache_index_store_data_d | cache_index_writeback_invalidate_s | cache_index_load_tag_s
      | cache_index_store_tag_s | cache_hit_invalidate_s | cache_hit_writeback_invalidate_s | cache_index_load_data_s
      | cache_index_store_data_s => exact preciseNext_cache hs rfl
  case add_s | sub_s | mul_s | div_s | sqrt_s | abs_s | neg_s | madd_s | msub_s | nmadd_s | nmsub_s | round_w_s
      | round_w_d | trunc_w_s | trunc_w_d | ceil_w_s | ceil_w_d | floor_w_s | floor_w_d | cvt_w_s | cvt_w_d | cvt_s_d
      | cvt_s_w | cvt_s_l =>
    exact preciseNext_fpInstruction (fpEnd_precise hs _ fun t => State.writeS_taken t _ _)
  case add_d | sub_d | mul_d | div_d | sqrt_d | abs_d | neg_d | madd_d | msub_d | nmadd_d | nmsub_d | add_ps | sub_ps
      | mul_ps | abs_ps | neg_ps | madd_ps | msub_ps | nmadd_ps | nmsub_ps | round_l_s | round_l_d | trunc_l_s
      | trunc_l_d | ceil_l_s | ceil_l_d | floor_l_s | floor_l_d | cvt_l_s | cvt_l_d | cvt_d_s | cvt_d_w | cvt_d_l =>
    exact preciseNext_fpInstruction (fpEnd_precise hs _ fun t => State.writeD_taken t _ _)
  case c_f_s | c_un_s | c_eq_s | c_ueq_s | c_olt_s | c_ult_s | c_ole_s | c_ule_s | c_sf_s | c_ngle_s | c_seq_s
      | c_ngl_s | c_lt_s | c_nge_s | c_le_s | c_ngt_s | c_f_d | c_un_d | c_eq_d | c_ueq_d | c_olt_d | c_ult_d
      | c_ole_d | c_ule_d | c_sf_d | c_ngle_d | c_seq_d | c_ngl_d | c_lt_d | c_nge_d | c_le_d | c_ngt_d | c_f_ps
      | c_un_ps | c_eq_ps | c_ueq_ps | c_olt_ps | c_ult_ps | c_ole_ps | c_ule_ps | c_sf_ps | c_ngle_ps | c_seq_ps
      | c_ngl_ps | c_lt_ps | c_nge_ps | c_le_ps | c_ngt_ps =>
    exact preciseNext_fpInstruction (fpEnd_precise hs _ fun _ => rfl)
  case mov_s | mtc1 => exact preciseNext_fpInstruction ((State.writeS_taken ..).trans hs)
  case mov_d | mov_ps | dmtc1 => exact preciseNext_fpInstruction ((State.writeD_taken ..).trans hs)
  case mfc1 | dmfc1 | cfc1 => exact preciseNext_fpInstruction ((State.writeGpr_taken ..).trans hs)
  case ctc1 => exact preciseNext_fpInstruction (writeFcr_precise hs _ _)

/-- Settles O13: every meaning is precise, and the entry procedure changes what `Enters` names. -/
theorem exceptionsArePrecise : Obligations.ExceptionsArePrecise := by
  intro i s t e hs hexec htaken
  rcases (exec_preciseNext hs i).next hexec with hnone | ⟨e', f, rfl, hf⟩
  · cases hnone.symm.trans htaken
  · cases (Option.some.injEq ..).mp htaken
    obtain ⟨hplain, -, -, -, -, -, hframe, -⟩ := enters_takeException e (s.setFcr31 f)
    refine ⟨⟨f, rfl, hf⟩, hframe, fun hexl hdelay => ?_⟩
    obtain ⟨hepc, hbd⟩ := hplain hexl
    exact ⟨hepc.trans (if_neg hdelay), hbd.trans (Option.isSome_iff_ne_none.mpr hdelay)⟩

end Sys2Proof.Machine
end

section
/-! SUPPORT. Floating-point values as rational numbers, and bit patterns and their fields: what `unpack` answers for each
pattern that the operations build (R481). -/

namespace Sys2Proof.Machine

variable {f : FpFormat} {v : FpValue} {neg : Bool} {a : Nat}

/-! ### Values as rational numbers -/

/-- The factor of a sign. -/
def signFactor (neg : Bool) : ℚ := if neg then -1 else 1

@[simp] theorem signFactor_false : signFactor false = 1 := rfl
@[simp] theorem signFactor_true : signFactor true = -1 := rfl

theorem signFactor_not (n : Bool) : signFactor (!n) = -signFactor n := by cases n <;> simp

theorem signFactor_bne (p q : Bool) : signFactor (p != q) = signFactor p * signFactor q := by
  cases p <;> cases q <;> simp

theorem signFactor_ne_zero (n : Bool) : signFactor n ≠ 0 := by cases n <;> simp

/-- The rational number a finite value stands for. -/
def FpValue.toRat (v : FpValue) : ℚ := signFactor v.neg * (v.mag * 2 ^ v.exp)

@[simp] theorem FpValue.toRat_zero (n : Bool) : (FpValue.zero n).toRat = 0 := by simp [FpValue.toRat, FpValue.mag]

theorem FpValue.toRat_normal (n : Bool) (m : Nat) (e : Int) :
    (FpValue.normal n m e).toRat = signFactor n * (m * 2 ^ e) := rfl

theorem FpValue.neg_negate (v : FpValue) : v.negate.neg = !v.neg := by cases v <;> rfl
theorem FpValue.mag_negate (v : FpValue) : v.negate.mag = v.mag := by cases v <;> rfl
theorem FpValue.exp_negate (v : FpValue) : v.negate.exp = v.exp := by cases v <;> rfl
theorem FpValue.finite_negate (v : FpValue) : v.negate.finite ↔ v.finite := by cases v <;> rfl

theorem FpValue.toRat_negate (v : FpValue) : v.negate.toRat = -v.toRat := by
  rw [FpValue.toRat, FpValue.neg_negate, FpValue.mag_negate, FpValue.exp_negate, signFactor_not, neg_mul]
  rfl

/-- A power of two with an exponent that is not negative, as an integer power. -/
theorem two_pow_toNat {e : Int} (he : 0 ≤ e) : (2 : ℚ) ^ e.toNat = 2 ^ e := by
  rw [← zpow_natCast, Int.toNat_of_nonneg he]

/-- An exact value is an integer over a power of two. -/
theorem FpValue.hasValue_iff {n : Int} {k : Nat} : v.hasValue n k ↔ v.finite ∧ v.toRat = n / 2 ^ k := by
  have key : ∀ j : Nat, 0 ≤ v.exp + k + j →
      ((if v.neg then -(v.mag : Int) else v.mag) * 2 ^ (v.exp + k + j).toNat = n * 2 ^ j ↔ v.toRat = n / 2 ^ k) := by
    intro j hj
    have hsigned : (if v.neg then -(v.mag : ℚ) else v.mag) = signFactor v.neg * v.mag := by
      cases v.neg <;> simp
    have hscaled : signFactor v.neg * v.mag * (2 ^ v.exp * 2 ^ k * 2 ^ j) = v.toRat * 2 ^ k * 2 ^ j := by
      rw [FpValue.toRat]
      ring
    rw [eq_div_iff (by positivity), ← @Int.cast_inj ℚ]
    push_cast
    rw [hsigned, two_pow_toNat hj, zpow_add₀ two_ne_zero, zpow_add₀ two_ne_zero, zpow_natCast, zpow_natCast, hscaled]
    exact mul_left_inj' (by positivity)
  constructor
  · rintro ⟨hfin, j, hj, h⟩
    exact ⟨hfin, (key j hj).mp h⟩
  · rintro ⟨hfin, h⟩
    have hj : 0 ≤ v.exp + k + (-(v.exp + k)).toNat := by omega
    exact ⟨hfin, _, hj, (key _ hj).mpr h⟩

/-! ### The fields of a pattern -/

theorem expTop_lt (f : FpFormat) : f.expTop < 2 ^ f.expBits := by cases f <;> decide

theorem expTop_eq (f : FpFormat) : (f.expTop : Int) = 2 * f.bias + 1 := by cases f <;> decide

theorem packFields_fields {e frac : Nat} (he : e < 2 ^ f.expBits) (hfrac : frac < 2 ^ f.fracBits) :
    packFields f neg e frac % 2 ^ f.fracBits = frac ∧
      packFields f neg e frac / 2 ^ f.fracBits % 2 ^ f.expBits = e ∧
      packFields f neg e frac / 2 ^ (f.fracBits + f.expBits) % 2 = neg.toNat := by
  cases f <;> cases neg <;> simp only [packFields, FpFormat.fracBits, FpFormat.expBits] at * <;>
    simp <;> omega

/-- A pattern with an exponent field between the extremes is that of a normal number. -/
theorem unpack_packFields_normal {e frac : Nat} (he : 0 < e) (htop : e < f.expTop) (hfrac : frac < 2 ^ f.fracBits) :
    unpack f (packFields f neg e frac) = .normal neg (2 ^ f.fracBits + frac) ((e : Int) - f.bias - f.fracBits) := by
  obtain ⟨h1, h2, h3⟩ := packFields_fields (neg := neg) (htop.trans (expTop_lt f)) hfrac
  simp only [unpack, h1, h2, h3, if_neg (show e ≠ f.expTop by omega), if_neg (show e ≠ 0 by omega)]
  cases neg <;> rfl

theorem unpack_packInf (f : FpFormat) (neg : Bool) : unpack f (packInf f neg) = .inf neg := by
  cases f <;> cases neg <;> decide

theorem unpack_packZero (f : FpFormat) (neg : Bool) : unpack f (packZero f neg) = .zero neg := by
  cases f <;> cases neg <;> decide

theorem unpack_packMax (f : FpFormat) (neg : Bool) :
    unpack f (packMax f neg) = .normal neg (2 ^ (f.fracBits + 1) - 1) (f.bias - f.fracBits) := by
  cases f <;> cases neg <;> decide

theorem unpack_packMinNormal (f : FpFormat) (neg : Bool) :
    unpack f (packMinNormal f neg) = .normal neg (2 ^ f.fracBits) (f.emin - f.fracBits) := by
  cases f <;> cases neg <;> decide

/-- A normal number of a format: a full significand and an exponent in range (R481). -/
def FpFormat.InRange (f : FpFormat) (sig : Nat) (e : Int) : Prop :=
  2 ^ f.fracBits ≤ sig ∧ sig < 2 ^ (f.fracBits + 1) ∧ f.emin ≤ e + f.fracBits ∧ e + f.fracBits ≤ f.bias

theorem unpack_packed {sig : Nat} {e : Int} (h : f.InRange sig e) :
    unpack f (packFields f neg (e + f.fracBits + f.bias).toNat (sig - 2 ^ f.fracBits)) = .normal neg sig e := by
  obtain ⟨hlow, hhigh, hmin, hmax⟩ := h
  have htop := expTop_eq f
  rw [pow_succ] at hhigh
  unfold FpFormat.emin at hmin
  rw [unpack_packFields_normal (by omega) (by omega) (by omega)]
  congr 1 <;> omega

/-- What a pattern can be: the fields decide. -/
theorem unpack_normal {n : Bool} {m : Nat} {e : Int} (h : unpack f a = .normal n m e) : f.InRange m e := by
  have hfrac : a % 2 ^ f.fracBits < 2 ^ f.fracBits := Nat.mod_lt _ (by positivity)
  have hexp : a / 2 ^ f.fracBits % 2 ^ f.expBits < 2 ^ f.expBits := Nat.mod_lt _ (by positivity)
  have htop := expTop_eq f
  have hpow : 2 ^ f.expBits = f.expTop + 1 := by cases f <;> decide
  unfold unpack at h
  dsimp only at h
  split at h
  · split at h <;> cases h
  · split at h
    · split at h <;> cases h
    · cases h
      unfold FpFormat.InRange FpFormat.emin
      rw [pow_succ]
      refine ⟨?_, ?_, ?_, ?_⟩ <;> omega

theorem unpack_denormal {n : Bool} {m : Nat} {e : Int} (h : unpack f a = .denormal n m e) :
    0 < m ∧ m < 2 ^ f.fracBits ∧ e = f.emin - f.fracBits := by
  have hfrac : a % 2 ^ f.fracBits < 2 ^ f.fracBits := Nat.mod_lt _ (by positivity)
  unfold unpack at h
  dsimp only at h
  split at h
  · split at h <;> cases h
  · split at h
    · split at h
      · cases h
      · cases h
        exact ⟨by omega, hfrac, rfl⟩
    · cases h

/-! ### The sign bit -/

theorem flipSign_fields (f : FpFormat) (a : Nat) :
    flipSign f a % 2 ^ (f.fracBits + f.expBits) = a % 2 ^ (f.fracBits + f.expBits) ∧
      flipSign f a / 2 ^ (f.fracBits + f.expBits) % 2 = 1 - a / 2 ^ (f.fracBits + f.expBits) % 2 := by
  unfold flipSign
  split <;> cases f <;> simp only [FpFormat.fracBits, FpFormat.expBits] at * <;> omega

theorem unpack_flipSign (f : FpFormat) (a : Nat) : unpack f (flipSign f a) = (unpack f a).negate := by
  obtain ⟨hmod, hsign⟩ := flipSign_fields f a
  have hfrac : flipSign f a % 2 ^ f.fracBits = a % 2 ^ f.fracBits := by
    rw [← Nat.mod_mod_of_dvd (flipSign f a) (pow_dvd_pow 2 (Nat.le_add_right _ f.expBits)), hmod,
      Nat.mod_mod_of_dvd _ (pow_dvd_pow 2 (Nat.le_add_right _ _))]
  have hexp : flipSign f a / 2 ^ f.fracBits % 2 ^ f.expBits = a / 2 ^ f.fracBits % 2 ^ f.expBits := by
    rw [← Nat.mod_mul_right_div_self, ← Nat.mod_mul_right_div_self, ← pow_add, hmod]
  have hneg : (flipSign f a / 2 ^ (f.fracBits + f.expBits) % 2 == 1) =
      !(a / 2 ^ (f.fracBits + f.expBits) % 2 == 1) := by
    rw [hsign]
    rcases Nat.mod_two_eq_zero_or_one (a / 2 ^ (f.fracBits + f.expBits)) with h | h <;> rw [h] <;> rfl
  unfold unpack
  simp only [hfrac, hexp, hneg]
  repeat' split
  all_goals rfl

end Sys2Proof.Machine
end

section
/-! SUPPORT. The order of the bit patterns (R530): the number that orders them orders the values they stand for. -/

namespace Sys2Proof.Machine

variable {f : FpFormat} {a b : Nat}

/-! ### Magnitudes -/

/-- The magnitude of a finite value by its fields: a number without an exponent is denormal (R481). -/
def FpFormat.fieldValue (f : FpFormat) (e frac : Nat) : ℚ :=
  ((if e = 0 then 0 else 2 ^ f.fracBits) + frac) * 2 ^ (max e 1 - f.bias - f.fracBits)

/-- The magnitude of the pattern `m` without its sign bit, the pattern read as that of a finite value. -/
def FpFormat.magnitude (f : FpFormat) (m : Nat) : ℚ := f.fieldValue (m / 2 ^ f.fracBits) (m % 2 ^ f.fracBits)

theorem magnitude_of_fields (e : Nat) {frac : Nat} (h : frac < 2 ^ f.fracBits) :
    f.magnitude (e * 2 ^ f.fracBits + frac) = f.fieldValue e frac := by
  rw [FpFormat.magnitude, Nat.mul_comm, Nat.mul_add_div (by positivity), Nat.div_eq_of_lt h, Nat.mul_add_mod,
    Nat.mod_eq_of_lt h, Nat.add_zero]

theorem magnitude_zero (f : FpFormat) : f.magnitude 0 = 0 := by simp [FpFormat.magnitude, FpFormat.fieldValue]

/-- One more unit in the last place. -/
theorem fieldValue_lt_succ (f : FpFormat) (e frac : Nat) : f.fieldValue e frac < f.fieldValue e (frac + 1) := by
  unfold FpFormat.fieldValue
  gcongr
  simp

/-- The first number of the next binade. -/
theorem fieldValue_lt_next (f : FpFormat) (e : Nat) {frac : Nat} (h : frac < 2 ^ f.fracBits) :
    f.fieldValue e frac < f.fieldValue (e + 1) 0 := by
  have hfrac : (frac : ℚ) < 2 ^ f.fracBits := by exact_mod_cast h
  unfold FpFormat.fieldValue
  rcases Nat.eq_zero_or_pos e with rfl | he
  · have hunit : (0 : ℚ) < 2 ^ (1 - f.bias - f.fracBits) := by positivity
    simpa using mul_lt_mul_of_pos_right hfrac hunit
  · have hunit : (0 : ℚ) < 2 ^ ((e : Int) - f.bias - f.fracBits) := by positivity
    have hnext : (2 : ℚ) ^ ((e : Int) + 1 - f.bias - f.fracBits) = 2 * 2 ^ ((e : Int) - f.bias - f.fracBits) := by
      rw [← zpow_one_add₀ two_ne_zero]
      congr 1
      ring
    rw [if_neg he.ne', if_neg (Nat.succ_ne_zero e), Nat.max_eq_left he, Nat.max_eq_left (Nat.succ_pos e),
      Nat.cast_succ, hnext, Nat.cast_zero]
    nlinarith

theorem magnitude_strictMono (f : FpFormat) : StrictMono f.magnitude := by
  refine strictMono_nat_of_lt_succ fun m => ?_
  have hfrac : m % 2 ^ f.fracBits < 2 ^ f.fracBits := Nat.mod_lt m (by positivity)
  have hm : m = m / 2 ^ f.fracBits * 2 ^ f.fracBits + m % 2 ^ f.fracBits := (Nat.div_add_mod' m _).symm
  generalize m / 2 ^ f.fracBits = e at hm
  generalize m % 2 ^ f.fracBits = frac at hm hfrac
  rw [hm, magnitude_of_fields e hfrac]
  by_cases hcarry : frac + 1 < 2 ^ f.fracBits
  · rw [Nat.add_assoc, magnitude_of_fields e hcarry]
    exact fieldValue_lt_succ f e frac
  · have hnext : e * 2 ^ f.fracBits + frac + 1 = (e + 1) * 2 ^ f.fracBits + 0 := by
      rw [Nat.succ_mul]
      omega
    rw [hnext, magnitude_of_fields (e + 1) (by positivity)]
    exact fieldValue_lt_next f e hfrac

/-- The value that a number of `orderKey` stands for. -/
def FpFormat.keyValue (f : FpFormat) (z : Int) : ℚ := if 0 ≤ z then f.magnitude z.natAbs else -f.magnitude z.natAbs

theorem keyValue_strictMono (f : FpFormat) : StrictMono f.keyValue := by
  refine strictMono_int_of_lt_succ fun z => ?_
  unfold FpFormat.keyValue
  by_cases hz : 0 ≤ z
  · rw [if_pos hz, if_pos (by omega)]
    exact magnitude_strictMono f (by omega)
  · rw [if_neg hz]
    by_cases hz1 : 0 ≤ z + 1
    · rw [if_pos hz1, show (z + 1).natAbs = 0 by omega, magnitude_zero, neg_lt_zero, ← magnitude_zero f]
      exact magnitude_strictMono f (by omega)
    · rw [if_neg hz1, neg_lt_neg_iff]
      exact magnitude_strictMono f (by omega)

/-! ### The order of the patterns -/

/-- The fields of a pattern without its sign bit. -/
theorem lowBits_eq (f : FpFormat) (a : Nat) :
    a % 2 ^ (f.fracBits + f.expBits) =
      a / 2 ^ f.fracBits % 2 ^ f.expBits * 2 ^ f.fracBits + a % 2 ^ f.fracBits := by
  rw [← Nat.div_add_mod' (a % 2 ^ (f.fracBits + f.expBits)) (2 ^ f.fracBits),
    Nat.mod_mod_of_dvd _ (pow_dvd_pow 2 (Nat.le_add_right _ _)), pow_add, Nat.mod_mul_right_div_self]

theorem orderKey_eq (f : FpFormat) (a : Nat) :
    orderKey f a = (if a / 2 ^ (f.fracBits + f.expBits) % 2 == 1 then -1 else 1) *
      ((a / 2 ^ f.fracBits % 2 ^ f.expBits * 2 ^ f.fracBits + a % 2 ^ f.fracBits : Nat) : Int) := by
  rw [orderKey, lowBits_eq]
  rcases Nat.mod_two_eq_zero_or_one (a / 2 ^ (f.fracBits + f.expBits)) with h | h <;> simp [h]

theorem keyValue_signed (f : FpFormat) (p : Bool) (m : Nat) :
    f.keyValue ((if p then -1 else 1) * (m : Int)) = signFactor p * f.magnitude m := by
  cases p
  · simp [FpFormat.keyValue]
  · rcases Nat.eq_zero_or_pos m with rfl | hm
    · simp [FpFormat.keyValue, magnitude_zero]
    · simp [FpFormat.keyValue, hm.ne']

/-- The value of a pattern is the one its `orderKey` stands for. -/
theorem toRat_unpack (h : (unpack f a).finite) : (unpack f a).toRat = f.keyValue (orderKey f a) := by
  rw [orderKey_eq, keyValue_signed, magnitude_of_fields _ (Nat.mod_lt a (by positivity))]
  revert h
  unfold unpack
  dsimp only
  split
  · split <;> exact False.elim
  · split
    · next he =>
      split
      · next hf => simp [he, hf, FpFormat.fieldValue]
      · simp [he, FpFormat.fieldValue, FpValue.toRat, FpValue.neg, FpValue.mag, FpValue.exp, FpFormat.emin]
    · next he =>
      intro _
      rw [FpValue.toRat_normal, FpFormat.fieldValue, if_neg he, Nat.max_eq_left (by omega)]
      push_cast
      rfl

/-- The pattern of an infinity is the first without a finite value. -/
theorem orderKey_inf {p : Bool} (h : unpack f a = .inf p) :
    orderKey f a = (if p then -1 else 1) * ((f.expTop * 2 ^ f.fracBits : Nat) : Int) := by
  rw [orderKey_eq]
  unfold unpack at h
  dsimp only at h
  split at h
  · next he =>
    split at h
    · next hf => cases h; rw [he, hf, Nat.add_zero]
    · cases h
  · split at h
    · split at h <;> cases h
    · cases h

/-- Below the infinities every pattern of a finite value has a smaller number. -/
theorem orderKey_finite (h : (unpack f a).finite) : (orderKey f a).natAbs < f.expTop * 2 ^ f.fracBits := by
  have hfrac : a % 2 ^ f.fracBits < 2 ^ f.fracBits := Nat.mod_lt _ (by positivity)
  have hexp : a / 2 ^ f.fracBits % 2 ^ f.expBits < 2 ^ f.expBits := Nat.mod_lt _ (by positivity)
  have hpow : 2 ^ f.expBits = f.expTop + 1 := by cases f <;> decide
  have hne : a / 2 ^ f.fracBits % 2 ^ f.expBits ≠ f.expTop := by
    intro he
    unfold unpack at h
    simp only [he, if_true] at h
    split at h <;> exact h
  have hsign : (orderKey f a).natAbs =
      a / 2 ^ f.fracBits % 2 ^ f.expBits * 2 ^ f.fracBits + a % 2 ^ f.fracBits := by
    rw [orderKey_eq, Int.natAbs_mul, Int.natAbs_natCast]
    split <;> simp
  rw [hsign]
  have hle : a / 2 ^ f.fracBits % 2 ^ f.expBits + 1 ≤ f.expTop := by omega
  calc a / 2 ^ f.fracBits % 2 ^ f.expBits * 2 ^ f.fracBits + a % 2 ^ f.fracBits
      < (a / 2 ^ f.fracBits % 2 ^ f.expBits + 1) * 2 ^ f.fracBits := by rw [Nat.succ_mul]; omega
    _ ≤ f.expTop * 2 ^ f.fracBits := Nat.mul_le_mul_right _ hle

end Sys2Proof.Machine
end

section
/-! The floating-point comparisons: `FpComparisons`. -/

namespace Sys2Proof.Machine

variable {f : FpFormat} {c : BitVec 4} {a b : Nat} {i : Instr}

/-! ### What a comparison answers (R530, R491) -/

theorem isNan_eq_false {v : FpValue} (h : v.finite ∨ ∃ p, v = .inf p) : v.isNan = false ∧ v.isSignaling = false := by
  rcases h with h | ⟨p, rfl⟩
  · cases v with
    | nan s n => exact h.elim
    | inf n | zero n | denormal n m e | normal n m e => exact ⟨rfl, rfl⟩
  · exact ⟨rfl, rfl⟩

/-- Of values that are no NaN, a comparison compares the numbers that order their patterns. -/
theorem fpCompare_ordered (ha : (unpack f a).finite ∨ ∃ p, unpack f a = .inf p)
    (hb : (unpack f b).finite ∨ ∃ p, unpack f b = .inf p) :
    ((fpCompare f c a b).1 = true ↔ (c.getLsbD 2 = true ∧ orderKey f a < orderKey f b) ∨
        (c.getLsbD 1 = true ∧ orderKey f a = orderKey f b)) ∧
      (fpCompare f c a b).2 = false := by
  obtain ⟨hna, hsa⟩ := isNan_eq_false ha
  obtain ⟨hnb, hsb⟩ := isNan_eq_false hb
  simp [fpCompare, hna, hnb, hsa, hsb]

theorem fpCompare_unordered (h : (unpack f a).isNan = true ∨ (unpack f b).isNan = true) :
    (fpCompare f c a b).1 = c.getLsbD 0 ∧
      ((fpCompare f c a b).2 = true ↔
        c.getLsbD 3 = true ∨ (unpack f a).isSignaling = true ∨ (unpack f b).isSignaling = true) := by
  have hun : ((unpack f a).isNan || (unpack f b).isNan) = true := Bool.or_eq_true_iff.mpr h
  simp only [fpCompare, hun, Bool.not_true, Bool.false_and, Bool.and_false, Bool.false_or, Bool.and_true,
    Bool.or_eq_true, true_and]
  tauto

theorem isSignaling_iff (v : FpValue) : v.isSignaling = true ↔ ∃ n, v = .nan true n := by
  cases v <;> simp [FpValue.isSignaling]

/-! ### The condition bits (R530, R590) -/

theorem clearBit_or (f m : Word) : (f &&& ~~~m) ||| m = f ||| m := by
  ext j hj
  simp only [BitVec.getElem_or, BitVec.getElem_and, BitVec.getElem_not]
  cases m[j] <;> simp

/-- Condition bit 0 is bit 23. -/
theorem withCc0_eq (f : Word) (b : Bool) :
    withCc0 f b = if b then f ||| ((1 : Word) <<< 23) else f &&& ~~~((1 : Word) <<< 23) := by
  cases b
  · exact BitVec.or_zero
  · exact clearBit_or f _

/-- Condition bit 1 is bit 25. -/
theorem withCc1_eq (f : Word) (b : Bool) :
    withCc1 f b = if b then f ||| ((1 : Word) <<< 25) else f &&& ~~~((1 : Word) <<< 25) := by
  cases b
  · exact BitVec.or_zero
  · exact clearBit_or f _

/-- A comparison of singles or of doubles, whose meaning is `compareS` or `compareD`. -/
theorem fpComparison_of_compare {r : State → Bool × Bool}
    (hexec : ∀ s, ∃ k, exec i s = fpInstruction s k ∧
      k s = fpEnd s (compareCond (r s).2) fun t => t.setFcr31 (withCc0 t.fcr31 (r s).1) := by
      exact fun _ => ⟨_, rfl, rfl⟩) :
    FpComparison i (fun s => if (r s).2 then 0b010000 else 0) fun s f =>
      if (r s).1 then f ||| ((1 : Word) <<< 23) else f &&& ~~~((1 : Word) <<< 23) := by
  simp only [withCc0_eq] at hexec
  exact fpComparison_of_fpEnd hexec

/-- A comparison of paired singles. -/
theorem fpComparison_of_comparePS {lower upper : State → Bool × Bool}
    (hexec : ∀ s, ∃ k, exec i s = fpInstruction s k ∧
      k s = fpEnd s (compareCond ((lower s).2 || (upper s).2)) fun t =>
        t.setFcr31 (withCc1 (withCc0 t.fcr31 (lower s).1) (upper s).1) := by exact fun _ => ⟨_, rfl, rfl⟩) :
    FpComparison i (fun s => if (lower s).2 || (upper s).2 then 0b010000 else 0) fun s f =>
      let g := if (lower s).1 then f ||| ((1 : Word) <<< 23) else f &&& ~~~((1 : Word) <<< 23)
      if (upper s).1 then g ||| ((1 : Word) <<< 25) else g &&& ~~~((1 : Word) <<< 25) := by
  simp only [withCc0_eq, withCc1_eq] at hexec
  exact fpComparison_of_fpEnd hexec

/-- Settles O54: each meaning is one of the two shapes, and the predicate follows the order of the values. -/
theorem fpComparisons : Obligations.FpComparisons := by
  unfold Obligations.FpComparisons
  intro flag cond single paired
  refine ⟨fun ft fs =>
    ⟨fpComparison_of_compare, fpComparison_of_compare, fpComparison_of_comparePS, fpComparison_of_compare,
      fpComparison_of_compare, fpComparison_of_comparePS, fpComparison_of_compare, fpComparison_of_compare,
      fpComparison_of_comparePS, fpComparison_of_compare, fpComparison_of_compare, fpComparison_of_comparePS,
      fpComparison_of_compare, fpComparison_of_compare, fpComparison_of_comparePS, fpComparison_of_compare,
      fpComparison_of_compare, fpComparison_of_comparePS, fpComparison_of_compare, fpComparison_of_compare,
      fpComparison_of_comparePS, fpComparison_of_compare, fpComparison_of_compare, fpComparison_of_comparePS,
      fpComparison_of_compare, fpComparison_of_compare, fpComparison_of_comparePS, fpComparison_of_compare,
      fpComparison_of_compare, fpComparison_of_comparePS, fpComparison_of_compare, fpComparison_of_compare,
      fpComparison_of_comparePS, fpComparison_of_compare, fpComparison_of_compare, fpComparison_of_comparePS,
      fpComparison_of_compare, fpComparison_of_compare, fpComparison_of_comparePS, fpComparison_of_compare,
      fpComparison_of_compare, fpComparison_of_comparePS, fpComparison_of_compare, fpComparison_of_compare,
      fpComparison_of_comparePS, fpComparison_of_compare, fpComparison_of_compare, fpComparison_of_comparePS⟩,
    fun f c a b => ⟨fun n m k hn hm => ?_, fun p q hp hq => ?_, fun p hp hb => ?_, fun s n h => ?_⟩⟩
  · obtain ⟨hfin, hvalue⟩ := FpValue.hasValue_iff.mp hn
    obtain ⟨hfin', hvalue'⟩ := FpValue.hasValue_iff.mp hm
    have hpow : (0 : ℚ) < 2 ^ k := by positivity
    have hlt : orderKey f a < orderKey f b ↔ n < m := by
      rw [← (keyValue_strictMono f).lt_iff_lt, ← toRat_unpack hfin, ← toRat_unpack hfin', hvalue, hvalue',
        div_lt_div_iff_of_pos_right hpow, Int.cast_lt]
    have heq : orderKey f a = orderKey f b ↔ n = m := by
      rw [← (keyValue_strictMono f).injective.eq_iff, ← toRat_unpack hfin, ← toRat_unpack hfin', hvalue, hvalue',
        div_left_inj' hpow.ne', Int.cast_inj]
    rw [← hlt, ← heq]
    exact fpCompare_ordered (.inl hfin) (.inl hfin')
  · obtain ⟨hcompare, hinvalid⟩ := fpCompare_ordered (c := c) (.inr ⟨p, hp⟩) (.inr ⟨q, hq⟩)
    have htop : 0 < f.expTop * 2 ^ f.fracBits := by cases f <;> decide
    refine ⟨hcompare.trans ?_, hinvalid⟩
    rw [orderKey_inf hp, orderKey_inf hq]
    generalize f.expTop * 2 ^ f.fracBits = top at htop
    refine or_congr (and_congr_right fun _ => ?_) (and_congr_right fun _ => ?_)
    all_goals cases p <;> cases q <;> simp <;> omega
  · have htop := orderKey_finite hb
    obtain ⟨hcompare, hinvalid⟩ := fpCompare_ordered (c := c) (.inr ⟨p, hp⟩) (.inl hb)
    obtain ⟨hcompare', hinvalid'⟩ := fpCompare_ordered (c := c) (.inl hb) (.inr ⟨p, hp⟩)
    rw [orderKey_inf hp] at hcompare hcompare'
    generalize f.expTop * 2 ^ f.fracBits = top at htop hcompare hcompare'
    have hne : (if p then -1 else 1) * (top : Int) ≠ orderKey f b := by cases p <;> simp <;> omega
    have hlt : (if p then -1 else 1) * (top : Int) < orderKey f b ↔ p = true := by cases p <;> simp <;> omega
    have hgt : orderKey f b < (if p then -1 else 1) * (top : Int) ↔ p = false := by cases p <;> simp <;> omega
    simp only [hne, hne.symm, and_false, or_false, hlt, hgt] at hcompare hcompare'
    exact ⟨hcompare, hcompare', hinvalid, hinvalid'⟩
  · have hnan : (unpack f a).isNan = true ∨ (unpack f b).isNan = true := by
      rcases h with h | h <;> rw [h] <;> simp [FpValue.isNan]
    obtain ⟨hpredicate, hinvalid⟩ := fpCompare_unordered (c := c) hnan
    refine ⟨hpredicate, hinvalid.trans (or_congr_right ?_)⟩
    rw [isSignaling_iff, isSignaling_iff, exists_or]

end Sys2Proof.Machine
end

section
/-! SUPPORT. Rounding to an integer (R483): the four modes by their direction, and what makes an integer the rounding of
a number. -/

namespace Sys2Proof.Machine

variable {rm : BitVec 2} {neg : Bool} {q q' : Nat} {v x u : ℚ}

/-! ### The directions of the modes -/

/-- The mode rounds a magnitude of this sign toward zero. -/
def TowardZero (rm : BitVec 2) (neg : Bool) : Prop := rm = 1 ∨ (rm = 2 ∧ neg = true) ∨ (rm = 3 ∧ neg = false)

/-- The mode rounds a magnitude of this sign away from zero. -/
def AwayFromZero (rm : BitVec 2) (neg : Bool) : Prop := (rm = 2 ∧ neg = false) ∨ (rm = 3 ∧ neg = true)

/-- A mode rounds to nearest, toward zero or away from zero, and does nothing else. -/
theorem mode_cases (rm : BitVec 2) (neg : Bool) :
    (rm = 0 ∧ ¬ TowardZero rm neg ∧ ¬ AwayFromZero rm neg) ∨
      (rm ≠ 0 ∧ TowardZero rm neg ∧ ¬ AwayFromZero rm neg) ∨
      (rm ≠ 0 ∧ ¬ TowardZero rm neg ∧ AwayFromZero rm neg) := by
  unfold TowardZero AwayFromZero
  revert rm neg
  decide

theorem roundsUp_nearest (neg odd : Bool) (rest half : Nat) (sticky : Bool) :
    roundsUp 0 neg odd rest half sticky = (decide (half < rest) || (decide (rest = half) && (sticky || odd))) := rfl

theorem roundsUp_towardZero (h : TowardZero rm neg) (odd : Bool) (rest half : Nat) (sticky : Bool) :
    roundsUp rm neg odd rest half sticky = false := by
  rcases h with rfl | ⟨rfl, rfl⟩ | ⟨rfl, rfl⟩ <;> rfl

theorem roundsUp_awayFromZero (h : AwayFromZero rm neg) (odd : Bool) (rest half : Nat) (sticky : Bool) :
    roundsUp rm neg odd rest half sticky = (decide (rest ≠ 0) || sticky) := by
  rcases h with ⟨rfl, rfl⟩ | ⟨rfl, rfl⟩ <;> rfl

/-! ### The rounding of a number -/

/-- `v`, with the significand `sig`, is the rounding of `x` to a multiple of `u` (R483). -/
def Rounded (rm : BitVec 2) (neg : Bool) (sig : Nat) (v x u : ℚ) : Prop :=
  (rm = 0 → 2 * |v - x| ≤ u ∧ (2 * |v - x| = u → sig % 2 = 0)) ∧
    (TowardZero rm neg → v ≤ x ∧ x < v + u) ∧ (AwayFromZero rm neg → x ≤ v ∧ v < x + u)

/-- Rounding does not depend on the unit of measure. -/
theorem rounded_mul {c : ℚ} (hc : 0 < c) : Rounded rm neg q (v * c) (x * c) (u * c) ↔ Rounded rm neg q v x u := by
  have habs : 2 * |v * c - x * c| = 2 * |v - x| * c := by rw [← sub_mul, abs_mul, abs_of_pos hc, mul_assoc]
  simp only [Rounded, habs, ← add_mul, mul_le_mul_iff_left₀ hc, mul_lt_mul_iff_left₀ hc, mul_left_inj' hc.ne']

theorem rounded_unit (hu : 0 < u) : Rounded rm neg q (q * u) x u ↔ Rounded rm neg q q (x / u) 1 := by
  have h := rounded_mul (rm := rm) (neg := neg) (q := q) (v := q) (x := x / u) (u := 1) hu
  rwa [div_mul_cancel₀ x hu.ne', one_mul] at h

/-- An integer rounds to itself, and to nothing else. -/
theorem rounded_self (q : Nat) : Rounded rm neg q q q 1 := by
  refine ⟨fun _ => ?_, fun _ => ?_, fun _ => ?_⟩ <;> simp

theorem Rounded.abs_lt_one (h : Rounded rm neg q q x 1) : |(q : ℚ) - x| < 1 := by
  obtain ⟨hnearest, hzero, haway⟩ := h
  rw [abs_lt]
  rcases mode_cases rm neg with ⟨hm, -, -⟩ | ⟨-, hm, -⟩ | ⟨-, -, hm⟩
  · have hle := abs_le.mp (show |(q : ℚ) - x| ≤ 1 / 2 by linarith [(hnearest hm).1])
    constructor <;> linarith
  · obtain ⟨h1, h2⟩ := hzero hm
    constructor <;> linarith
  · obtain ⟨h1, h2⟩ := haway hm
    constructor <;> linarith

/-- A number has one rounding. -/
theorem Rounded.unique (h : Rounded rm neg q q x 1) (h' : Rounded rm neg q' q' x 1) : q = q' := by
  wlog hlt : q < q' generalizing q q'
  · rcases Nat.lt_trichotomy q q' with hq | hq | hq
    · exact this h h' hq
    · exact hq
    · exact (this h' h hq).symm
  have hstep : (q : ℚ) + 1 ≤ q' := by exact_mod_cast hlt
  obtain ⟨hnearest, hzero, haway⟩ := h
  obtain ⟨hnearest', hzero', haway'⟩ := h'
  rcases mode_cases rm neg with ⟨hm, -, -⟩ | ⟨-, hm, -⟩ | ⟨-, -, hm⟩
  · obtain ⟨hle, htie⟩ := hnearest hm
    obtain ⟨hle', htie'⟩ := hnearest' hm
    have h1 := abs_le.mp (show |(q : ℚ) - x| ≤ 1 / 2 by linarith)
    have h2 := abs_le.mp (show |(q' : ℚ) - x| ≤ 1 / 2 by linarith)
    have hx : x = q + 1 / 2 := by linarith [h1.1, h2.2]
    have hq' : (q' : ℚ) = (q + 1 : Nat) := by push_cast; linarith [h1.1, h2.2]
    have heven := htie (by rw [hx]; norm_num)
    have heven' := htie' (by rw [hx, hq']; push_cast; norm_num)
    have := Nat.cast_injective hq'
    omega
  · linarith [(hzero hm).2, (hzero' hm).1]
  · linarith [(haway hm).1, (haway' hm).2]

/-! ### `roundShift` -/

/-- A quotient whose remainder `rest` is compared with half its divisor is rounded as the mode says. -/
theorem rounded_of_quotient (rm : BitVec 2) (neg : Bool) (q : Nat) {rest half : Nat} (h : rest < 2 * half) :
    Rounded rm neg (if roundsUp rm neg (q % 2 == 1) rest half false then q + 1 else q)
      (if roundsUp rm neg (q % 2 == 1) rest half false then q + 1 else q : Nat)
      (q + rest / (2 * half : Nat)) 1 := by
  have hhalf : (0 : ℚ) < half := by exact_mod_cast (show 0 < half by omega)
  have hfrac : (rest : ℚ) / (2 * half : Nat) * (2 * half) = rest := by
    push_cast
    exact div_mul_cancel₀ _ (by positivity)
  have h0 : (0 : ℚ) ≤ rest / (2 * half : Nat) := by positivity
  have h1 : (rest : ℚ) / (2 * half : Nat) < 1 := (div_lt_one (by push_cast; positivity)).mpr (by exact_mod_cast h)
  generalize (rest : ℚ) / (2 * half : Nat) = ρ at hfrac h0 h1
  rcases mode_cases rm neg with ⟨rfl, hz, ha⟩ | ⟨hn, hz, ha⟩ | ⟨hn, hz, ha⟩
  · refine ⟨fun _ => ?_, fun h => absurd h hz, fun h => absurd h ha⟩
    rw [roundsUp_nearest]
    split
    · next hup =>
      simp only [Bool.or_eq_true, Bool.and_eq_true, decide_eq_true_eq, beq_iff_eq, Bool.false_or] at hup
      have hle : (half : ℚ) ≤ rest := by exact_mod_cast (show half ≤ rest by omega)
      have hdist : |((q + 1 : Nat) : ℚ) - (q + ρ)| = 1 - ρ := by
        rw [abs_of_nonneg (by push_cast; linarith)]
        push_cast
        ring
      rw [hdist]
      refine ⟨by nlinarith, fun htie => ?_⟩
      have heq : rest = half := by exact_mod_cast (show (rest : ℚ) = half by nlinarith)
      omega
    · next hup =>
      simp only [Bool.or_eq_true, Bool.and_eq_true, decide_eq_true_eq, beq_iff_eq, Bool.false_or] at hup
      have hle : (rest : ℚ) ≤ half := by exact_mod_cast (show rest ≤ half by omega)
      have hdist : |(q : ℚ) - (q + ρ)| = ρ := by rw [sub_add_cancel_left, abs_neg, abs_of_nonneg h0]
      rw [hdist]
      refine ⟨by nlinarith, fun htie => ?_⟩
      have heq : rest = half := by exact_mod_cast (show (rest : ℚ) = half by nlinarith)
      omega
  · refine ⟨fun h => absurd h hn, fun _ => ?_, fun h => absurd h ha⟩
    rw [roundsUp_towardZero hz]
    simp only [Bool.false_eq_true, if_false]
    constructor <;> linarith
  · refine ⟨fun h => absurd h hn, fun h => absurd h hz, fun _ => ?_⟩
    rw [roundsUp_awayFromZero ha, Bool.or_false]
    split
    · next hup =>
      have hpos : (0 : ℚ) < rest := by exact_mod_cast Nat.pos_of_ne_zero (of_decide_eq_true hup)
      have hρ : 0 < ρ := by nlinarith
      push_cast
      constructor <;> linarith
    · next hup =>
      obtain rfl : rest = 0 := by simpa using hup
      have hρ : ρ = 0 := by simpa [hhalf.ne'] using hfrac
      rw [hρ]
      simp

/-- The rounding of a magnitude to a multiple of `2 ^ k`, and whether it differs (R483). -/
theorem roundShift_rounded (rm : BitVec 2) (neg : Bool) (mag k : Nat) :
    Rounded rm neg (roundShift rm neg mag k false).1 (roundShift rm neg mag k false).1 (mag / 2 ^ k) 1 ∧
      ((roundShift rm neg mag k false).2 = true ↔ mag % 2 ^ k ≠ 0) := by
  unfold roundShift
  rcases Nat.eq_zero_or_pos k with rfl | hk
  · simpa [Nat.mod_one] using rounded_self mag
  · have hdouble : 2 ^ k = 2 * 2 ^ (k - 1) := (mul_pow_sub_one hk.ne' 2).symm
    have hquot : (mag : ℚ) / 2 ^ k = (mag / 2 ^ k : Nat) + (mag % 2 ^ k : Nat) / (2 * 2 ^ (k - 1) : Nat) := by
      rw [← hdouble, div_eq_iff (by positivity), add_mul, Nat.cast_pow, Nat.cast_ofNat,
        div_mul_cancel₀ _ (by positivity)]
      exact_mod_cast (Nat.div_add_mod' mag (2 ^ k)).symm
    rw [if_neg hk.ne', hquot]
    exact ⟨rounded_of_quotient rm neg _ (hdouble ▸ Nat.mod_lt mag (by positivity)), by simp⟩

/-- The rounding differs from the number just when a remainder is left. -/
theorem roundShift_inexact (rm : BitVec 2) (neg : Bool) (mag k : Nat) :
    (roundShift rm neg mag k false).2 = true ↔ ((roundShift rm neg mag k false).1 : ℚ) ≠ mag / 2 ^ k := by
  obtain ⟨hrounded, hrest⟩ := roundShift_rounded rm neg mag k
  rw [hrest, not_iff_not]
  constructor
  · intro h
    have hx : (mag : ℚ) / 2 ^ k = (mag / 2 ^ k : Nat) := by
      rw [Nat.cast_div (Nat.dvd_of_mod_eq_zero h) (by positivity)]
      push_cast
      rfl
    rw [hx] at hrounded ⊢
    rw [hrounded.unique (rounded_self _)]
  · intro h
    rw [eq_div_iff (by positivity)] at h
    have hmag : (roundShift rm neg mag k false).1 * 2 ^ k = mag := by exact_mod_cast h
    rw [← hmag, Nat.mul_mod_left]

end Sys2Proof.Machine
end

section
/-! SUPPORT. Rounding to the precision of a format (R483, R490): the significand and the exponent that `roundPrecision`
answers depend on the exact magnitude alone, and where the exponent passes a bound. -/

namespace Sys2Proof.Machine

variable {f : FpFormat} {rm : BitVec 2} {neg : Bool} {q q' : Nat} {e e' : Int} {x : ℚ}

/-! ### The rounding in the binade of a magnitude -/

/-- `q` is the rounding of `x` to a multiple of `2 ^ e`, the unit of a significand in the binade of `x`. -/
structure IsRounding (f : FpFormat) (rm : BitVec 2) (neg : Bool) (x : ℚ) (q : Nat) (e : Int) : Prop where
  low : 2 ^ f.fracBits ≤ x / 2 ^ e
  high : x / 2 ^ e < 2 ^ (f.fracBits + 1)
  rounded : Rounded rm neg q q (x / 2 ^ e) 1

/-- A rounding that reaches the next binade has the first significand there. -/
def normalize (f : FpFormat) (q : Nat) (e : Int) : Nat × Int :=
  if q = 2 ^ (f.fracBits + 1) then (2 ^ f.fracBits, e + 1) else (q, e)

theorem two_zpow_pos (e : Int) : (0 : ℚ) < 2 ^ e := by positivity

theorem IsRounding.low_le (h : IsRounding f rm neg x q e) : (2 : ℚ) ^ (e + f.fracBits) ≤ x := by
  rw [zpow_add₀ two_ne_zero, zpow_natCast, mul_comm, ← le_div_iff₀ (two_zpow_pos e)]
  exact h.low

theorem IsRounding.lt_high (h : IsRounding f rm neg x q e) : x < (2 : ℚ) ^ (e + f.fracBits + 1) := by
  rw [add_assoc, zpow_add₀ two_ne_zero, mul_comm, ← div_lt_iff₀ (two_zpow_pos e)]
  exact_mod_cast h.high

theorem IsRounding.le (h : IsRounding f rm neg x q e) : 2 ^ f.fracBits ≤ q ∧ q ≤ 2 ^ (f.fracBits + 1) := by
  have hclose := abs_lt.mp h.rounded.abs_lt_one
  have h1 : (2 : ℚ) ^ f.fracBits < q + 1 := by linarith [h.low]
  have h2 : (q : ℚ) < 2 ^ (f.fracBits + 1) + 1 := by linarith [h.high]
  constructor
  · exact Nat.lt_succ_iff.mp (by exact_mod_cast h1)
  · exact Nat.lt_succ_iff.mp (by exact_mod_cast h2)

/-- A magnitude has one rounding. -/
theorem IsRounding.unique (h : IsRounding f rm neg x q e) (h' : IsRounding f rm neg x q' e') : q = q' ∧ e = e' := by
  have hlt : e + f.fracBits < e' + f.fracBits + 1 :=
    (zpow_lt_zpow_iff_right₀ one_lt_two).mp (h.low_le.trans_lt h'.lt_high)
  have hlt' : e' + f.fracBits < e + f.fracBits + 1 :=
    (zpow_lt_zpow_iff_right₀ one_lt_two).mp (h'.low_le.trans_lt h.lt_high)
  obtain rfl : e = e' := by omega
  exact ⟨h.rounded.unique h'.rounded, rfl⟩

/-- What `roundPrecision` answers is the rounding of the magnitude. -/
theorem exists_isRounding (f : FpFormat) (rm : BitVec 2) (neg : Bool) {mag : Nat} (hmag : 0 < mag) (exp : Int) :
    ∃ q e, IsRounding f rm neg (mag * 2 ^ exp) q e ∧
      roundPrecision f rm neg mag exp false =
        ((normalize f q e).1, (normalize f q e).2, decide ((q : ℚ) * 2 ^ e ≠ mag * 2 ^ exp)) := by
  have hlow : 2 ^ Nat.log2 mag ≤ mag := Nat.log2_self_le hmag.ne'
  have hhigh : mag < 2 ^ (Nat.log2 mag + 1) := Nat.lt_log2_self
  unfold roundPrecision
  dsimp only
  generalize Nat.log2 mag = l at hlow hhigh
  by_cases hlen : l + 1 ≤ f.fracBits + 1
  · obtain ⟨j, hj⟩ := Nat.exists_eq_add_of_le hlen
    have hjsub : f.fracBits + 1 - (l + 1) = j := by omega
    have hunit : (mag : ℚ) * 2 ^ exp / 2 ^ (exp - j) = (mag * 2 ^ j : Nat) := by
      rw [zpow_sub₀ two_ne_zero, div_div_eq_mul_div, mul_right_comm, mul_div_cancel_right₀ _ (two_zpow_pos exp).ne']
      push_cast
      rfl
    have hle : 2 ^ f.fracBits ≤ mag * 2 ^ j := by
      rw [show f.fracBits = l + j by omega, pow_add]
      exact Nat.mul_le_mul_right _ hlow
    have hlt : mag * 2 ^ j < 2 ^ (f.fracBits + 1) := by
      rw [hj, pow_add]
      exact Nat.mul_lt_mul_of_pos_right hhigh (by positivity)
    have hexact : ((mag * 2 ^ j : Nat) : ℚ) * 2 ^ (exp - j) = mag * 2 ^ exp := by
      rw [← hunit, div_mul_cancel₀ _ (two_zpow_pos _).ne']
    refine ⟨mag * 2 ^ j, exp - j, ⟨?_, ?_, ?_⟩, ?_⟩
    · rw [hunit]
      exact_mod_cast hle
    · rw [hunit]
      exact_mod_cast hlt
    · rw [hunit]
      exact rounded_self _
    · rw [if_pos hlen, hjsub, normalize, if_neg hlt.ne, hexact]
      simp
  · obtain ⟨k, hk⟩ := Nat.exists_eq_add_of_lt (Nat.lt_of_not_le hlen)
    have hksub : l + 1 - (f.fracBits + 1) = k + 1 := by omega
    have hunit : (mag : ℚ) * 2 ^ exp / 2 ^ (exp + (k + 1 : Nat)) = mag / 2 ^ (k + 1) := by
      rw [zpow_add₀ two_ne_zero, zpow_natCast]
      field_simp
    obtain ⟨hrounded, -⟩ := roundShift_rounded rm neg mag (k + 1)
    have hinexact := roundShift_inexact rm neg mag (k + 1)
    rw [if_neg hlen, hksub]
    generalize roundShift rm neg mag (k + 1) false = r at hrounded hinexact
    refine ⟨r.1, exp + (k + 1 : Nat), ⟨?_, ?_, ?_⟩, ?_⟩
    · rw [hunit, le_div_iff₀ (by positivity), ← pow_add]
      exact_mod_cast (show 2 ^ (f.fracBits + (k + 1)) ≤ mag by rwa [show f.fracBits + (k + 1) = l by omega])
    · rw [hunit, div_lt_iff₀ (by positivity), ← pow_add]
      exact_mod_cast (show mag < 2 ^ (f.fracBits + 1 + (k + 1)) by rwa [show f.fracBits + 1 + (k + 1) = l + 1 by omega])
    · rwa [hunit]
    · have hflag : r.2 = decide ((r.1 : ℚ) * 2 ^ (exp + (k + 1 : Nat)) ≠ mag * 2 ^ exp) := by
        rw [Bool.eq_iff_iff, decide_eq_true_iff, hinexact, ← hunit, Ne, Ne, eq_div_iff (two_zpow_pos _).ne']
      rw [← hflag, normalize]
      split <;> rfl

theorem roundPrecision_eq {mag : Nat} (hmag : 0 < mag) {exp : Int} (h : IsRounding f rm neg (mag * 2 ^ exp) q e) :
    roundPrecision f rm neg mag exp false =
      ((normalize f q e).1, (normalize f q e).2, decide ((q : ℚ) * 2 ^ e ≠ mag * 2 ^ exp)) := by
  obtain ⟨q', e', h', heq⟩ := exists_isRounding f rm neg hmag exp
  obtain ⟨rfl, rfl⟩ := h.unique h'
  exact heq

/-- The rounding of a magnitude does not depend on how it is written. -/
theorem roundPrecision_congr {mag mag' : Nat} {exp exp' : Int} (hmag : 0 < mag)
    (h : (mag : ℚ) * 2 ^ exp = mag' * 2 ^ exp') :
    roundPrecision f rm neg mag exp false = roundPrecision f rm neg mag' exp' false := by
  have hmag' : 0 < mag' := by
    rcases Nat.eq_zero_or_pos mag' with rfl | hpos
    · have hpos : (0 : ℚ) < mag * 2 ^ exp := mul_pos (by exact_mod_cast hmag) (two_zpow_pos exp)
      rw [h, Nat.cast_zero, zero_mul] at hpos
      exact absurd hpos (lt_irrefl _)
    · exact hpos
  obtain ⟨q, e, hr, heq⟩ := exists_isRounding f rm neg hmag exp
  rw [heq, roundPrecision_eq hmag' (h ▸ hr), h]

/-! ### The normalized significand -/

theorem normalize_value (f : FpFormat) (q : Nat) (e : Int) :
    ((normalize f q e).1 : ℚ) * 2 ^ (normalize f q e).2 = q * 2 ^ e := by
  unfold normalize
  split
  · next h =>
    rw [h, zpow_add_one₀ two_ne_zero]
    push_cast
    ring
  · rfl

theorem IsRounding.normalize_lt (h : IsRounding f rm neg x q e) :
    2 ^ f.fracBits ≤ (normalize f q e).1 ∧ (normalize f q e).1 < 2 ^ (f.fracBits + 1) := by
  obtain ⟨hlow, hhigh⟩ := h.le
  unfold normalize
  split
  · exact ⟨le_rfl, Nat.pow_lt_pow_right (by decide) (Nat.lt_succ_self _)⟩
  · next hne => exact ⟨hlow, lt_of_le_of_ne hhigh hne⟩

/-- The delivered significand is a rounding in its own unit. -/
theorem IsRounding.normalize_rounded (h : IsRounding f rm neg x q e) :
    Rounded rm neg (normalize f q e).1 ((normalize f q e).1 * 2 ^ (normalize f q e).2) x (2 ^ (normalize f q e).2) := by
  have hrounded := (rounded_unit (two_zpow_pos e)).mpr h.rounded
  rw [normalize_value]
  unfold normalize
  split
  · obtain ⟨hnearest, hzero, haway⟩ := hrounded
    have hunit : (2 : ℚ) ^ (e + 1) = 2 * 2 ^ e := by rw [zpow_add_one₀ two_ne_zero, mul_comm]
    have hpos := two_zpow_pos e
    rw [hunit]
    refine ⟨fun hm => ?_, fun hm => ?_, fun hm => ?_⟩
    · exact ⟨by linarith [(hnearest hm).1], fun htie => by linarith [(hnearest hm).1]⟩
    · exact ⟨(hzero hm).1, by linarith [(hzero hm).2]⟩
    · exact ⟨(haway hm).1, by linarith [(haway hm).2]⟩
  · exact hrounded

/-! ### Where a rounding passes a power of two (R490, R493, R494) -/

/-- The magnitude rounds to `2 ^ E` or more: to nearest from the midpoint below it on, toward zero from it on, away from
zero above the last number of full precision below it. -/
def RoundsTo (f : FpFormat) (rm : BitVec 2) (neg : Bool) (x : ℚ) (E : Int) : Prop :=
  (rm = 0 → (2 ^ (f.fracBits + 2) - 1) * 2 ^ (E - f.fracBits - 2) ≤ x) ∧ (TowardZero rm neg → 2 ^ E ≤ x) ∧
    (AwayFromZero rm neg → (2 ^ (f.fracBits + 1) - 1) * 2 ^ (E - f.fracBits - 1) < x)

theorem roundsTo_nearest (x : ℚ) (E : Int) :
    RoundsTo f 0 neg x E ↔ (2 ^ (f.fracBits + 2) - 1) * 2 ^ (E - f.fracBits - 2) ≤ x := by
  rcases mode_cases 0 neg with ⟨-, hz, ha⟩ | ⟨hn, -, -⟩ | ⟨hn, -, -⟩
  · exact ⟨fun h => h.1 rfl, fun h => ⟨fun _ => h, fun hm => absurd hm hz, fun hm => absurd hm ha⟩⟩
  · exact absurd rfl hn
  · exact absurd rfl hn

theorem roundsTo_towardZero (hm : TowardZero rm neg) (x : ℚ) (E : Int) : RoundsTo f rm neg x E ↔ 2 ^ E ≤ x := by
  rcases mode_cases rm neg with ⟨-, hz, -⟩ | ⟨hn, -, ha⟩ | ⟨-, hz, -⟩
  · exact absurd hm hz
  · exact ⟨fun h => h.2.1 hm, fun h => ⟨fun h0 => absurd h0 hn, fun _ => h, fun hm => absurd hm ha⟩⟩
  · exact absurd hm hz

theorem roundsTo_awayFromZero (hm : AwayFromZero rm neg) (x : ℚ) (E : Int) :
    RoundsTo f rm neg x E ↔ (2 ^ (f.fracBits + 1) - 1) * 2 ^ (E - f.fracBits - 1) < x := by
  rcases mode_cases rm neg with ⟨-, -, ha⟩ | ⟨-, -, ha⟩ | ⟨hn, hz, -⟩
  · exact absurd hm ha
  · exact absurd hm ha
  · exact ⟨fun h => h.2.2 hm, fun h => ⟨fun h0 => absurd h0 hn, fun hm => absurd hm hz, fun _ => h⟩⟩

theorem midpoint_eq (f : FpFormat) (n : Nat) (E : Int) :
    ((2 : ℚ) ^ (f.fracBits + n) - 1) * 2 ^ (E - f.fracBits - n) = 2 ^ E - 2 ^ (E - f.fracBits - n) := by
  rw [sub_mul, one_mul, ← zpow_natCast, ← zpow_add₀ two_ne_zero]
  congr 2
  push_cast
  ring

/-- A number with a power of two `2 ^ E` not above it rounds to it or more. -/
theorem roundsTo_of_le {E : Int} (h : (2 : ℚ) ^ E ≤ x) : RoundsTo f rm neg x E := by
  refine ⟨fun _ => ?_, fun _ => h, fun _ => ?_⟩
  · have heq := midpoint_eq f 2 E
    push_cast at heq
    linarith [two_zpow_pos (E - f.fracBits - 2)]
  · have heq := midpoint_eq f 1 E
    push_cast at heq
    linarith [two_zpow_pos (E - f.fracBits - 1)]

/-- A number below half of `2 ^ E` does not round to it. -/
theorem not_roundsTo_of_lt {E : Int} (h : x < (2 : ℚ) ^ (E - 1)) : ¬ RoundsTo f rm neg x E := by
  have hhalf : (2 : ℚ) ^ E = 2 * 2 ^ (E - 1) := by rw [← zpow_one_add₀ two_ne_zero]; congr 1; ring
  have hmid : ∀ n : Nat, (2 : ℚ) ^ (E - 1) ≤ 2 ^ E - 2 ^ (E - f.fracBits - (n + 1 : Nat)) := by
    intro n
    have hle : (2 : ℚ) ^ (E - f.fracBits - (n + 1 : Nat)) ≤ 2 ^ (E - 1) :=
      zpow_le_zpow_right₀ one_le_two (by push_cast; omega)
    linarith
  rcases mode_cases rm neg with ⟨rfl, -, -⟩ | ⟨-, hm, -⟩ | ⟨-, -, hm⟩
  · have heq := midpoint_eq f 2 E
    have := hmid 1
    push_cast at heq this
    rw [roundsTo_nearest, heq]
    linarith
  · rw [roundsTo_towardZero hm]
    linarith [two_zpow_pos (E - 1)]
  · have heq := midpoint_eq f 1 E
    have := hmid 0
    push_cast at heq this
    rw [roundsTo_awayFromZero hm, heq]
    linarith

/-- Whether a magnitude rounds to the first number of the next binade. -/
theorem IsRounding.carries_iff (h : IsRounding f rm neg x q e) :
    RoundsTo f rm neg x (e + f.fracBits + 1) ↔ q = 2 ^ (f.fracBits + 1) := by
  have hpos := two_zpow_pos e
  have hx : x = x / 2 ^ e * 2 ^ e := (div_mul_cancel₀ x hpos.ne').symm
  have hhigh := h.high
  obtain ⟨-, hle⟩ := h.le
  obtain ⟨hnearest, hzero, haway⟩ := h.rounded
  generalize x / 2 ^ e = y at *
  subst hx
  rcases mode_cases rm neg with ⟨rfl, -, -⟩ | ⟨-, hm, -⟩ | ⟨-, -, hm⟩
  · obtain ⟨hclose, htie⟩ := hnearest rfl
    have hunit : (2 : ℚ) ^ (e + f.fracBits + 1 - f.fracBits - 2) = 2 ^ e / 2 := by
      rw [show e + f.fracBits + 1 - f.fracBits - 2 = e - 1 by ring, zpow_sub_one₀ two_ne_zero]
      rfl
    have hthreshold : ((2 : ℚ) ^ (f.fracBits + 2) - 1) * (2 ^ e / 2) = (2 ^ (f.fracBits + 1) - 1 / 2) * 2 ^ e := by
      rw [pow_succ 2 (f.fracBits + 1)]
      ring
    rw [roundsTo_nearest, hunit, hthreshold, mul_le_mul_iff_left₀ hpos]
    have habs := abs_le.mp (show |(q : ℚ) - y| ≤ 1 / 2 by linarith)
    constructor
    · intro hy
      by_contra hne
      have hpred : q + 1 ≤ 2 ^ (f.fracBits + 1) := lt_of_le_of_ne hle hne
      have hpred' : (q : ℚ) + 1 ≤ 2 ^ (f.fracBits + 1) := by exact_mod_cast hpred
      have heven := htie (by rw [show (q : ℚ) - y = -(1 / 2) by linarith [habs.1]]; norm_num)
      have hq : (q : ℚ) = 2 ^ (f.fracBits + 1) - 1 := by linarith [habs.1]
      have hq' : q + 1 = 2 ^ (f.fracBits + 1) := by exact_mod_cast (show (q : ℚ) + 1 = 2 ^ (f.fracBits + 1) by linarith)
      rw [pow_succ] at hq'
      omega
    · intro hq
      rw [hq] at habs
      push_cast at habs
      linarith [habs.2]
  · have hunit : (2 : ℚ) ^ (e + f.fracBits + 1) = 2 ^ (f.fracBits + 1) * 2 ^ e := by
      rw [add_assoc, zpow_add₀ two_ne_zero, mul_comm]
      rfl
    rw [roundsTo_towardZero hm, hunit, mul_le_mul_iff_left₀ hpos]
    refine iff_of_false (not_le.mpr hhigh) fun hq => ?_
    have hle := (hzero hm).1
    rw [hq] at hle
    push_cast at hle
    linarith
  · rw [roundsTo_awayFromZero hm, show e + f.fracBits + 1 - f.fracBits - 1 = e by ring, mul_lt_mul_iff_left₀ hpos]
    obtain ⟨hy, hq⟩ := haway hm
    constructor
    · intro h
      have hlt : (2 : ℚ) ^ (f.fracBits + 1) < q + 1 := by linarith
      exact le_antisymm hle (Nat.lt_succ_iff.mp (by exact_mod_cast hlt))
    · intro h
      rw [h] at hq
      push_cast at hq
      linarith

/-- The exponent of the delivered number is at least `E` just when the magnitude rounds to `2 ^ E` or more. -/
theorem IsRounding.roundsTo_iff (h : IsRounding f rm neg x q e) (E : Int) :
    RoundsTo f rm neg x E ↔ E ≤ (normalize f q e).2 + f.fracBits := by
  have hexp : (normalize f q e).2 = if q = 2 ^ (f.fracBits + 1) then e + 1 else e := by
    unfold normalize
    split <;> rfl
  rw [hexp]
  rcases Int.lt_trichotomy E (e + f.fracBits + 1) with hlt | rfl | hgt
  · refine iff_of_true (roundsTo_of_le (le_trans ?_ h.low_le)) (by split <;> omega)
    exact zpow_le_zpow_right₀ one_le_two (by omega)
  · rw [h.carries_iff]
    split <;> simp [*]
  · refine iff_of_false (not_roundsTo_of_lt (lt_of_lt_of_le h.lt_high ?_)) (by split <;> omega)
    exact zpow_le_zpow_right₀ one_le_two (by omega)

end Sys2Proof.Machine
end

section
/-! Delivering a result (R490, R493, R494, R496): overflow, underflow and rounding: `FpRounding`. -/

namespace Sys2Proof.Machine

variable {f : FpFormat} {rm : BitVec 2} {neg : Bool} {c : FpControl} {mag : Nat} {exp : Int}

/-! ### Sticky bits -/

/-- An amount below one unit of the remainder decides as a sticky bit does. -/
theorem roundsUp_sticky (rm : BitVec 2) (neg odd : Bool) (rest half : Nat) {j d : Nat} (hd : 0 < d) (hj : d < 2 ^ j) :
    roundsUp rm neg odd rest half true = roundsUp rm neg odd (rest * 2 ^ j + d) (half * 2 ^ j) false := by
  rcases mode_cases rm neg with ⟨rfl, -, -⟩ | ⟨-, hm, -⟩ | ⟨-, -, hm⟩
  · rw [roundsUp_nearest, roundsUp_nearest, Bool.eq_iff_iff]
    simp only [Bool.or_eq_true, Bool.and_eq_true, decide_eq_true_eq, Bool.true_or, and_true]
    by_cases hle : half ≤ rest
    · have := Nat.mul_le_mul_right (2 ^ j) hle
      exact iff_of_true (by omega) (by omega)
    · have := Nat.mul_le_mul_right (2 ^ j) (Nat.lt_of_not_le hle)
      rw [Nat.succ_mul] at this
      exact iff_of_false (by omega) (by omega)
  · rw [roundsUp_towardZero hm, roundsUp_towardZero hm]
  · rw [roundsUp_awayFromZero hm, roundsUp_awayFromZero hm]
    simp [hd.ne']

theorem roundShift_sticky (rm : BitVec 2) (neg : Bool) {mag m j k : Nat} (hk : 0 < k) (hlow : mag * 2 ^ j < m)
    (hhigh : m < (mag + 1) * 2 ^ j) : roundShift rm neg mag k true = roundShift rm neg m (k + j) false := by
  obtain ⟨d, rfl⟩ := Nat.exists_eq_add_of_lt hlow
  rw [Nat.succ_mul, Nat.add_assoc, Nat.add_lt_add_iff_left] at hhigh
  rw [Nat.add_assoc]
  have hj : (mag * 2 ^ j + (d + 1)) / 2 ^ j = mag := by
    rw [Nat.mul_comm, Nat.mul_add_div (by positivity), Nat.div_eq_of_lt hhigh, Nat.add_zero]
  have hquot : (mag * 2 ^ j + (d + 1)) / 2 ^ (k + j) = mag / 2 ^ k := by
    rw [pow_add, Nat.mul_comm (2 ^ k), ← Nat.div_div_eq_div_mul, hj]
  have hrest : (mag * 2 ^ j + (d + 1)) % 2 ^ (k + j) = mag % 2 ^ k * 2 ^ j + (d + 1) := by
    rw [pow_add, Nat.mul_comm (2 ^ k), Nat.mod_mul, hj, Nat.mul_comm mag, Nat.mul_add_mod, Nat.mod_eq_of_lt hhigh,
      Nat.add_comm, Nat.mul_comm]
  have hhalf : 2 ^ (k + j - 1) = 2 ^ (k - 1) * 2 ^ j := by rw [← pow_add]; congr 1; omega
  unfold roundShift
  rw [if_neg hk.ne', if_neg (by omega)]
  dsimp only
  rw [hquot, hrest, hhalf, ← roundsUp_sticky rm neg _ _ _ (Nat.succ_pos d) hhigh]
  simp

/-- A sticky bit stands for any amount between a magnitude and the next one (R483). -/
theorem roundPrecision_sticky {j m : Nat} (hfull : 2 ^ (f.fracBits + 1) ≤ mag) (hlow : mag * 2 ^ j < m)
    (hhigh : m < (mag + 1) * 2 ^ j) :
    roundPrecision f rm neg mag exp true = roundPrecision f rm neg m (exp - j) false := by
  have hmag : mag ≠ 0 := fun h => by rw [h] at hfull; exact absurd hfull (by simp)
  have hfrac : f.fracBits + 1 ≤ Nat.log2 mag := (Nat.le_log2 hmag).mpr hfull
  have hlog : Nat.log2 m = Nat.log2 mag + j := by
    refine (Nat.log2_eq_iff (by omega)).mpr ⟨?_, ?_⟩
    · rw [pow_add]
      exact (Nat.mul_le_mul_right _ (Nat.log2_self_le hmag)).trans hlow.le
    · rw [Nat.add_right_comm, pow_add]
      exact hhigh.trans_le (Nat.mul_le_mul_right _ Nat.lt_log2_self)
  have hexp : exp - j + ((Nat.log2 mag + j + 1 - (f.fracBits + 1) : Nat) : Int) =
      exp + ((Nat.log2 mag + 1 - (f.fracBits + 1) : Nat) : Int) := by omega
  have hk : Nat.log2 mag + j + 1 - (f.fracBits + 1) = Nat.log2 mag + 1 - (f.fracBits + 1) + j := by omega
  unfold roundPrecision
  dsimp only
  rw [hlog, if_neg (show ¬ Nat.log2 mag + 1 ≤ f.fracBits + 1 by omega),
    if_neg (show ¬ Nat.log2 mag + j + 1 ≤ f.fracBits + 1 by omega), hexp, hk,
    ← roundShift_sticky rm neg (by omega) hlow hhigh]

theorem deliver_sticky {j m : Nat} (hfull : 2 ^ (f.fracBits + 1) ≤ mag) (hlow : mag * 2 ^ j < m)
    (hhigh : m < (mag + 1) * 2 ^ j) : deliver f c neg mag exp true = deliver f c neg m (exp - j) false := by
  rw [deliver, deliver, roundPrecision_sticky hfull hlow hhigh]

/-! ### What is delivered -/

/-- A magnitude that overflows (R493, R496). -/
theorem deliver_of_overflow (hmag : 0 < mag) (h : RoundsTo f c.rm neg (mag * 2 ^ exp) (f.bias + 1)) :
    deliver f c neg mag exp false = { cond := condOI, bits := overflowBits f c.rm neg } := by
  obtain ⟨q, e, hr, heq⟩ := exists_isRounding f c.rm neg hmag exp
  rw [hr.roundsTo_iff] at h
  simp only [deliver, heq]
  rw [if_pos (by omega)]

theorem bias_emin (f : FpFormat) : f.emin ≤ f.bias := by cases f <;> decide

/-- A magnitude that is tiny (R494, R496). -/
theorem deliver_of_tiny (hmag : 0 < mag) (h : ¬ RoundsTo f c.rm neg (mag * 2 ^ exp) f.emin) :
    deliver f c neg mag exp false =
      if c.uiEnabled || !c.fs then { cond := condE, bits := 0 }
      else { cond := condUI, bits := underflowBits f c.rm neg } := by
  obtain ⟨q, e, hr, heq⟩ := exists_isRounding f c.rm neg hmag exp
  have hbias := bias_emin f
  rw [hr.roundsTo_iff] at h
  simp only [deliver, heq]
  rw [if_neg (by omega), if_pos (by omega)]

/-- Every other magnitude gives a normal number (R490). -/
theorem deliver_of_inRange (hmag : 0 < mag) (hmax : ¬ RoundsTo f c.rm neg (mag * 2 ^ exp) (f.bias + 1))
    (hmin : RoundsTo f c.rm neg (mag * 2 ^ exp) f.emin) :
    ∃ (sig : Nat) (e : Int), f.InRange sig e ∧ Rounded c.rm neg sig (sig * 2 ^ e) (mag * 2 ^ exp) (2 ^ e) ∧
      deliver f c neg mag exp false =
        { cond := if (sig : ℚ) * 2 ^ e ≠ mag * 2 ^ exp then condI else 0
          bits := packFields f neg (e + f.fracBits + f.bias).toNat (sig - 2 ^ f.fracBits) } := by
  obtain ⟨q, e, hr, heq⟩ := exists_isRounding f c.rm neg hmag exp
  obtain ⟨hlow, hhigh⟩ := hr.normalize_lt
  have hrounded := hr.normalize_rounded
  rw [hr.roundsTo_iff] at hmax hmin
  rw [← normalize_value f] at heq
  simp only [deliver, heq]
  generalize normalize f q e = r at *
  refine ⟨r.1, r.2, ⟨hlow, hhigh, by omega, by omega⟩, hrounded, ?_⟩
  rw [if_neg (by omega), if_neg (by omega)]
  simp only [decide_eq_true_eq]

theorem towardZero_of_not (h : ¬ (rm = 0 ∨ AwayFromZero rm neg)) : TowardZero rm neg := by
  rcases mode_cases rm neg with ⟨hm, -⟩ | ⟨-, hm, -⟩ | ⟨-, -, hm⟩
  · exact absurd (.inl hm) h
  · exact hm
  · exact absurd (.inr hm) h

theorem nearest_or_towardZero (h : ¬ AwayFromZero rm neg) : rm = 0 ∨ TowardZero rm neg := by
  rcases mode_cases rm neg with ⟨hm, -⟩ | ⟨-, hm, -⟩ | ⟨-, -, hm⟩
  · exact .inl hm
  · exact .inr hm
  · exact absurd hm h

theorem overflowBits_infinite (h : rm = 0 ∨ AwayFromZero rm neg) : overflowBits f rm neg = packInf f neg := by
  rcases h with rfl | ⟨rfl, rfl⟩ | ⟨rfl, rfl⟩ <;> rfl

theorem overflowBits_finite (h : TowardZero rm neg) : overflowBits f rm neg = packMax f neg := by
  rcases h with rfl | ⟨rfl, rfl⟩ | ⟨rfl, rfl⟩ <;> rfl

theorem underflowBits_away (h : AwayFromZero rm neg) : underflowBits f rm neg = packMinNormal f neg := by
  rcases h with ⟨rfl, rfl⟩ | ⟨rfl, rfl⟩ <;> rfl

theorem underflowBits_zero (h : rm = 0 ∨ TowardZero rm neg) : underflowBits f rm neg = packZero f neg := by
  rcases h with rfl | rfl | ⟨rfl, rfl⟩ | ⟨rfl, rfl⟩ <;> rfl

/-! ### Scaled integers -/

/-- Over a common unit below both, exact magnitudes are compared as natural numbers. -/
theorem scaled_cast (n : Nat) {e base : Int} (h : base ≤ e) :
    ((n * 2 ^ (e - base).toNat : Nat) : ℚ) = n * 2 ^ e / 2 ^ base := by
  push_cast
  rw [two_pow_toNat (by omega), zpow_sub₀ two_ne_zero, mul_div_assoc]

theorem scaled_lt_iff (n n' : Nat) (e e' : Int) :
    n * 2 ^ (e - min e' e).toNat < n' * 2 ^ (e' - min e' e).toNat ↔ (n : ℚ) * 2 ^ e < n' * 2 ^ e' := by
  rw [← @Nat.cast_lt ℚ, scaled_cast n (min_le_right e' e), scaled_cast n' (min_le_left e' e),
    div_lt_div_iff_of_pos_right (two_zpow_pos _)]

theorem scaled_le_iff (n n' : Nat) (e e' : Int) :
    n * 2 ^ (e - min e' e).toNat ≤ n' * 2 ^ (e' - min e' e).toNat ↔ (n : ℚ) * 2 ^ e ≤ n' * 2 ^ e' := by
  rw [← @Nat.cast_le ℚ, scaled_cast n (min_le_right e' e), scaled_cast n' (min_le_left e' e),
    div_le_div_iff_of_pos_right (two_zpow_pos _)]

theorem ones_cast (n : Nat) : ((2 ^ n - 1 : Nat) : ℚ) = 2 ^ n - 1 := by
  rw [Nat.cast_sub Nat.one_le_two_pow]
  push_cast
  rfl

/-- The magnitudes that stay below `2 ^ E`. -/
theorem not_roundsTo_iff (rm : BitVec 2) (neg : Bool) (x : ℚ) (E : Int) :
    ¬ RoundsTo f rm neg x E ↔ (rm = 0 → x < (2 ^ (f.fracBits + 2) - 1) * 2 ^ (E - f.fracBits - 2)) ∧
      (TowardZero rm neg → x < 2 ^ E) ∧
      (AwayFromZero rm neg → x ≤ (2 ^ (f.fracBits + 1) - 1) * 2 ^ (E - f.fracBits - 1)) := by
  rcases mode_cases rm neg with ⟨rfl, hz, ha⟩ | ⟨hn, hz, ha⟩ | ⟨hn, hz, ha⟩
  · rw [roundsTo_nearest, not_le]
    exact ⟨fun h => ⟨fun _ => h, fun hm => absurd hm hz, fun hm => absurd hm ha⟩, fun h => h.1 rfl⟩
  · rw [roundsTo_towardZero hz, not_le]
    exact ⟨fun h => ⟨fun h0 => absurd h0 hn, fun _ => h, fun hm => absurd hm ha⟩, fun h => h.2.1 hz⟩
  · rw [roundsTo_awayFromZero ha, not_lt]
    exact ⟨fun h => ⟨fun h0 => absurd h0 hn, fun hm => absurd hm hz, fun _ => h⟩, fun h => h.2.2 ha⟩

/-- Rounding, stated of integers over a common unit. -/
theorem rounded_scaled_iff (rm : BitVec 2) (neg : Bool) (sig mag : Nat) {e exp base : Int} (he : base ≤ e)
    (hexp : base ≤ exp) :
    Rounded rm neg sig ((sig * 2 ^ (e - base).toNat : Int) : ℚ) ((mag * 2 ^ (exp - base).toNat : Int) : ℚ)
        ((2 ^ (e - base).toNat : Int) : ℚ) ↔
      Rounded rm neg sig (sig * 2 ^ e) (mag * 2 ^ exp) (2 ^ e) := by
  have hsig := scaled_cast sig he
  have hmag := scaled_cast mag hexp
  have hunit := scaled_cast 1 he
  push_cast at hsig hmag hunit ⊢
  rw [one_mul, one_mul] at hunit
  rw [hsig, hmag, hunit, div_eq_mul_inv, div_eq_mul_inv, div_eq_mul_inv, rounded_mul (inv_pos.mpr (two_zpow_pos base))]

/-- Rounding, stated of integers. -/
theorem rounded_int_iff (rm : BitVec 2) (neg : Bool) (sig : Nat) (v x u : Int) :
    Rounded rm neg sig v x u ↔
      (rm = 0 → 2 * ((v - x).natAbs : Int) ≤ u ∧ (2 * ((v - x).natAbs : Int) = u → sig % 2 = 0)) ∧
        (TowardZero rm neg → v ≤ x ∧ x < v + u) ∧ (AwayFromZero rm neg → x ≤ v ∧ v < x + u) := by
  unfold Rounded
  rw [Int.natCast_natAbs]
  norm_cast

/-- Settles O59: `RoundsTo` says where a magnitude overflows and where it is tiny, and `Rounded` what is delivered in
between. -/
theorem fpRounding : Obligations.FpRounding := by
  unfold Obligations.FpRounding
  intro f c neg mag exp k hmag r towardZero away below atMost overflows tiny rounded
  have hbelow : ∀ n e, below n e ↔ (mag : ℚ) * 2 ^ exp < n * 2 ^ e := fun n e => scaled_lt_iff mag n exp e
  have hatMost : ∀ n e, atMost n e ↔ (mag : ℚ) * 2 ^ exp ≤ n * 2 ^ e := fun n e => scaled_le_iff mag n exp e
  have hoverflows : overflows ↔ RoundsTo f c.rm neg (mag * 2 ^ exp) (f.bias + 1) := by
    have hmid : f.bias + 1 - f.fracBits - 2 = f.bias - f.fracBits - 1 := by ring
    have hlast : f.bias + 1 - f.fracBits - 1 = f.bias - f.fracBits := by ring
    unfold RoundsTo
    simp only [overflows, hbelow, hatMost, not_lt, not_le, hmid, hlast, Nat.cast_one, one_mul, ones_cast]
    rfl
  have htiny : tiny ↔ ¬ RoundsTo f c.rm neg (mag * 2 ^ exp) f.emin := by
    rw [not_roundsTo_iff]
    simp only [tiny, hbelow, hatMost, Nat.cast_one, one_mul, ones_cast]
    rfl
  rw [hoverflows, htiny]
  refine ⟨fun h => ?_, fun h => ?_, fun hmax hmin => ?_, fun rm => ⟨?_, (roundShift_rounded rm neg mag k).2⟩,
    fun j m hfull hlow hhigh => deliver_sticky hfull hlow hhigh⟩
  · rw [show r = _ from deliver_of_overflow hmag h]
    refine ⟨rfl, ?_⟩
    split
    · next hm => rw [overflowBits_infinite hm, unpack_packInf]
    · next hm => rw [overflowBits_finite (towardZero_of_not hm), unpack_packMax]
  · rw [show r = _ from deliver_of_tiny hmag h]
    refine ⟨fun hfs hui => ?_, fun hfs => ?_⟩
    · rw [if_neg (by simp [hfs, hui])]
      refine ⟨rfl, ?_⟩
      split
      · next hm => rw [underflowBits_away hm, unpack_packMinNormal]
      · next hm => rw [underflowBits_zero (nearest_or_towardZero hm), unpack_packZero]
    · rw [if_pos (by rcases hfs with hfs | hui <;> simp [*])]
  · obtain ⟨sig, e, hrange, hrounded, heq⟩ := deliver_of_inRange hmag hmax (not_not.mp hmin)
    have hvalue : (sig : Int) * 2 ^ (e - min e exp).toNat = mag * 2 ^ (exp - min e exp).toNat ↔
        (sig : ℚ) * 2 ^ e = mag * 2 ^ exp := by
      have hsig := scaled_cast sig (min_le_left e exp)
      have hmag := scaled_cast mag (min_le_right e exp)
      rw [← div_left_inj' (two_zpow_pos (min e exp)).ne', ← hsig, ← hmag]
      norm_cast
    simp only [r, heq, unpack_packed hrange]
    refine ⟨?_, sig, e, rfl, ?_, ?_⟩
    · split <;> simp
    · exact (rounded_int_iff ..).mp ((rounded_scaled_iff _ _ _ _ (min_le_left e exp) (min_le_right e exp)).mpr hrounded)
    · refine Iff.trans ?_ hvalue.not.symm
      split
      · next h => exact iff_of_true rfl h
      · next h => exact iff_of_false (by decide) h
  · have h := (rounded_unit (pow_pos (two_pos (α := ℚ)) k)).mpr (roundShift_rounded rm neg mag k).1
    refine (rounded_int_iff ..).mp ?_
    push_cast
    exact h

end Sys2Proof.Machine
end

section
/-! Operands that are no ordinary numbers (R484, R491, R492, R495): `FpSpecialResults`. -/

namespace Sys2Proof.Machine

variable {f g : FpFormat} {c : FpControl} {a : Nat} {p q : Bool} {x y z d k : FpValue}

/-! ### Kinds of operands -/

/-- A zero or a normal number. -/
def FpValue.Ordinary (v : FpValue) : Prop := (∃ n, v = .zero n) ∨ ∃ n m e, 0 < m ∧ v = .normal n m e

/-- An ordinary number or an infinity. -/
def FpValue.Number (v : FpValue) : Prop := v.Ordinary ∨ ∃ n, v = .inf n

theorem ordinary_unpack_iff :
    (unpack f a).Ordinary ↔ (∃ n, unpack f a = .zero n) ∨ ∃ n m e, unpack f a = .normal n m e := by
  refine or_congr_right ⟨fun ⟨n, m, e, _, h⟩ => ⟨n, m, e, h⟩, fun ⟨n, m, e, h⟩ => ⟨n, m, e, ?_, h⟩⟩
  exact (Nat.two_pow_pos _).trans_le (unpack_normal h).1

theorem unimplemented_iff (v : FpValue) :
    v.unimplemented = true ↔ (∃ n, v = .nan false n) ∨ ∃ n m e, v = .denormal n m e := by
  cases v with
  | nan s n => cases s <;> simp [FpValue.unimplemented]
  | inf n | zero n | denormal n m e | normal n m e => simp [FpValue.unimplemented]

theorem FpValue.Ordinary.screened (h : x.Ordinary) : x.unimplemented = false ∧ x.isSignaling = false := by
  rcases h with ⟨n, rfl⟩ | ⟨n, m, e, hm, rfl⟩ <;> exact ⟨rfl, rfl⟩

theorem FpValue.Number.screened (h : x.Number) : x.unimplemented = false ∧ x.isSignaling = false := by
  rcases h with h | ⟨n, rfl⟩
  · exact h.screened
  · exact ⟨rfl, rfl⟩

/-! ### Screening -/

theorem screen_unimplemented {vs : List FpValue} {r : FpResult} (h : ∃ v ∈ vs, v.unimplemented = true) :
    screen f vs r = { cond := condE, bits := 0 } :=
  if_pos (List.any_eq_true.mpr h)

theorem screen_signaling {vs : List FpValue} {r : FpResult} (h : ∀ v ∈ vs, v.unimplemented = false)
    (hs : ∃ v ∈ vs, v.isSignaling = true) : screen f vs r = invalidResult f := by
  rw [screen, if_neg (by simpa using h), if_pos (List.any_eq_true.mpr hs)]

theorem screen_passed {vs : List FpValue} {r : FpResult}
    (h : ∀ v ∈ vs, v.unimplemented = false ∧ v.isSignaling = false) : screen f vs r = r := by
  rw [screen, if_neg (by simpa using fun v hv => (h v hv).1), if_neg (by simpa using fun v hv => (h v hv).2)]

/-- The operations screen their operands (R484). -/
theorem fpAdd_unimplemented (h : x.unimplemented = true ∨ y.unimplemented = true) : (fpAdd f c x y).cond = condE := by
  rw [fpAdd, screen_unimplemented (by simpa using h)]

theorem fpSub_unimplemented (h : x.unimplemented = true ∨ y.unimplemented = true) : (fpSub f c x y).cond = condE := by
  rw [fpSub, screen_unimplemented (by simpa using h)]

theorem fpMul_unimplemented (h : x.unimplemented = true ∨ y.unimplemented = true) : (fpMul f c x y).cond = condE := by
  rw [fpMul, screen_unimplemented (by simpa using h)]

theorem fpDiv_unimplemented (h : x.unimplemented = true ∨ y.unimplemented = true) :
    (fpDiv f false c x y).cond = condE := by
  rw [fpDiv, if_neg (by decide), screen_unimplemented (by simpa using h)]

theorem fpSqrt_unimplemented (h : x.unimplemented = true) : (fpSqrt f false c x).cond = condE := by
  rw [fpSqrt, if_neg (by decide), screen_unimplemented (by simpa using h)]

theorem fpToFp_unimplemented (h : x.unimplemented = true) : (fpToFp f c x).cond = condE := by
  unfold fpToFp
  rw [screen_unimplemented (by simpa using h)]

theorem fpToInt_unimplemented (h : x.unimplemented = true) (w : Nat) (rm : BitVec 2) :
    (fpToInt w rm x).cond = condE := by
  unfold fpToInt
  rw [if_pos h]

theorem signOperations_unimplemented (h : (unpack f a).unimplemented = true) :
    (fpAbs f a).cond = condE ∧ (fpNeg f a).cond = condE := by
  have hv : ∃ v ∈ [unpack f a], v.unimplemented = true := by simpa using h
  rw [fpAbs, fpNeg, screen_unimplemented hv, screen_unimplemented hv]
  exact ⟨rfl, rfl⟩

theorem binary_signaling (hx : x.unimplemented = false) (hy : y.unimplemented = false)
    (h : x.isSignaling = true ∨ y.isSignaling = true) :
    fpAdd f c x y = invalidResult f ∧ fpSub f c x y = invalidResult f ∧ fpMul f c x y = invalidResult f ∧
      fpDiv f false c x y = invalidResult f := by
  have hv : ∀ v ∈ [x, y], v.unimplemented = false := by simp [hx, hy]
  have hs : ∃ v ∈ [x, y], v.isSignaling = true := by simpa using h
  exact ⟨screen_signaling hv hs, screen_signaling hv hs, screen_signaling hv hs, screen_signaling hv hs⟩

theorem unary_signaling (h : (unpack f a).isSignaling = true) :
    fpToFp g c (unpack f a) = invalidResult g ∧ fpSqrt f false c (unpack f a) = invalidResult f ∧
      fpAbs f a = invalidResult f ∧ fpNeg f a = invalidResult f := by
  obtain ⟨n, hn⟩ := (isSignaling_iff _).mp h
  simp only [fpAbs, fpNeg, hn]
  exact ⟨rfl, rfl, rfl, rfl⟩

/-! ### Exact results -/

/-- The operation raises nothing and its result has this value. -/
def FpResult.Delivers (r : FpResult) (f : FpFormat) (v : FpValue) : Prop := r.cond = 0 ∧ unpack f r.bits = v

theorem delivers_inf (f : FpFormat) (n : Bool) : (exactResult (packInf f n)).Delivers f (.inf n) :=
  ⟨rfl, unpack_packInf f n⟩

theorem delivers_zero (f : FpFormat) (n : Bool) : (exactResult (packZero f n)).Delivers f (.zero n) :=
  ⟨rfl, unpack_packZero f n⟩

/-- An operation that delivers a magnitude and raises nothing has delivered it as it is. -/
theorem deliver_exact {mag : Nat} {exp : Int} {neg : Bool} (hmag : 0 < mag)
    (h : (deliver f c neg mag exp false).cond = 0) :
    ∃ sig e, unpack f (deliver f c neg mag exp false).bits = .normal neg sig e ∧ (sig : ℚ) * 2 ^ e = mag * 2 ^ exp := by
  by_cases hmax : RoundsTo f c.rm neg (mag * 2 ^ exp) (f.bias + 1)
  · rw [deliver_of_overflow hmag hmax] at h
    exact absurd h (show condOI ≠ 0 by decide)
  by_cases hmin : RoundsTo f c.rm neg (mag * 2 ^ exp) f.emin
  · obtain ⟨sig, e, hrange, -, heq⟩ := deliver_of_inRange hmag hmax hmin
    rw [heq] at h ⊢
    refine ⟨sig, e, unpack_packed hrange, ?_⟩
    by_contra hne
    exact absurd ((if_pos hne).symm.trans h) (by decide)
  · rw [deliver_of_tiny hmag hmin] at h
    split at h
    · exact absurd h (show condE ≠ 0 by decide)
    · exact absurd h (show condUI ≠ 0 by decide)

/-! ### Infinities -/

theorem addValues_inf_left (h : y.Ordinary) : addValues f c (.inf p) y = exactResult (packInf f p) := by
  rcases h with ⟨n, rfl⟩ | ⟨n, m, e, hm, rfl⟩ <;> rfl

theorem addValues_inf_right (h : ∀ n, x ≠ .inf n) : addValues f c x (.inf p) = exactResult (packInf f p) := by
  cases x with
  | inf n => exact absurd rfl (h n)
  | nan s n | zero n | denormal n m e | normal n m e => rfl

theorem addValues_inf_inf (p q : Bool) :
    addValues f c (.inf p) (.inf q) = if p = q then exactResult (packInf f p) else invalidResult f := by
  cases p <;> cases q <;> rfl

theorem mulValues_inf_left (h : y.Number) (hy : ∀ n, y ≠ .zero n) :
    mulValues f c (.inf p) y = exactResult (packInf f (p != y.neg)) := by
  rcases h with (⟨n, rfl⟩ | ⟨n, m, e, hm, rfl⟩) | ⟨n, rfl⟩
  · exact absurd rfl (hy n)
  · rfl
  · rfl

theorem mulValues_inf_right (h : x.Number) (hx : ∀ n, x ≠ .zero n) :
    mulValues f c x (.inf p) = exactResult (packInf f (x.neg != p)) := by
  rcases h with (⟨n, rfl⟩ | ⟨n, m, e, hm, rfl⟩) | ⟨n, rfl⟩
  · exact absurd rfl (hx n)
  · rfl
  · rfl

theorem FpValue.Ordinary.negate (h : x.Ordinary) : x.negate.Ordinary := by
  rcases h with ⟨n, rfl⟩ | ⟨n, m, e, hm, rfl⟩
  · exact .inl ⟨_, rfl⟩
  · exact .inr ⟨_, _, _, hm, rfl⟩

theorem fpMul_eq (hx : x.Number) (hy : y.Number) : fpMul f c x y = mulValues f c x y :=
  screen_passed (by simp [hx.screened, hy.screened])

theorem FpValue.Ordinary.ne_inf (h : x.Ordinary) (n : Bool) : x ≠ .inf n := by
  rcases h with ⟨n, rfl⟩ | ⟨n, m, e, hm, rfl⟩ <;> exact nofun

/-- An infinity and an ordinary number. -/
theorem binary_infinite (hy : y.Ordinary) :
    fpAdd f c (.inf p) y = exactResult (packInf f p) ∧ fpAdd f c y (.inf p) = exactResult (packInf f p) ∧
      fpSub f c (.inf p) y = exactResult (packInf f p) ∧ fpSub f c y (.inf p) = exactResult (packInf f (!p)) ∧
      fpDiv f false c (.inf p) y = exactResult (packInf f (p != y.neg)) ∧
      fpDiv f false c y (.inf p) = exactResult (packZero f (p != y.neg)) := by
  rw [bne_comm (a := p) (b := y.neg)]
  rcases hy with ⟨n, rfl⟩ | ⟨n, m, e, hm, rfl⟩ <;> cases p <;> cases n <;> exact ⟨rfl, rfl, rfl, rfl, rfl, rfl⟩

theorem mul_infinite (h : y.Number) :
    ((∀ n, y ≠ .zero n) → fpMul f c (.inf p) y = exactResult (packInf f (p != y.neg))) ∧
      ((∀ n, y ≠ .zero n) → fpMul f c y (.inf p) = exactResult (packInf f (p != y.neg))) := by
  have hp : (FpValue.inf p).Number := .inr ⟨p, rfl⟩
  refine ⟨fun hy => ?_, fun hy => ?_⟩
  · rw [fpMul_eq hp h, mulValues_inf_left h hy]
  · rw [fpMul_eq h hp, mulValues_inf_right h hy, bne_comm]

/-- Two infinities: the sign of the second decides. -/
theorem sum_infinite (p q : Bool) :
    fpAdd f c (.inf p) (.inf q) = (if p = q then exactResult (packInf f p) else invalidResult f) ∧
      fpSub f c (.inf p) (.inf q) = if p = q then invalidResult f else exactResult (packInf f p) := by
  cases p <;> cases q <;> exact ⟨rfl, rfl⟩

/-! ### The sign operations (R505, R507) -/

/-- ABS and NEG of a number touch nothing but its sign bit. -/
theorem signOperations (h : (unpack f a).Number) :
    (fpAbs f a).cond = 0 ∧ (fpNeg f a).cond = 0 ∧
      (∀ i, i < f.fracBits + f.expBits →
        (fpAbs f a).bits.testBit i = a.testBit i ∧ (fpNeg f a).bits.testBit i = a.testBit i) ∧
      (fpAbs f a).bits.testBit (f.fracBits + f.expBits) = false ∧
      (fpNeg f a).bits.testBit (f.fracBits + f.expBits) = !a.testBit (f.fracBits + f.expBits) := by
  have hscreened : ∀ v ∈ [unpack f a], v.unimplemented = false ∧ v.isSignaling = false := by simpa using h.screened
  obtain ⟨hlow, hsign⟩ := flipSign_fields f a
  rw [fpAbs, fpNeg, screen_passed hscreened, screen_passed hscreened]
  refine ⟨rfl, rfl, fun i hi => ⟨?_, ?_⟩, ?_, ?_⟩
  · simp [exactResult, Nat.testBit_mod_two_pow, hi]
  · have hbit := congrArg (Nat.testBit · i) hlow
    simpa [exactResult, Nat.testBit_mod_two_pow, hi] using hbit
  · simp [exactResult, Nat.testBit_mod_two_pow]
  · simp only [exactResult, Nat.testBit_eq_decide_div_mod_eq, hsign]
    rcases Nat.mod_two_eq_zero_or_one (a / 2 ^ (f.fracBits + f.expBits)) with h0 | h1
    · simp [h0]
    · simp [h1]

/-! ### Multiply-add (R589) -/

/-- The sum of the product and the addend as the form takes it. -/
def maddValues (f : FpFormat) (minus : Bool) (c : FpControl) (d x y : FpValue) : FpResult :=
  if c.fused then fusedValues f c x y (if minus then d.negate else d)
  else twoStepValues f c x y (if minus then d.negate else d)

/-- A multiply-add before its sign is taken. -/
def maddResult (f : FpFormat) (minus : Bool) (c : FpControl) (d x y : FpValue) : FpResult :=
  screen f [d, x, y] (maddValues f minus c d x y)

theorem fpMadd_eq (f : FpFormat) (minus negate : Bool) (c : FpControl) (d x y : FpValue) :
    fpMadd f minus negate c d x y =
      if negate && !(maddResult f minus c d x y).cond.getLsbD 4 then
        { cond := (maddResult f minus c d x y).cond, bits := flipSign f (maddResult f minus c d x y).bits }
      else maddResult f minus c d x y := rfl

theorem cond_fpMadd (f : FpFormat) (minus negate : Bool) (c : FpControl) (d x y : FpValue) :
    (fpMadd f minus negate c d x y).cond = (maddResult f minus c d x y).cond := by
  rw [fpMadd_eq]
  split <;> rfl

theorem fpMadd_invalid {minus negate : Bool} (h : maddResult f minus c d x y = invalidResult f) :
    fpMadd f minus negate c d x y = invalidResult f := by
  rw [fpMadd_eq, h, if_neg (by simp [invalidResult, condV])]

/-- The negated forms invert the sign of a result that is not invalid. -/
theorem unpack_fpMadd {minus negate : Bool} (h : (maddResult f minus c d x y).cond.getLsbD 4 = false) :
    unpack f (fpMadd f minus negate c d x y).bits =
      if negate then (unpack f (maddResult f minus c d x y).bits).negate
      else unpack f (maddResult f minus c d x y).bits := by
  rw [fpMadd_eq, h]
  cases negate
  · rfl
  · exact unpack_flipSign f _

theorem fpMadd_delivers {minus negate : Bool} {v : FpValue} (h : (maddResult f minus c d x y).Delivers f v) :
    (fpMadd f minus negate c d x y).Delivers f (if negate then v.negate else v) := by
  obtain ⟨hcond, hbits⟩ := h
  refine ⟨(cond_fpMadd ..).trans hcond, ?_⟩
  rw [unpack_fpMadd (by rw [hcond]; rfl), hbits]

/-- A product without conditions is joined to the sum as it stands. -/
theorem twoStepValues_eq (h : (mulValues f c x y).cond = 0) :
    twoStepValues f c x y z = addValues f c (unpack f (mulValues f c x y).bits) z := by
  simp [twoStepValues, h]

theorem twoStepValues_invalid (h : mulValues f c x y = invalidResult f) : twoStepValues f c x y z = invalidResult f := by
  simp [twoStepValues, h, invalidResult, condV]

/-- A product of numbers that raises nothing is no infinity. -/
theorem mulValues_ne_inf (hx : x.Ordinary) (hy : y.Ordinary) (h : (mulValues f c x y).cond = 0) (n : Bool) :
    unpack f (mulValues f c x y).bits ≠ .inf n := by
  rcases hx with ⟨p, rfl⟩ | ⟨p, m, e, hm, rfl⟩ <;> rcases hy with ⟨q, rfl⟩ | ⟨q, m', e', hm', rfl⟩
  · rw [show mulValues f c _ _ = exactResult (packZero f (p != q)) from rfl, (delivers_zero f _).2]
    exact nofun
  · rw [show mulValues f c _ _ = exactResult (packZero f (p != q)) from rfl, (delivers_zero f _).2]
    exact nofun
  · rw [show mulValues f c _ _ = exactResult (packZero f (p != q)) from rfl, (delivers_zero f _).2]
    exact nofun
  · obtain ⟨sig, e, heq, -⟩ := deliver_exact (Nat.mul_pos hm hm') h
    exact fun hinf => nomatch heq.symm.trans hinf

/-- The sum of an infinite product and the addend. -/
theorem maddValues_inf {minus : Bool} (hx : x.Number) (hy : y.Number) (hinf : (∃ n, x = .inf n) ∨ ∃ n, y = .inf n)
    (hx0 : ∀ n, x ≠ .zero n) (hy0 : ∀ n, y ≠ .zero n) :
    maddValues f minus c d x y = addValues f c (.inf (x.neg != y.neg)) (if minus then d.negate else d) := by
  have hmul : mulValues f c x y = exactResult (packInf f (x.neg != y.neg)) := by
    rcases hinf with ⟨n, rfl⟩ | ⟨n, rfl⟩
    · exact mulValues_inf_left hy hy0
    · exact mulValues_inf_right hx hx0
  unfold maddValues
  split
  · rcases hinf with ⟨n, rfl⟩ | ⟨n, rfl⟩
    · cases y with
      | zero q => exact absurd rfl (hy0 q)
      | nan s q | inf q | denormal q m e | normal q m e => rfl
    · cases x with
      | zero q => exact absurd rfl (hx0 q)
      | nan s q | inf q | denormal q m e | normal q m e => rfl
  · rw [twoStepValues_eq (by rw [hmul]; rfl), hmul]
    exact congrArg (addValues f c · _) (unpack_packInf f _)

/-- An infinity times a zero is invalid. -/
theorem maddValues_inf_zero {minus : Bool} (p q : Bool) :
    maddValues f minus c d (.inf p) (.zero q) = invalidResult f ∧
      maddValues f minus c d (.zero q) (.inf p) = invalidResult f := by
  unfold maddValues
  constructor <;> split
  · rfl
  · exact twoStepValues_invalid rfl
  · rfl
  · exact twoStepValues_invalid rfl

/-- The exact product of two numbers. -/
def FpValue.product (x y : FpValue) : FpValue :=
  if x.mag * y.mag = 0 then .zero (x.neg != y.neg) else .normal (x.neg != y.neg) (x.mag * y.mag) (x.exp + y.exp)

theorem product_ordinary (x y : FpValue) : (x.product y).Ordinary := by
  unfold FpValue.product
  split
  · exact .inl ⟨_, rfl⟩
  · next h => exact .inr ⟨_, _, _, Nat.pos_of_ne_zero h, rfl⟩

theorem fusedValues_ordinary (hx : x.Ordinary) (hy : y.Ordinary) :
    fusedValues f c x y z = addValues f c (x.product y) z := by
  rcases hx with ⟨n, rfl⟩ | ⟨n, m, e, hm, rfl⟩ <;> rcases hy with ⟨n', rfl⟩ | ⟨n', m', e', hm', rfl⟩ <;> rfl

theorem signed_inf (s n : Bool) : (if s then (FpValue.inf n).negate else .inf n) = .inf (n != s) := by
  cases s <;> cases n <;> rfl

/-- A finite product and an infinite addend. -/
theorem maddValues_addend_inf {minus : Bool} (hx : x.Ordinary) (hy : y.Ordinary)
    (h : c.fused = true ∨ (mulValues f c x y).cond = 0) :
    maddValues f minus c (.inf q) x y = exactResult (packInf f (q != minus)) := by
  rw [maddValues, signed_inf]
  split
  · rw [fusedValues_ordinary hx hy]
    exact addValues_inf_right (product_ordinary x y).ne_inf
  · next hf =>
    have hcond := h.resolve_left hf
    rw [twoStepValues_eq hcond]
    exact addValues_inf_right (mulValues_ne_inf hx hy hcond)

theorem maddResult_eq {minus : Bool} (hd : d.Number) (hx : x.Number) (hy : y.Number) :
    maddResult f minus c d x y = maddValues f minus c d x y :=
  screen_passed (by simp [hd.screened, hx.screened, hy.screened])

theorem fpMadd_inf {minus negate : Bool} {n : Bool} (h : maddResult f minus c d x y = exactResult (packInf f n)) :
    (fpMadd f minus negate c d x y).Delivers f (.inf (n != negate)) := by
  rw [← signed_inf]
  exact fpMadd_delivers (h ▸ delivers_inf f n)

/-- Multiply-adds with an infinite factor. -/
theorem fpMadd_infinite_product {minus negate : Bool} (hx : x.Number) (hy : y.Number)
    (hinf : (∃ n, x = .inf n) ∨ ∃ n, y = .inf n) (hx0 : ¬ ∃ n, x = .zero n) (hy0 : ¬ ∃ n, y = .zero n) :
    (d.Ordinary → (fpMadd f minus negate c d x y).Delivers f (.inf ((x.neg != y.neg) != negate))) ∧
      (∀ q, d = .inf q → (x.neg != y.neg) = (q != minus) →
        (fpMadd f minus negate c d x y).Delivers f (.inf ((x.neg != y.neg) != negate))) ∧
      (∀ q, d = .inf q → (x.neg != y.neg) ≠ (q != minus) → fpMadd f minus negate c d x y = invalidResult f) := by
  have hproduct : ∀ {d minus}, d.Number → maddResult f minus c d x y =
      addValues f c (.inf (x.neg != y.neg)) (if minus then d.negate else d) := fun hd => by
    rw [maddResult_eq hd hx hy, maddValues_inf hx hy hinf (not_exists.mp hx0) (not_exists.mp hy0)]
  refine ⟨fun hd => fpMadd_inf ?_, ?_, ?_⟩
  · rw [hproduct (.inl hd)]
    refine addValues_inf_left ?_
    split
    · exact hd.negate
    · exact hd
  · rintro q rfl hq
    refine fpMadd_inf ?_
    rw [hproduct (.inr ⟨q, rfl⟩), signed_inf, addValues_inf_inf, if_pos hq]
  · rintro q rfl hq
    refine fpMadd_invalid ?_
    rw [hproduct (.inr ⟨q, rfl⟩), signed_inf, addValues_inf_inf, if_neg hq]

theorem fpMadd_inf_zero {minus negate : Bool} (hx : x.Number) (hy : y.Number) (hd : d.Number)
    (hinf : (∃ n, x = .inf n) ∨ ∃ n, y = .inf n) (hzero : (∃ n, x = .zero n) ∨ ∃ n, y = .zero n) :
    fpMadd f minus negate c d x y = invalidResult f := by
  refine fpMadd_invalid ?_
  rw [maddResult_eq hd hx hy]
  rcases hinf with ⟨p, rfl⟩ | ⟨p, rfl⟩
  · obtain ⟨q, rfl⟩ := hzero.resolve_left nofun
    exact (maddValues_inf_zero p q).1
  · obtain ⟨q, rfl⟩ := hzero.resolve_right nofun
    exact (maddValues_inf_zero p q).2

/-- Settles O60: each case of an operation is an equation above; the operands are screened before it. -/
theorem fpSpecialResults : Obligations.FpSpecialResults := by
  unfold Obligations.FpSpecialResults
  intro f g c a b d x y screened signaling invalidIn invalid z ordinary zero infinite number exactly
  have hscreened : ∀ v, screened v ↔ v.unimplemented = true := fun v => (unimplemented_iff v).symm
  have hpassed : ∀ {v}, ¬ screened v → v.unimplemented = false := fun h => Bool.eq_false_iff.mpr (mt (hscreened _).mpr h)
  have hsignaling : ∀ v, signaling v ↔ v.isSignaling = true := fun v => (isSignaling_iff v).symm
  have hinvalid : ∀ {h r}, r = invalidResult h → invalidIn h r := by
    rintro (_ | _) _ rfl <;> exact ⟨rfl, rfl⟩
  have hordinary : ∀ {a}, ordinary (unpack f a) → (unpack f a).Ordinary := ordinary_unpack_iff.mpr
  have hnumber : ∀ {a}, number (unpack f a) → (unpack f a).Number := Or.imp_left ordinary_unpack_iff.mpr
  have hinf : ∀ {h r n}, r = exactResult (packInf h n) → exactly h r (.inf n) := by
    rintro h _ n rfl
    exact delivers_inf h n
  have hzero : ∀ {h r n}, r = exactResult (packZero h n) → exactly h r (.zero n) := by
    rintro h _ n rfl
    exact delivers_zero h n
  refine ⟨?_, ?_, ?_, ?_, ?_, ?_, ?_, ?_, ?_, ?_, ?_, ?_, ?_, ?_, ?_, ?_, ?_, ?_, ?_, ?_, ?_, ?_, ?_⟩
  · intro p hx hy
    obtain ⟨h1, h2, h3, h4, h5, h6⟩ := binary_infinite (f := f) (c := c) (p := p) (hordinary hy)
    obtain ⟨h7, h8⟩ := mul_infinite (f := f) (c := c) (p := p) (y := y) (.inl (hordinary hy))
    rw [hx]
    exact ⟨hinf h1, hinf h2, hinf h3, hinf h4, hinf h5, hzero h6, fun hy0 => ⟨hinf (h7 hy0), hinf (h8 hy0)⟩⟩
  · rintro p q hx hy
    rw [hx, hy]
    exact hinf rfl
  · exact fun hx => signOperations (hnumber hx)
  · intro minus negate r
    refine ⟨fun h => ?_, fun hx hy hz h => ?_, fun hx hy h => ⟨fun h0 hz => ?_, fun hx0 hy0 => ?_⟩,
      fun q hz hx hy h => ?_⟩
    · rw [show r.cond = _ from cond_fpMadd .., maddResult, screen_unimplemented]
      · rfl
      · simp only [hscreened] at h
        simp [or_comm, or_assoc, h]
    · refine hinvalid (fpMadd_invalid (screen_signaling ?_ ?_))
      · simp [hpassed hx, hpassed hy, hpassed hz]
      · simp only [hsignaling] at h
        simp [or_comm, or_assoc, h]
    · exact hinvalid (fpMadd_inf_zero (hnumber hx) (hnumber hy) (hnumber hz) h h0)
    · obtain ⟨hfinite, hsame, hopposite⟩ := fpMadd_infinite_product (f := f) (c := c) (d := z) (minus := minus)
        (negate := negate) (hnumber hx) (hnumber hy) h hx0 hy0
      exact ⟨fun hz => hfinite (hordinary hz), hsame, fun q hz hq => hinvalid (hopposite q hz hq)⟩
    · have hx' := hordinary hx
      have hy' := hordinary hy
      refine fpMadd_inf ?_
      rw [fpMul_eq (.inl hx') (.inl hy')] at h
      rw [hz, maddResult_eq (.inr ⟨q, rfl⟩) (.inl hx') (.inl hy')]
      exact maddValues_addend_inf hx' hy' h
  · exact fun hx => fpToFp_unimplemented ((hscreened _).mp hx)
  · exact fun hx => hinvalid (unary_signaling ((hsignaling _).mp hx)).1
  · intro p hx
    rw [hx]
    exact hinf rfl
  · intro hx
    rw [hx]
    exact hinf rfl
  · intro p q m e hx hy
    rw [hx, hy]
    exact hzero rfl
  · intro h
    simp only [hscreened] at h
    exact ⟨fpAdd_unimplemented h, fpSub_unimplemented h, fpMul_unimplemented h, fpDiv_unimplemented h⟩
  · intro hx hy h
    obtain ⟨h1, h2, h3, h4⟩ := binary_signaling (f := f) (c := c) (hpassed hx) (hpassed hy)
      (by simpa only [hsignaling] using h)
    exact ⟨hinvalid h1, hinvalid h2, hinvalid h3, hinvalid h4⟩
  · intro hx
    rw [hscreened] at hx
    obtain ⟨habs, hneg⟩ := signOperations_unimplemented hx
    exact ⟨fpSqrt_unimplemented hx, habs, hneg, fpToInt_unimplemented hx⟩
  · intro hx
    obtain ⟨-, h1, h2, h3⟩ := unary_signaling (g := g) (c := c) ((hsignaling _).mp hx)
    exact ⟨hinvalid h1, hinvalid h2, hinvalid h3⟩
  · intro p q hx hy
    obtain ⟨hadd, hsub⟩ := sum_infinite (f := f) (c := c) p q
    rw [hx, hy, hadd, hsub]
    refine ⟨fun h => ?_, fun h => ?_, hinvalid rfl, fun h => ?_, fun h => ?_⟩
    · exact hinvalid (if_neg h)
    · exact hinvalid (if_pos h)
    · exact hinf (if_pos h)
    · exact hinf (if_neg h)
  · intro p q hx hy
    rw [hx, hy]
    exact ⟨hinvalid rfl, hinvalid rfl⟩
  · intro p q hx hy
    rw [hx, hy]
    exact hinvalid rfl
  · intro p q m e hx hy
    rw [hx, hy]
    exact ⟨rfl, unpack_packInf f _⟩
  · intro m e hx
    rw [hx]
    exact hinvalid rfl
  · intro hx
    rw [hx]
    exact hinvalid rfl
  · intro p hx
    rw [hx]
    exact delivers_zero f p
  · rintro p w rm (hx | hx)
    · rw [hx]
      exact ⟨rfl, rfl⟩
    · rw [hx]
      exact ⟨rfl, rfl⟩
  · rfl
  · rfl

end Sys2Proof.Machine
end

section
/-! SUPPORT. What it means that an operation delivers an exact value (R483, R490). -/

namespace Sys2Proof.Machine

variable {f : FpFormat} {c : FpControl} {a : Nat} {neg : Bool} {mag mag' : Nat} {exp exp' : Int} {v : ℚ} {z : Bool}
  {r : FpResult}

/-! ### Delivering a magnitude -/

/-- What is delivered depends on the exact magnitude alone. -/
theorem deliver_congr (hmag : 0 < mag) (h : (mag : ℚ) * 2 ^ exp = mag' * 2 ^ exp') :
    deliver f c neg mag exp false = deliver f c neg mag' exp' false := by
  rw [deliver, deliver, roundPrecision_congr hmag h]

/-- A number of no more bits than the significand, and in the range of the format, is delivered without a condition. -/
theorem deliver_of_short (hlen : Nat.log2 mag ≤ f.fracBits) (hmin : f.emin ≤ exp + Nat.log2 mag)
    (hmax : exp + Nat.log2 mag ≤ f.bias) : (deliver f c neg mag exp false).cond = 0 := by
  have hexp : exp - ((f.fracBits + 1 - (Nat.log2 mag + 1) : Nat) : Int) + f.fracBits = exp + Nat.log2 mag := by omega
  simp only [deliver, roundPrecision, if_pos (show Nat.log2 mag + 1 ≤ f.fracBits + 1 by omega), hexp]
  rw [if_neg (by omega), if_neg (by omega)]
  rfl

theorem deliver_cond_of_inRange (h : f.InRange mag exp) : (deliver f c neg mag exp false).cond = 0 := by
  obtain ⟨hlow, hhigh, hmin, hmax⟩ := h
  have hlog : Nat.log2 mag = f.fracBits :=
    (Nat.log2_eq_iff (Nat.pos_of_ne_zero (by rintro rfl; simp at hlow)).ne').mpr ⟨hlow, hhigh⟩
  exact deliver_of_short hlog.le (by omega) (by omega)

/-- The conditions that a delivery can raise. -/
theorem deliver_cond_mem (f : FpFormat) (c : FpControl) (neg : Bool) (mag : Nat) (exp : Int) (sticky : Bool) :
    (deliver f c neg mag exp sticky).cond ∈ [condOI, condE, condUI, condI, 0] := by
  unfold deliver
  dsimp only
  repeat' split
  all_goals simp

/-- A delivery that is not Unimplemented is not invalid either. -/
theorem deliver_condE (f : FpFormat) (c : FpControl) (neg : Bool) (mag : Nat) (exp : Int) (sticky : Bool) :
    (deliver f c neg mag exp sticky).cond = condE ∨ ((deliver f c neg mag exp sticky).cond.getLsbD 5 = false ∧
      (deliver f c neg mag exp sticky).cond.getLsbD 4 = false) := by
  have key : ∀ k ∈ [condOI, condE, condUI, condI, 0], k = condE ∨ (k.getLsbD 5 = false ∧ k.getLsbD 4 = false) := by decide
  exact key _ (deliver_cond_mem ..)

/-- A sticky bit is always reported. -/
theorem deliver_sticky_cond (f : FpFormat) (c : FpControl) (neg : Bool) (mag : Nat) (exp : Int) :
    (deliver f c neg mag exp true).cond ≠ 0 := by
  have hflag : (roundPrecision f c.rm neg mag exp true).2.2 = true := by
    unfold roundPrecision roundShift
    dsimp only
    repeat' split
    all_goals simp
  simp only [deliver, hflag, if_true]
  split
  · exact (show condOI ≠ 0 by decide)
  · split
    · split
      · exact (show condE ≠ 0 by decide)
      · exact (show condUI ≠ 0 by decide)
    · exact (show condI ≠ 0 by decide)

theorem overflowBits_number (f : FpFormat) (rm : BitVec 2) (neg : Bool) : (unpack f (overflowBits f rm neg)).Number := by
  by_cases hm : rm = 0 ∨ AwayFromZero rm neg
  · rw [overflowBits_infinite hm, unpack_packInf]
    exact .inr ⟨_, rfl⟩
  · rw [overflowBits_finite (towardZero_of_not hm), unpack_packMax]
    exact .inl (.inr ⟨_, _, _, by have := Nat.one_lt_two_pow (Nat.succ_ne_zero f.fracBits); omega, rfl⟩)

theorem underflowBits_number (f : FpFormat) (rm : BitVec 2) (neg : Bool) : (unpack f (underflowBits f rm neg)).Number := by
  by_cases hm : AwayFromZero rm neg
  · rw [underflowBits_away hm, unpack_packMinNormal]
    exact .inl (.inr ⟨_, _, _, Nat.two_pow_pos _, rfl⟩)
  · rw [underflowBits_zero (nearest_or_towardZero hm), unpack_packZero]
    exact .inl (.inl ⟨_, rfl⟩)

/-- What is delivered is a number unless E is raised. -/
theorem deliver_number (hmag : 0 < mag) (h : (deliver f c neg mag exp false).cond ≠ condE) :
    (unpack f (deliver f c neg mag exp false).bits).Number := by
  by_cases hmax : RoundsTo f c.rm neg (mag * 2 ^ exp) (f.bias + 1)
  · rw [deliver_of_overflow hmag hmax]
    exact overflowBits_number ..
  by_cases hmin : RoundsTo f c.rm neg (mag * 2 ^ exp) f.emin
  · obtain ⟨sig, e, hrange, -, heq⟩ := deliver_of_inRange hmag hmax hmin
    rw [heq, unpack_packed hrange]
    exact .inl (.inr ⟨_, _, _, (Nat.two_pow_pos _).trans_le hrange.1, rfl⟩)
  · rw [deliver_of_tiny hmag hmin] at h ⊢
    split at h
    · exact absurd rfl h
    · next hflush =>
      rw [if_neg hflush]
      exact underflowBits_number ..

/-! ### Exact values -/

theorem ordinary_of_finite {a : Nat} (h : (unpack f a).finite) (hn : (unpack f a).unimplemented = false) :
    (unpack f a).Ordinary := by
  rw [ordinary_unpack_iff]
  cases hv : unpack f a with
  | nan s n | inf n => rw [hv] at h; exact h.elim
  | zero n => exact .inl ⟨n, rfl⟩
  | denormal n m e => rw [hv] at hn; exact nomatch hn
  | normal n m e => exact .inr ⟨n, m, e, rfl⟩

theorem FpValue.Ordinary.finite {x : FpValue} (h : x.Ordinary) : x.finite := by
  rcases h with ⟨n, rfl⟩ | ⟨n, m, e, hm, rfl⟩ <;> trivial

theorem FpValue.abs_toRat (x : FpValue) : |x.toRat| = x.mag * 2 ^ x.exp := by
  rw [FpValue.toRat, abs_mul, abs_of_nonneg (by positivity : (0 : ℚ) ≤ x.mag * 2 ^ x.exp)]
  cases x.neg <;> simp

theorem FpValue.toRat_normal_lt {n : Bool} {m : Nat} {e : Int} (hm : 0 < m) :
    (FpValue.normal n m e).toRat < 0 ↔ n = true := by
  have hpos : (0 : ℚ) < m * 2 ^ e := by positivity
  rw [FpValue.toRat_normal]
  cases n <;> simp <;> linarith

theorem signFactor_mul_abs (v : ℚ) : signFactor (decide (v < 0)) * |v| = v := by
  by_cases h : v < 0
  · simp [h, abs_of_neg h]
  · simp [h, abs_of_nonneg (not_lt.mp h)]

/-- The operation delivers the exact value `v`, a zero with the sign `z` (R483, R490). -/
def FpResult.Rounds (r : FpResult) (f : FpFormat) (c : FpControl) (v : ℚ) (z : Bool) : Prop :=
  (v = 0 → r = exactResult (packZero f z)) ∧
    (v ≠ 0 → ∃ (mag : Nat) (exp : Int), (mag : ℚ) * 2 ^ exp = |v| ∧ r = deliver f c (decide (v < 0)) mag exp false)

theorem pos_of_mul_zpow {mag : Nat} {exp : Int} (h : (mag : ℚ) * 2 ^ exp = |v|) (hv : v ≠ 0) : 0 < mag := by
  rcases Nat.eq_zero_or_pos mag with rfl | hpos
  · rw [Nat.cast_zero, zero_mul] at h
    exact absurd (abs_eq_zero.mp h.symm) hv
  · exact hpos

theorem rounds_deliver (hmag : 0 < mag) (hv : v = signFactor neg * (mag * 2 ^ exp)) :
    (deliver f c neg mag exp false).Rounds f c v z := by
  have hpos : (0 : ℚ) < mag * 2 ^ exp := by positivity
  rw [hv]
  cases neg
  · rw [signFactor_false, one_mul]
    exact ⟨fun h => absurd h hpos.ne', fun _ => ⟨mag, exp, (abs_of_pos hpos).symm, by rw [decide_eq_false hpos.le.not_gt]⟩⟩
  · rw [signFactor_true, neg_one_mul]
    refine ⟨fun h => absurd (neg_eq_zero.mp h) hpos.ne', fun _ => ⟨mag, exp, ?_, by simp [hpos]⟩⟩
    rw [abs_neg, abs_of_pos hpos]

theorem rounds_zero (f : FpFormat) (c : FpControl) (z : Bool) : (exactResult (packZero f z)).Rounds f c 0 z :=
  ⟨fun _ => rfl, fun h => absurd rfl h⟩

theorem FpResult.Rounds.zero_congr {z' : Bool} (h : r.Rounds f c v z) (hz : v = 0 → z = z') : r.Rounds f c v z' :=
  ⟨fun h0 => hz h0 ▸ h.1 h0, h.2⟩

/-- Any way to write the magnitude will do; over a power of two, it is this one. -/
theorem FpResult.Rounds.eq {n : Int} {k : Nat} (h : r.Rounds f c (n / 2 ^ k) z) :
    r = if n = 0 then { cond := 0, bits := packZero f z } else deliver f c (decide (n < 0)) n.natAbs (-(k : Int)) false := by
  have hzero : (n : ℚ) / 2 ^ k = 0 ↔ n = 0 := by simp
  have hneg : (n : ℚ) / 2 ^ k < 0 ↔ n < 0 := by
    rw [div_lt_iff₀ (by positivity), zero_mul]
    exact Int.cast_lt_zero
  split
  · next hn => exact h.1 (hzero.mpr hn)
  · next hn =>
    obtain ⟨mag, exp, hmag, heq⟩ := h.2 (mt hzero.mp hn)
    simp only [hneg] at heq
    rw [heq]
    refine deliver_congr (pos_of_mul_zpow hmag (mt hzero.mp hn)) (hmag.trans ?_)
    rw [abs_div, abs_of_pos (by positivity : (0 : ℚ) < 2 ^ k), Nat.cast_natAbs, zpow_neg, zpow_natCast, div_eq_mul_inv]
    norm_cast

/-- An operation that raises nothing has delivered its exact value. -/
theorem FpResult.Rounds.exact (h : r.Rounds f c v z) (hcond : r.cond = 0) :
    (unpack f r.bits).Ordinary ∧ (unpack f r.bits).toRat = v := by
  by_cases hv : v = 0
  · rw [h.1 hv, hv]
    have heq : unpack f (exactResult (packZero f z)).bits = .zero z := unpack_packZero f z
    rw [heq]
    exact ⟨.inl ⟨z, rfl⟩, FpValue.toRat_zero z⟩
  · obtain ⟨mag, exp, hmag, rfl⟩ := h.2 hv
    obtain ⟨sig, e, heq, hvalue⟩ := deliver_exact (pos_of_mul_zpow hmag hv) hcond
    refine ⟨ordinary_unpack_iff.mpr (.inr ⟨_, _, _, heq⟩), ?_⟩
    rw [heq, FpValue.toRat_normal, hvalue, hmag, signFactor_mul_abs]

/-- An operation raises nothing if the format has its exact value. -/
theorem FpResult.Rounds.clean (h : r.Rounds f c v z) (ha : (unpack f a).Ordinary) (hv : (unpack f a).toRat = v) :
    r.cond = 0 := by
  by_cases h0 : v = 0
  · rw [h.1 h0]
    rfl
  · obtain ⟨mag, exp, hmag, rfl⟩ := h.2 h0
    rcases ordinary_unpack_iff.mp ha with ⟨n, hn⟩ | ⟨n, m, e, hn⟩
    · rw [hn, FpValue.toRat_zero] at hv
      exact absurd hv.symm h0
    · have habs := FpValue.abs_toRat (unpack f a)
      rw [hv, hn] at habs
      rw [deliver_congr (pos_of_mul_zpow hmag h0) (hmag.trans habs)]
      exact deliver_cond_of_inRange (unpack_normal hn)

end Sys2Proof.Machine
end

section
/-! SUPPORT. The exact values that the operations deliver (R500 to R502, R521, R522, R589). -/

namespace Sys2Proof.Machine

variable {f : FpFormat} {c : FpControl} {x y z : FpValue}

/-! ### Sums -/

theorem signed_cast (n : Bool) (a : Nat) : ((if n then -(a : Int) else a : Int) : ℚ) = signFactor n * a := by
  cases n <;> simp

theorem signFactor_natAbs (i : Int) : signFactor (decide (i < 0)) * (i.natAbs : ℚ) = i := by
  have habs := signFactor_mul_abs (i : ℚ)
  simp only [Int.cast_lt_zero] at habs
  rw [Nat.cast_natAbs, Int.cast_abs, habs]

theorem addFinite_rounds (n1 : Bool) (m1 : Nat) (e1 : Int) (n2 : Bool) (m2 : Nat) (e2 : Int) :
    (addFinite f c n1 m1 e1 n2 m2 e2).Rounds f c (signFactor n1 * (m1 * 2 ^ e1) + signFactor n2 * (m2 * 2 ^ e2))
      (if n1 == n2 && m1 == 0 && m2 == 0 then n1 else c.rm == 3) := by
  unfold addFinite
  dsimp only
  have he1 : (if e1 ≤ e2 then e1 else e2) ≤ e1 := by split <;> omega
  have he2 : (if e1 ≤ e2 then e1 else e2) ≤ e2 := by split <;> omega
  generalize (if e1 ≤ e2 then e1 else e2) = e at he1 he2 ⊢
  generalize hs : (_ + _ : Int) = sum
  have hvalue : signFactor n1 * (m1 * 2 ^ e1) + signFactor n2 * (m2 * 2 ^ e2) = sum * 2 ^ e := by
    rw [← hs, Int.cast_add, signed_cast, signed_cast, scaled_cast m1 he1, scaled_cast m2 he2, add_mul, mul_assoc, mul_assoc,
      div_mul_cancel₀ _ (two_zpow_pos e).ne', div_mul_cancel₀ _ (two_zpow_pos e).ne']
  rw [hvalue]
  by_cases hsum : sum = 0
  · rw [if_pos hsum, hsum, Int.cast_zero, zero_mul]
    exact rounds_zero ..
  · rw [if_neg hsum]
    refine rounds_deliver (Int.natAbs_pos.mpr hsum) ?_
    rw [← mul_assoc, signFactor_natAbs]

theorem FpValue.toRat_eq_zero : x.toRat = 0 ↔ x.mag = 0 := by
  rw [← abs_eq_zero, FpValue.abs_toRat]
  simp [(two_zpow_pos x.exp).ne']

/-- The sum of two numbers; its zero has their sign if they are zeros of one sign (R500). -/
theorem addValues_rounds (hx : x.Ordinary) (hy : y.Ordinary) :
    (addValues f c x y).Rounds f c (x.toRat + y.toRat) (if x.toRat = 0 ∧ x.neg = y.neg then x.neg else c.rm == 3) := by
  have heq : addValues f c x y = addFinite f c x.neg x.mag (if x.mag = 0 then y.exp else x.exp) y.neg y.mag
      (if y.mag = 0 then x.exp else y.exp) := by
    rcases hx with ⟨n, rfl⟩ | ⟨n, m, e, hm, rfl⟩ <;> rcases hy with ⟨n', rfl⟩ | ⟨n', m', e', hm', rfl⟩ <;> rfl
  have hexp : ∀ (v : FpValue) (e : Int), (v.mag : ℚ) * 2 ^ (if v.mag = 0 then e else v.exp) = v.mag * 2 ^ v.exp := by
    intro v e
    split
    · next h => rw [h, Nat.cast_zero, zero_mul, zero_mul]
    · rfl
  have h := addFinite_rounds (f := f) (c := c) x.neg x.mag (if x.mag = 0 then y.exp else x.exp) y.neg y.mag
    (if y.mag = 0 then x.exp else y.exp)
  rw [hexp, hexp, ← heq] at h
  refine FpResult.Rounds.zero_congr h fun hsum => ?_
  have hzero : y.toRat = 0 ↔ x.toRat = 0 := by
    rw [show y.toRat = -x.toRat from (neg_eq_of_add_eq_zero_right hsum).symm, neg_eq_zero]
  rw [FpValue.toRat_eq_zero, FpValue.toRat_eq_zero] at hzero
  simp only [FpValue.toRat_eq_zero, Bool.and_eq_true, beq_iff_eq, hzero]
  by_cases h0 : x.mag = 0 <;> simp [h0]

/-! ### Products -/

theorem FpValue.toRat_product (x y : FpValue) : (x.product y).toRat = x.toRat * y.toRat := by
  have hvalue : x.toRat * y.toRat = signFactor (x.neg != y.neg) * ((x.mag * y.mag : Nat) * 2 ^ (x.exp + y.exp)) := by
    rw [FpValue.toRat, FpValue.toRat, signFactor_bne, zpow_add₀ two_ne_zero, Nat.cast_mul]
    ring
  rw [hvalue, FpValue.product]
  split
  · next h => rw [FpValue.toRat_zero, h, Nat.cast_zero, zero_mul, mul_zero]
  · rfl

theorem FpValue.neg_product (x y : FpValue) : (x.product y).neg = (x.neg != y.neg) := by
  unfold FpValue.product
  split <;> rfl

/-- The product of two numbers is delivered as it is. -/
theorem mulValues_eq (hx : x.Ordinary) (hy : y.Ordinary) :
    mulValues f c x y = if x.mag * y.mag = 0 then exactResult (packZero f (x.neg != y.neg))
      else deliver f c (x.neg != y.neg) (x.mag * y.mag) (x.exp + y.exp) false := by
  rcases hx with ⟨n, rfl⟩ | ⟨n, m, e, hm, rfl⟩ <;> rcases hy with ⟨n', rfl⟩ | ⟨n', m', e', hm', rfl⟩
  · rfl
  · exact (if_pos (Nat.zero_mul _)).symm
  · exact (if_pos (Nat.mul_zero _)).symm
  · exact (if_neg (Nat.mul_pos hm hm').ne').symm

theorem mulValues_rounds (hx : x.Ordinary) (hy : y.Ordinary) :
    (mulValues f c x y).Rounds f c (x.toRat * y.toRat) (x.neg != y.neg) := by
  rw [mulValues_eq hx hy, ← FpValue.toRat_product, FpValue.product]
  split
  · rw [FpValue.toRat_zero]
    exact rounds_zero ..
  · next h => exact rounds_deliver (Nat.pos_of_ne_zero h) rfl

theorem fpToFp_rounds (hx : x.Ordinary) : (fpToFp f c x).Rounds f c x.toRat x.neg := by
  rcases hx with ⟨n, rfl⟩ | ⟨n, m, e, hm, rfl⟩
  · rw [FpValue.toRat_zero]
    exact rounds_zero f c n
  · exact rounds_deliver hm rfl

theorem intToFp_rounds (f : FpFormat) (c : FpControl) (i : Int) : (intToFp f c i).Rounds f c i false := by
  unfold intToFp
  split
  · next h =>
    rw [h, Int.cast_zero]
    exact rounds_zero f c false
  · next h =>
    refine rounds_deliver (Int.natAbs_pos.mpr h) ?_
    rw [zpow_zero, mul_one, signFactor_natAbs]

/-! ### Multiply-adds -/

theorem exactResult_getLsbD (bits i : Nat) : (exactResult bits).cond.getLsbD i = false := BitVec.getLsbD_zero

/-- A product of numbers is Unimplemented or a number; it is never invalid. -/
theorem mulValues_cond (hx : x.Ordinary) (hy : y.Ordinary) :
    (mulValues f c x y).cond = condE ∨
      ((mulValues f c x y).cond.getLsbD 5 = false ∧ (mulValues f c x y).cond.getLsbD 4 = false) ∧
        (unpack f (mulValues f c x y).bits).Number := by
  rw [mulValues_eq hx hy]
  split
  · exact .inr ⟨⟨exactResult_getLsbD .., exactResult_getLsbD ..⟩, .inl (.inl ⟨_, unpack_packZero f _⟩)⟩
  · next h =>
    by_cases hE : (deliver f c (x.neg != y.neg) (x.mag * y.mag) (x.exp + y.exp) false).cond = condE
    · exact .inl hE
    · exact .inr ⟨(deliver_condE ..).resolve_left hE, deliver_number (Nat.pos_of_ne_zero h) hE⟩

/-- A sum of numbers is Unimplemented alone or not at all. -/
theorem addValues_cond (hx : x.Number) (hy : y.Number) :
    (addValues f c x y).cond = condE ∨ (addValues f c x y).cond.getLsbD 5 = false := by
  rcases hx with hx | ⟨p, rfl⟩
  · rcases hy with hy | ⟨q, rfl⟩
    · obtain ⟨hzero, hdeliver⟩ := addValues_rounds (f := f) (c := c) hx hy
      by_cases h0 : x.toRat + y.toRat = 0
      · exact .inr (by rw [hzero h0, exactResult_getLsbD])
      · obtain ⟨mag, exp, -, heq⟩ := hdeliver h0
        rw [heq]
        exact (deliver_condE ..).imp_right And.left
    · exact .inr (by rw [addValues_inf_right hx.ne_inf, exactResult_getLsbD])
  · rcases hy with hy | ⟨q, rfl⟩
    · exact .inr (by rw [addValues_inf_left hy, exactResult_getLsbD])
    · rw [addValues_inf_inf]
      split
      · exact .inr (exactResult_getLsbD ..)
      · exact .inr (show condV.getLsbD 5 = false by decide)

/-- Two conditions of which neither is E are joined (R589). -/
theorem twoStepValues_joined (hx : x.Ordinary) (hy : y.Ordinary) (hz : z.Number) :
    twoStepValues f c x y z =
      if (mulValues f c x y).cond = condE then mulValues f c x y
      else if (addValues f c (unpack f (mulValues f c x y).bits) z).cond = condE then
        addValues f c (unpack f (mulValues f c x y).bits) z
      else
        { cond := (addValues f c (unpack f (mulValues f c x y).bits) z).cond ||| (mulValues f c x y).cond
          bits := (addValues f c (unpack f (mulValues f c x y).bits) z).bits } := by
  unfold twoStepValues
  dsimp only
  rcases mulValues_cond (f := f) (c := c) hx hy with hE | ⟨⟨h5, h4⟩, hnumber⟩
  · rw [hE]
    rfl
  · have hE : (mulValues f c x y).cond ≠ condE := fun h => absurd (h ▸ h5) (by decide)
    rw [h5, h4, if_neg (by decide), if_neg hE]
    rcases addValues_cond (f := f) (c := c) hnumber hz with hE' | h5'
    · rw [hE']
      rfl
    · have hE' : (addValues f c (unpack f (mulValues f c x y).bits) z).cond ≠ condE := fun h => absurd (h ▸ h5') (by decide)
      rw [h5', if_neg (by decide), if_neg hE']

/-- Two roundings that raise nothing are exact. -/
theorem twoStepValues_exact (hx : x.Ordinary) (hy : y.Ordinary) (hz : z.Ordinary)
    (h : (twoStepValues f c x y z).cond = 0) :
    (unpack f (twoStepValues f c x y z).bits).Ordinary ∧
      (unpack f (twoStepValues f c x y z).bits).toRat = x.toRat * y.toRat + z.toRat := by
  rw [twoStepValues_joined hx hy (.inl hz)] at h ⊢
  split at h
  · next hE => exact absurd (hE.symm.trans h) (by decide)
  · next hE =>
    rw [if_neg hE]
    split at h
    · next hE' => exact absurd (hE'.symm.trans h) (by decide)
    · next hE' =>
      rw [if_neg hE']
      obtain ⟨hsum, hproduct⟩ := BitVec.or_eq_zero_iff.mp h
      obtain ⟨hordinary, hvalue⟩ := (mulValues_rounds hx hy).exact hproduct
      obtain ⟨hordinary', hvalue'⟩ := (addValues_rounds hordinary hz).exact hsum
      exact ⟨hordinary', hvalue'.trans (by rw [hvalue])⟩

/-- A product and a sum with one rounding. -/
theorem fusedValues_rounds (hx : x.Ordinary) (hy : y.Ordinary) (hz : z.Ordinary) :
    (fusedValues f c x y z).Rounds f c (x.toRat * y.toRat + z.toRat)
      (if z.toRat = 0 ∧ (x.neg != y.neg) = z.neg then x.neg != y.neg else c.rm == 3) := by
  rw [fusedValues_ordinary hx hy, ← FpValue.toRat_product, ← FpValue.neg_product]
  refine (addValues_rounds (product_ordinary x y) hz).zero_congr fun hsum => ?_
  have hzero : z.toRat = 0 ↔ (x.product y).toRat = 0 := by
    rw [show z.toRat = -(x.product y).toRat from (neg_eq_of_add_eq_zero_right hsum).symm, neg_eq_zero]
  simp only [hzero]

end Sys2Proof.Machine
end

section
/-! SUPPORT. Division and square root (R503, R504): the leading bits of the exact quotient and root. -/

namespace Sys2Proof.Machine

variable {f : FpFormat} {c : FpControl} {p q : Bool} {m m' : Nat} {e e' : Int} {x y : FpValue}

/-! ### The integer square root -/

theorem isqrtFrom_spec {n root : Nat} (b : Nat) (hlow : root * root ≤ n) (hhigh : n < (root + 2 ^ b) * (root + 2 ^ b)) :
    isqrtFrom n root b * isqrtFrom n root b ≤ n ∧ n < (isqrtFrom n root b + 1) * (isqrtFrom n root b + 1) := by
  induction b generalizing root with
  | zero => exact ⟨hlow, hhigh⟩
  | succ b ih =>
    rw [isqrtFrom]
    split
    · next hle => exact ih hle (by rwa [pow_succ, Nat.mul_two, ← Nat.add_assoc] at hhigh)
    · next hgt => exact ih hlow (Nat.lt_of_not_le hgt)

theorem isqrt_spec (n : Nat) : isqrt n * isqrt n ≤ n ∧ n < (isqrt n + 1) * (isqrt n + 1) := by
  refine isqrtFrom_spec _ (Nat.zero_le _) ?_
  rw [Nat.zero_add, ← pow_add]
  exact Nat.lt_log2_self.trans_le (Nat.pow_le_pow_right two_pos (by omega))

theorem two_zpow_split (e : Int) : (2 : ℚ) ^ e * 2 ^ (-e).toNat = 2 ^ e.toNat := by
  rw [← zpow_natCast, ← zpow_natCast, ← zpow_add₀ two_ne_zero]
  congr 1
  omega

/-! ### Square root -/

/-- The root of a positive number, with more bits than a significand. -/
theorem fpSqrt_normal (c : FpControl) (hm : 2 ^ f.fracBits ≤ m) :
    ∃ (root n : Nat) (k : Int), fpSqrt f false c (.normal false m e) = deliver f c false root k (root * root != n) ∧
      (m : ℚ) * 2 ^ e = n * (2 ^ k) ^ 2 ∧ root * root ≤ n ∧ n < (root + 1) * (root + 1) ∧ 2 ^ (f.fracBits + 1) ≤ root := by
  obtain ⟨odd, hodd, hparity⟩ : ∃ odd : Nat, (if e % 2 = 0 then 0 else 1) = odd ∧ (e - odd) % 2 = 0 := by
    refine ⟨_, rfl, ?_⟩
    split <;> push_cast <;> omega
  have heq : fpSqrt f false c (.normal false m e) = deliver f c false (isqrt (m * 2 ^ (2 * f.fracBits + 8 + odd)))
      ((e - (2 * f.fracBits + 8 : Nat) - odd) / 2)
      (isqrt (m * 2 ^ (2 * f.fracBits + 8 + odd)) * isqrt (m * 2 ^ (2 * f.fracBits + 8 + odd)) !=
        m * 2 ^ (2 * f.fracBits + 8 + odd)) := by
    rw [← hodd]
    rfl
  obtain ⟨hlow, hhigh⟩ := isqrt_spec (m * 2 ^ (2 * f.fracBits + 8 + odd))
  refine ⟨_, _, _, heq, ?_, hlow, hhigh, ?_⟩
  · have hexp : e = ((2 * f.fracBits + 8 + odd : Nat) : Int) + 2 * ((e - (2 * f.fracBits + 8 : Nat) - odd) / 2) := by omega
    rw [← zpow_natCast _ 2, ← zpow_mul, Nat.cast_mul, Nat.cast_pow, mul_assoc, Nat.cast_ofNat, ← zpow_natCast,
      ← zpow_add₀ two_ne_zero]
    congr 2
    rw [mul_comm _ ((2 : Nat) : Int)]
    exact hexp
  · by_contra hlt
    have hsq : (isqrt (m * 2 ^ (2 * f.fracBits + 8 + odd)) + 1) ^ 2 ≤ (2 ^ (f.fracBits + 1)) ^ 2 :=
      Nat.pow_le_pow_left (Nat.lt_of_not_le hlt) 2
    have hbig : 2 ^ f.fracBits * 2 ^ (2 * f.fracBits + 8 + odd) ≤ m * 2 ^ (2 * f.fracBits + 8 + odd) :=
      Nat.mul_le_mul_right _ hm
    rw [← pow_add] at hbig
    rw [← pow_mul, Nat.pow_two] at hsq
    have := Nat.pow_le_pow_right (n := 2) two_pos
      (show (f.fracBits + 1) * 2 ≤ f.fracBits + (2 * f.fracBits + 8 + odd) by omega)
    omega

/-- A delivery with a sticky bit for an inexact amount raises nothing just when all is exact. -/
theorem deliver_sticky_exact {neg sticky : Bool} {mag : Nat} {exp : Int} (hmag : 0 < mag)
    (h : (deliver f c neg mag exp sticky).cond = 0) :
    sticky = false ∧ (unpack f (deliver f c neg mag exp sticky).bits).finite ∧
      (unpack f (deliver f c neg mag exp sticky).bits).toRat = signFactor neg * (mag * 2 ^ exp) := by
  cases sticky
  · obtain ⟨sig, e, heq, hvalue⟩ := deliver_exact hmag h
    rw [heq]
    exact ⟨rfl, trivial, congrArg _ hvalue⟩
  · exact absurd h (deliver_sticky_cond f c neg mag exp)

/-- A square root that raises nothing is exact. -/
theorem fpSqrt_exact {a : Nat} (hx : (unpack f a).Ordinary) (h : (fpSqrt f false c (unpack f a)).cond = 0) :
    (unpack f (fpSqrt f false c (unpack f a)).bits).finite ∧
      0 ≤ (unpack f (fpSqrt f false c (unpack f a)).bits).toRat ∧
      (unpack f (fpSqrt f false c (unpack f a)).bits).toRat ^ 2 = (unpack f a).toRat := by
  rcases ordinary_unpack_iff.mp hx with ⟨n, hn⟩ | ⟨n, m, e, hn⟩
  · have hresult : unpack f (fpSqrt f false c (unpack f a)).bits = .zero n := by
      rw [hn]
      exact unpack_packZero f n
    rw [hresult, hn, FpValue.toRat_zero]
    exact ⟨trivial, le_rfl, by norm_num⟩
  · have hm := (unpack_normal hn).1
    rw [hn] at h ⊢
    cases n
    · obtain ⟨root, num, k, heq, hvalue, -, -, hroot⟩ := fpSqrt_normal (e := e) c hm
      rw [heq] at h ⊢
      obtain ⟨hsticky, hfinite, hresult⟩ := deliver_sticky_exact ((Nat.two_pow_pos _).trans_le hroot) h
      rw [hresult, FpValue.toRat_normal, signFactor_false, one_mul, one_mul, hvalue, mul_pow, pow_two (root : ℚ)]
      refine ⟨hfinite, by positivity, ?_⟩
      rw [show num = root * root from (by simpa using hsticky : root * root = num).symm, Nat.cast_mul]
    · exact absurd h (show condV ≠ 0 by decide)

/-! ### Division -/

theorem fpDiv_normal (c : FpControl) (hx : f.InRange m e) (hy : f.InRange m' e') :
    ∃ (quot num : Nat) (k : Int),
      fpDiv f false c (.normal p m e) (.normal q m' e') = deliver f c (p != q) quot k (decide (quot * m' ≠ num)) ∧
      (m : ℚ) * 2 ^ e = num * 2 ^ k * 2 ^ e' ∧ quot * m' ≤ num ∧ num < (quot + 1) * m' ∧
      2 ^ (f.fracBits + 1) ≤ quot := by
  obtain ⟨hlow, -, -, -⟩ := hx
  obtain ⟨hlow', hhigh', -, -⟩ := hy
  have hpos : 0 < m' := (Nat.two_pow_pos _).trans_le hlow'
  have hsticky : (m * 2 ^ (2 * f.fracBits + 8) % m' != 0) =
      decide (m * 2 ^ (2 * f.fracBits + 8) / m' * m' ≠ m * 2 ^ (2 * f.fracBits + 8)) := by
    have hdiv := Nat.div_add_mod' (m * 2 ^ (2 * f.fracBits + 8)) m'
    rw [Bool.eq_iff_iff, bne_iff_ne, decide_eq_true_iff]
    omega
  refine ⟨m * 2 ^ (2 * f.fracBits + 8) / m', m * 2 ^ (2 * f.fracBits + 8), e - e' - (2 * f.fracBits + 8 : Nat), ?_, ?_,
    Nat.div_mul_le_self _ _, ?_, ?_⟩
  · rw [← hsticky]
    rfl
  · rw [mul_assoc, ← zpow_add₀ two_ne_zero, Nat.cast_mul, Nat.cast_pow, mul_assoc, Nat.cast_ofNat, ← zpow_natCast,
      ← zpow_add₀ two_ne_zero]
    congr 2
    ring
  · exact (Nat.lt_mul_div_succ _ hpos).trans_eq (Nat.mul_comm ..)
  · rw [Nat.le_div_iff_mul_le hpos]
    calc 2 ^ (f.fracBits + 1) * m' ≤ 2 ^ (f.fracBits + 1) * 2 ^ (f.fracBits + 1) := Nat.mul_le_mul_left _ hhigh'.le
      _ ≤ 2 ^ f.fracBits * 2 ^ (2 * f.fracBits + 8) := by
        rw [← pow_add, ← pow_add]
        exact Nat.pow_le_pow_right two_pos (by omega)
      _ ≤ m * 2 ^ (2 * f.fracBits + 8) := Nat.mul_le_mul_right _ hlow

/-- A division that raises nothing is exact. -/
theorem fpDiv_exact {a b : Nat} (hx : (unpack f a).Ordinary) (hy : (unpack f b).Ordinary)
    (h : (fpDiv f false c (unpack f a) (unpack f b)).cond = 0) :
    (unpack f (fpDiv f false c (unpack f a) (unpack f b)).bits).finite ∧ (unpack f b).toRat ≠ 0 ∧
      (unpack f (fpDiv f false c (unpack f a) (unpack f b)).bits).toRat * (unpack f b).toRat = (unpack f a).toRat := by
  rcases ordinary_unpack_iff.mp hx with ⟨p, hp⟩ | ⟨p, m, e, hp⟩ <;>
    rcases ordinary_unpack_iff.mp hy with ⟨q, hq⟩ | ⟨q, m', e', hq⟩
  · rw [hp, hq] at h
    exact absurd h (show condV ≠ 0 by decide)
  · have hresult : unpack f (fpDiv f false c (unpack f a) (unpack f b)).bits = .zero (p != q) := by
      rw [hp, hq]
      exact unpack_packZero f _
    rw [hresult, hp, FpValue.toRat_zero, FpValue.toRat_zero, zero_mul]
    refine ⟨trivial, ?_, rfl⟩
    rw [Ne, FpValue.toRat_eq_zero, hq]
    exact ((Nat.two_pow_pos _).trans_le (unpack_normal hq).1).ne'
  · rw [hp, hq] at h
    exact absurd h (show condZ ≠ 0 by decide)
  · obtain ⟨quot, num, k, heq, hvalue, -, -, hquot⟩ :=
      fpDiv_normal (p := p) (q := q) c (unpack_normal hp) (unpack_normal hq)
    have hm' : 0 < m' := (Nat.two_pow_pos _).trans_le (unpack_normal hq).1
    rw [hp, hq, heq] at h ⊢
    obtain ⟨hsticky, hfinite, hresult⟩ := deliver_sticky_exact ((Nat.two_pow_pos _).trans_le hquot) h
    refine ⟨hfinite, by rw [Ne, FpValue.toRat_eq_zero]; exact hm'.ne', ?_⟩
    have hnum : (num : ℚ) = quot * m' := by exact_mod_cast (by simpa using hsticky : quot * m' = num).symm
    have hsign : signFactor (p != q) * signFactor q = signFactor p := by cases p <;> cases q <;> simp
    rw [hresult, FpValue.toRat_normal, FpValue.toRat_normal, hvalue, hnum, ← hsign]
    ring

/-! ### Leading bits, stated of integers -/

/-- The square of the root and the number, in units of the last place of the root. -/
theorem sqrt_leading {n : Int} {k : Nat} (c : FpControl) (hm : 2 ^ f.fracBits ≤ m) (hn : (m : ℚ) * 2 ^ e = |(n : ℚ)| / 2 ^ k) :
    ∃ (mag : Nat) (exp : Int) (sticky : Bool), fpSqrt f false c (.normal false m e) = deliver f c false mag exp sticky ∧
      2 ^ (f.fracBits + 1) ≤ mag ∧
      (mag * 2 ^ exp.toNat) ^ 2 * 2 ^ k ≤ n.natAbs * 2 ^ (2 * (-exp).toNat) ∧
      n.natAbs * 2 ^ (2 * (-exp).toNat) < ((mag + 1) * 2 ^ exp.toNat) ^ 2 * 2 ^ k ∧
      (sticky = false ↔ (mag * 2 ^ exp.toNat) ^ 2 * 2 ^ k = n.natAbs * 2 ^ (2 * (-exp).toNat)) := by
  obtain ⟨root, num, exp, heq, hvalue, hlow, hhigh, hroot⟩ := fpSqrt_normal (e := e) c hm
  have hunit : 0 < (2 ^ exp.toNat) ^ 2 * 2 ^ k := by positivity
  have htarget : n.natAbs * 2 ^ (2 * (-exp).toNat) = num * ((2 ^ exp.toNat) ^ 2 * 2 ^ k) := by
    have habs : |(n : ℚ)| = num * (2 ^ exp) ^ 2 * 2 ^ k := by rw [← hvalue, hn, div_mul_cancel₀ _ (by positivity)]
    rw [← @Nat.cast_inj ℚ]
    push_cast
    rw [Nat.cast_natAbs, Int.cast_abs, habs, ← two_zpow_split exp, pow_mul', mul_pow]
    ring
  have hsquare : ∀ u : Nat, (u * 2 ^ exp.toNat) ^ 2 * 2 ^ k = u * u * ((2 ^ exp.toNat) ^ 2 * 2 ^ k) := fun u => by ring
  refine ⟨root, exp, _, heq, hroot, ?_, ?_, ?_⟩
  · rw [hsquare, htarget]
    exact Nat.mul_le_mul_right _ hlow
  · rw [hsquare, htarget]
    exact Nat.mul_lt_mul_of_pos_right hhigh hunit
  · rw [hsquare, htarget, Nat.mul_left_inj hunit.ne']
    simp

/-- The quotient times the divisor and the dividend, in units of the last place of the quotient. -/
theorem div_leading {n n' : Int} {k : Nat} (c : FpControl) (hx : f.InRange m e) (hy : f.InRange m' e')
    (hn : (m : ℚ) * 2 ^ e = |(n : ℚ)| / 2 ^ k) (hn' : (m' : ℚ) * 2 ^ e' = |(n' : ℚ)| / 2 ^ k) :
    ∃ (mag : Nat) (exp : Int) (sticky : Bool),
      fpDiv f false c (.normal p m e) (.normal q m' e') = deliver f c (p != q) mag exp sticky ∧
      2 ^ (f.fracBits + 1) ≤ mag ∧
      mag * 2 ^ exp.toNat * n'.natAbs ≤ n.natAbs * 2 ^ (-exp).toNat ∧
      n.natAbs * 2 ^ (-exp).toNat < (mag + 1) * 2 ^ exp.toNat * n'.natAbs ∧
      (sticky = false ↔ mag * 2 ^ exp.toNat * n'.natAbs = n.natAbs * 2 ^ (-exp).toNat) := by
  obtain ⟨quot, num, exp, heq, hvalue, hlow, hhigh, hquot⟩ := fpDiv_normal (p := p) (q := q) c hx hy
  have hm' : 0 < m' := (Nat.two_pow_pos _).trans_le hy.1
  have habs' : |(n' : ℚ)| = m' * 2 ^ e' * 2 ^ k := by rw [hn', div_mul_cancel₀ _ (by positivity)]
  have hpos : 0 < n'.natAbs := by
    rw [← @Nat.cast_pos ℚ, Nat.cast_natAbs, Int.cast_abs, habs']
    positivity
  have htarget : n.natAbs * 2 ^ (-exp).toNat * m' = num * (2 ^ exp.toNat * n'.natAbs) := by
    have habs : |(n : ℚ)| = num * 2 ^ exp * 2 ^ e' * 2 ^ k := by rw [← hvalue, hn, div_mul_cancel₀ _ (by positivity)]
    rw [← @Nat.cast_inj ℚ]
    push_cast
    rw [Nat.cast_natAbs, Nat.cast_natAbs, Int.cast_abs, Int.cast_abs, habs, habs', ← two_zpow_split exp]
    ring
  have hproduct : ∀ u : Nat, u * 2 ^ exp.toNat * n'.natAbs * m' = u * m' * (2 ^ exp.toNat * n'.natAbs) := fun u => by ring
  have hunit : 0 < 2 ^ exp.toNat * n'.natAbs := by positivity
  refine ⟨quot, exp, _, heq, hquot, ?_, ?_, ?_⟩
  · refine Nat.le_of_mul_le_mul_right ?_ hm'
    rw [hproduct, htarget]
    exact Nat.mul_le_mul_right _ hlow
  · refine Nat.lt_of_mul_lt_mul_right (a := m') ?_
    rw [hproduct, htarget]
    exact Nat.mul_lt_mul_of_pos_right hhigh hunit
  · rw [← Nat.mul_left_inj (b := _ * _ * _) hm'.ne', hproduct, htarget, Nat.mul_left_inj hunit.ne']
    simp

end Sys2Proof.Machine
end

section
/-! SUPPORT. Conversions to an integer (R510). -/

namespace Sys2Proof.Machine

variable {f g : FpFormat} {c : FpControl} {x y z : FpValue} {w k : Nat} {n : Int} {rm : BitVec 2}

/-! ### Conversions to an integer -/

theorem roundToInteger_rounded (rm : BitVec 2) (neg : Bool) (mag : Nat) (exp : Int) :
    Rounded rm neg (roundToInteger rm neg mag exp).1 (roundToInteger rm neg mag exp).1 (mag * 2 ^ exp) 1 ∧
      ((roundToInteger rm neg mag exp).2 = true ↔ ((roundToInteger rm neg mag exp).1 : ℚ) ≠ mag * 2 ^ exp) := by
  unfold roundToInteger
  split
  · next h =>
    have heq : (mag : ℚ) * 2 ^ exp = (mag * 2 ^ exp.toNat : Nat) := by
      push_cast
      rw [two_pow_toNat h]
    rw [heq]
    exact ⟨rounded_self _, by simp⟩
  · next h =>
    have heq : (mag : ℚ) * 2 ^ exp = mag / 2 ^ (-exp).toNat := by
      rw [two_pow_toNat (by omega), zpow_neg, div_inv_eq_mul]
    rw [heq]
    exact ⟨(roundShift_rounded rm neg mag _).1, roundShift_inexact rm neg mag _⟩

/-- The sign of a number other than 0. -/
theorem neg_eq_of_toRat {p : Bool} {m : Nat} {e : Int} (hm : 0 < m) (hn : (FpValue.normal p m e).toRat = n / 2 ^ k) :
    p = decide (n < 0) := by
  rw [Bool.eq_iff_iff, decide_eq_true_iff, ← FpValue.toRat_normal_lt (n := p) (e := e) hm, hn,
    div_lt_iff₀ (by positivity), zero_mul, Int.cast_lt_zero]

theorem mag_eq_of_toRat (hn : x.toRat = n / 2 ^ k) : (x.mag : ℚ) * 2 ^ x.exp = |(n : ℚ)| / 2 ^ k := by
  rw [← FpValue.abs_toRat, hn, abs_div, abs_of_pos (show (0 : ℚ) < 2 ^ k by positivity)]

theorem roundShift_zero (rm : BitVec 2) (neg : Bool) (k : Nat) : roundShift rm neg 0 k false = (0, false) := by
  obtain ⟨hrounded, hflag⟩ := roundShift_rounded rm neg 0 k
  rw [Nat.cast_zero, zero_div, ← Nat.cast_zero] at hrounded
  refine Prod.ext (hrounded.unique (rounded_self 0)) (Bool.eq_false_iff.mpr (mt hflag.mp ?_))
  simp

/-- A number and its integer over a power of two are rounded alike. -/
theorem roundToInteger_eq (hx : x.Ordinary) (hn : x.toRat = n / 2 ^ k) :
    roundToInteger rm x.neg x.mag x.exp = roundShift rm (decide (n < 0)) n.natAbs k false ∧
      (n ≠ 0 → x.neg = decide (n < 0)) := by
  rcases hx with ⟨p, rfl⟩ | ⟨p, m, e, hm, rfl⟩
  · have hzero : n = 0 := by simpa using hn.symm
    rw [hzero]
    exact ⟨(roundShift_zero ..).symm, fun h => absurd rfl h⟩
  · have hsign := neg_eq_of_toRat hm hn
    have hmag : (n.natAbs : ℚ) / 2 ^ k = m * 2 ^ e := by
      rw [Nat.cast_natAbs, Int.cast_abs]
      exact (mag_eq_of_toRat hn).symm
    obtain ⟨hrounded, hflag⟩ := roundToInteger_rounded rm p m e
    have hrounded' := (roundShift_rounded rm p n.natAbs k).1
    have hflag' := roundShift_inexact rm p n.natAbs k
    rw [hmag] at hrounded' hflag'
    have hnumber := hrounded.unique hrounded'
    rw [hnumber] at hflag
    rw [← hsign]
    exact ⟨Prod.ext hnumber (Bool.eq_iff_iff.mpr (hflag.trans hflag'.symm)), fun _ => rfl⟩

theorem two_pow_width (hw : 0 < w) : 2 ^ w = 2 * 2 ^ (w - 1) := by rw [← Nat.pow_succ']; congr 1; omega

theorem toInt_ofNat_of_lt (hw : 0 < w) {q : Nat} (h : q < 2 ^ (w - 1)) : (BitVec.ofNat w q).toInt = q := by
  have hpow := two_pow_width hw
  rw [BitVec.toInt_eq_toNat_cond, BitVec.toNat_ofNat, Nat.mod_eq_of_lt (by omega), if_pos (by omega)]

theorem toInt_ofNat_negated (hw : 0 < w) {q : Nat} (h : q ≤ 2 ^ (w - 1)) :
    (BitVec.ofNat w ((2 ^ w - q) % 2 ^ w)).toInt = -(q : Int) := by
  have hpow := two_pow_width hw
  rw [BitVec.toInt_eq_toNat_cond, BitVec.toNat_ofNat, Nat.mod_mod]
  rcases Nat.eq_zero_or_pos q with rfl | hq
  · simp
  · rw [Nat.mod_eq_of_lt (by omega), if_neg (by omega)]
    omega

/-- The most negative and the most positive integer (D33). -/
theorem toInt_saturated (hw : 0 < w) (neg : Bool) :
    (BitVec.ofNat w (saturated w neg)).toInt = if neg then -(2 ^ (w - 1)) else 2 ^ (w - 1) - 1 := by
  have hpow := two_pow_width hw
  have hpos : 0 < 2 ^ (w - 1) := Nat.two_pow_pos _
  cases neg
  · rw [saturated, if_neg (by decide), if_neg (by decide), toInt_ofNat_of_lt hw (by omega)]
    push_cast [Nat.one_le_two_pow]
    rfl
  · have h := toInt_ofNat_negated hw (le_refl (2 ^ (w - 1)))
    rw [Nat.mod_eq_of_lt (by omega), show 2 ^ w - 2 ^ (w - 1) = 2 ^ (w - 1) by omega] at h
    rw [saturated, if_pos rfl, if_pos rfl, h]
    push_cast
    rfl

/-- The magnitude `q` with the sign `neg` has no place in `w` bits. -/
def OutOfRange (w : Nat) (neg : Bool) (q : Nat) : Prop := if neg then 2 ^ (w - 1) < q else 2 ^ (w - 1) ≤ q

theorem fpToInt_eq (hx : x.Ordinary) (w : Nat) (rm : BitVec 2) :
    (OutOfRange w x.neg (roundToInteger rm x.neg x.mag x.exp).1 →
        fpToInt w rm x = { cond := condV, bits := saturated w x.neg }) ∧
      (¬ OutOfRange w x.neg (roundToInteger rm x.neg x.mag x.exp).1 → fpToInt w rm x =
        { cond := if (roundToInteger rm x.neg x.mag x.exp).2 then condI else 0
          bits := if x.neg then (2 ^ w - (roundToInteger rm x.neg x.mag x.exp).1) % 2 ^ w
            else (roundToInteger rm x.neg x.mag x.exp).1 }) := by
  have heq : fpToInt w rm x =
      if (if x.neg then decide (2 ^ (w - 1) < (roundToInteger rm x.neg x.mag x.exp).1)
          else decide (2 ^ (w - 1) ≤ (roundToInteger rm x.neg x.mag x.exp).1)) then
        { cond := condV, bits := saturated w x.neg }
      else
        { cond := if (roundToInteger rm x.neg x.mag x.exp).2 then condI else 0
          bits := if x.neg then (2 ^ w - (roundToInteger rm x.neg x.mag x.exp).1) % 2 ^ w
            else (roundToInteger rm x.neg x.mag x.exp).1 } := by
    rcases hx with ⟨p, rfl⟩ | ⟨p, m, e, hm, rfl⟩ <;> rfl
  have hcheck : (if x.neg then decide (2 ^ (w - 1) < (roundToInteger rm x.neg x.mag x.exp).1)
      else decide (2 ^ (w - 1) ≤ (roundToInteger rm x.neg x.mag x.exp).1)) = true ↔
        OutOfRange w x.neg (roundToInteger rm x.neg x.mag x.exp).1 := by
    unfold OutOfRange
    split <;> exact decide_eq_true_iff
  rw [heq]
  exact ⟨fun h => if_pos (hcheck.mpr h), fun h => if_neg (mt hcheck.mp h)⟩

theorem not_outOfRange_iff (w q : Nat) (neg : Bool) :
    ¬ OutOfRange w neg q ↔
      -(2 ^ (w - 1)) ≤ (if neg then -(q : Int) else q) ∧ (if neg then -(q : Int) else q) < 2 ^ (w - 1) := by
  have hpow : ((2 ^ (w - 1) : Nat) : Int) = 2 ^ (w - 1) := by push_cast; rfl
  have hpos : 0 < 2 ^ (w - 1) := Nat.two_pow_pos _
  unfold OutOfRange
  rw [← hpow]
  cases neg
  · simp only [Bool.false_eq_true, if_false]
    omega
  · simp only [if_true]
    omega

/-- A conversion of a number to an integer of `w` bits (R510). -/
theorem fpToInt_rounds (hx : x.Ordinary) (hn : x.toRat = n / 2 ^ k) (hw : 0 < w) {q : Nat × Bool} {i : Int}
    (hq : roundShift rm (decide (n < 0)) n.natAbs k false = q) (hi : (if n < 0 then -(q.1 : Int) else q.1) = i) :
    (-(2 ^ (w - 1)) ≤ i ∧ i < 2 ^ (w - 1) →
        (fpToInt w rm x).cond = (if q.2 then condI else 0) ∧ (BitVec.ofNat w (fpToInt w rm x).bits).toInt = i) ∧
      (¬ (-(2 ^ (w - 1)) ≤ i ∧ i < 2 ^ (w - 1)) → (fpToInt w rm x).cond = condV ∧
        (BitVec.ofNat w (fpToInt w rm x).bits).toInt = if n < 0 then -(2 ^ (w - 1)) else 2 ^ (w - 1) - 1) := by
  obtain ⟨hround, hsign⟩ := roundToInteger_eq (rm := rm) hx hn
  obtain ⟨hout, hin⟩ := fpToInt_eq hx w rm
  rw [hround, hq] at hout hin
  have hzero : n = 0 → q.1 = 0 := by
    rintro rfl
    rw [← hq, Int.natAbs_zero, roundShift_zero]
  have hi' : (if x.neg then -(q.1 : Int) else q.1) = i := by
    by_cases h0 : n = 0
    · simp [← hi, hzero h0]
    · rw [← hi, hsign h0]
      simp
  rw [← hi', ← not_outOfRange_iff, not_not]
  refine ⟨fun h => ?_, fun h => ?_⟩
  · rw [hin h]
    refine ⟨rfl, ?_⟩
    cases hneg : x.neg
    · have hlt : q.1 < 2 ^ (w - 1) := by simpa [OutOfRange, hneg] using h
      exact toInt_ofNat_of_lt hw hlt
    · have hle : q.1 ≤ 2 ^ (w - 1) := by simpa [OutOfRange, hneg] using h
      exact toInt_ofNat_negated hw hle
  · have h0 : n ≠ 0 := by
      intro h0
      rw [OutOfRange, hzero h0] at h
      have hpos : 0 < 2 ^ (w - 1) := Nat.two_pow_pos _
      split at h <;> omega
    rw [hout h, hsign h0]
    refine ⟨rfl, (toInt_saturated hw _).trans ?_⟩
    simp

/-- A conversion to an integer that raises nothing is exact. -/
theorem fpToInt_exact (hx : x.Ordinary) (hn : x.toRat = n / 2 ^ k) (hw : 0 < w) (h : (fpToInt w rm x).cond = 0) :
    (BitVec.ofNat w (fpToInt w rm x).bits).toInt * 2 ^ k = n := by
  obtain ⟨q, hq⟩ : ∃ q, roundShift rm (decide (n < 0)) n.natAbs k false = q := ⟨_, rfl⟩
  obtain ⟨i, hi⟩ : ∃ i : Int, (if n < 0 then -(q.1 : Int) else q.1) = i := ⟨_, rfl⟩
  obtain ⟨hin, hout⟩ := fpToInt_rounds hx hn hw hq hi
  by_cases hrange : -(2 ^ (w - 1)) ≤ i ∧ i < 2 ^ (w - 1)
  · obtain ⟨hcond, hvalue⟩ := hin hrange
    have hexact : ¬ q.2 = true := by
      intro hinexact
      rw [h, if_pos hinexact] at hcond
      exact absurd hcond (by decide)
    rw [← hq, roundShift_inexact, hq, not_not, eq_div_iff (by positivity)] at hexact
    have hmag : (q.1 : Int) * 2 ^ k = n.natAbs := by exact_mod_cast hexact
    rw [hvalue, ← hi]
    split
    · rw [neg_mul, hmag]
      omega
    · rw [hmag]
      omega
  · rw [(hout hrange).1] at h
    exact absurd h (by decide)

end Sys2Proof.Machine
end

section
/-! The exact values that the operations deliver (R483, R490, R500 to R504, R510, R521, R522, R589): `FpExactResults`. -/

namespace Sys2Proof.Machine

variable {f g : FpFormat} {c : FpControl} {x y z : FpValue} {k : Nat} {n m p : Int} {a : Nat}

/-! ### The operations on numbers over a power of two -/

theorem fpAdd_eq (hx : x.Number) (hy : y.Number) : fpAdd f c x y = addValues f c x y :=
  screen_passed (by simp [hx.screened, hy.screened])

theorem FpValue.Number.negate (h : x.Number) : x.negate.Number := by
  rcases h with h | ⟨n, rfl⟩
  · exact .inl h.negate
  · exact .inr ⟨_, rfl⟩

theorem fpSub_eq (hx : x.Number) (hy : y.Number) : fpSub f c x y = addValues f c x y.negate :=
  screen_passed (by simp [hx.screened, hy.screened])

theorem toRat_eq_zero_iff (hn : x.toRat = n / 2 ^ k) : x.toRat = 0 ↔ n = 0 := by simp [hn]

theorem fpAdd_rounds (hx : x.Ordinary) (hy : y.Ordinary) (hn : x.toRat = n / 2 ^ k) (hm : y.toRat = m / 2 ^ k) :
    (fpAdd f c x y).Rounds f c ((n + m : Int) / 2 ^ k) (if n = 0 ∧ x.neg = y.neg then x.neg else c.rm == 3) := by
  have h := addValues_rounds (f := f) (c := c) hx hy
  simp only [toRat_eq_zero_iff hn] at h
  rwa [fpAdd_eq (.inl hx) (.inl hy), Int.cast_add, add_div, ← hn, ← hm]

theorem toRat_negate_eq (hm : y.toRat = m / 2 ^ k) : y.negate.toRat = (-m : Int) / 2 ^ k := by
  rw [FpValue.toRat_negate, hm, Int.cast_neg, neg_div]

theorem fpSub_rounds (hx : x.Ordinary) (hy : y.Ordinary) (hn : x.toRat = n / 2 ^ k) (hm : y.toRat = m / 2 ^ k) :
    (fpSub f c x y).Rounds f c ((n - m : Int) / 2 ^ k) (if n = 0 ∧ x.neg = !y.neg then x.neg else c.rm == 3) := by
  have h := fpAdd_rounds (f := f) (c := c) hx hy.negate hn (toRat_negate_eq hm)
  rwa [fpAdd_eq (.inl hx) (.inl hy.negate), ← fpSub_eq (.inl hx) (.inl hy), ← sub_eq_add_neg, FpValue.neg_negate] at h

theorem fpMul_rounds (hx : x.Ordinary) (hy : y.Ordinary) (hn : x.toRat = n / 2 ^ k) (hm : y.toRat = m / 2 ^ k) :
    (fpMul f c x y).Rounds f c ((n * m : Int) / 2 ^ (2 * k)) (x.neg != y.neg) := by
  have h := mulValues_rounds (f := f) (c := c) hx hy
  rwa [fpMul_eq (.inl hx) (.inl hy), Int.cast_mul, Nat.two_mul, pow_add, mul_div_mul_comm, ← hn, ← hm]

theorem fpToFp_rounds_of_toRat (hx : x.Ordinary) (hn : x.toRat = n / 2 ^ k) :
    (fpToFp f c x).Rounds f c (n / 2 ^ k) x.neg := hn ▸ fpToFp_rounds hx

theorem intToFp_rounds_over (f : FpFormat) (c : FpControl) (i : Int) : (intToFp f c i).Rounds f c (i / 2 ^ 0) false := by
  rw [pow_zero, div_one]
  exact intToFp_rounds f c i

/-! ### Multiply-adds -/

variable {minus negate : Bool}

/-- The addend as the form takes it. -/
theorem addend_ordinary (hz : z.Ordinary) (minus : Bool) : (if minus then z.negate else z).Ordinary := by
  cases minus
  · exact hz
  · exact hz.negate

theorem addend_toRat (z : FpValue) (minus : Bool) : (if minus then z.negate else z).toRat = signFactor minus * z.toRat := by
  cases minus
  · exact (one_mul _).symm
  · exact (FpValue.toRat_negate z).trans (neg_one_mul _).symm

theorem addend_neg (z : FpValue) (minus : Bool) :
    (if minus then z.negate else z).neg = if minus then !z.neg else z.neg := by
  cases minus
  · rfl
  · exact FpValue.neg_negate z

/-- One rounding. -/
theorem maddResult_rounds (hf : c.fused = true) (hx : x.Ordinary) (hy : y.Ordinary) (hz : z.Ordinary) :
    (maddResult f minus c z x y).Rounds f c (x.toRat * y.toRat + signFactor minus * z.toRat)
      (if z.toRat = 0 ∧ (x.neg != y.neg) = (if minus then !z.neg else z.neg) then x.neg != y.neg else c.rm == 3) := by
  have h := fusedValues_rounds (f := f) (c := c) hx hy (addend_ordinary hz minus)
  rw [addend_toRat] at h
  simp only [mul_eq_zero, signFactor_ne_zero, false_or, addend_neg] at h
  rwa [maddResult_eq (.inl hz) (.inl hx) (.inl hy), maddValues, if_pos hf]

/-- A multiply-add that raises nothing is exact, whether it rounds once or twice. -/
theorem maddResult_exact (hx : x.Ordinary) (hy : y.Ordinary) (hz : z.Ordinary) (h : (maddResult f minus c z x y).cond = 0) :
    (unpack f (maddResult f minus c z x y).bits).Ordinary ∧
      (unpack f (maddResult f minus c z x y).bits).toRat = x.toRat * y.toRat + signFactor minus * z.toRat := by
  by_cases hf : c.fused = true
  · exact (maddResult_rounds hf hx hy hz).exact h
  · rw [maddResult_eq (.inl hz) (.inl hx) (.inl hy), maddValues, if_neg hf] at h ⊢
    obtain ⟨hordinary, hvalue⟩ := twoStepValues_exact hx hy (addend_ordinary hz minus) h
    exact ⟨hordinary, hvalue.trans (by rw [addend_toRat])⟩

theorem fpMadd_exact (hx : x.Ordinary) (hy : y.Ordinary) (hz : z.Ordinary)
    (h : (fpMadd f minus negate c z x y).cond = 0) :
    (unpack f (fpMadd f minus negate c z x y).bits).finite ∧
      (unpack f (fpMadd f minus negate c z x y).bits).toRat =
        signFactor negate * (x.toRat * y.toRat + signFactor minus * z.toRat) := by
  rw [cond_fpMadd] at h
  obtain ⟨hordinary, hvalue⟩ := maddResult_exact hx hy hz h
  rw [unpack_fpMadd (by rw [h]; rfl), addend_toRat, hvalue]
  exact ⟨(addend_ordinary hordinary negate).finite, rfl⟩

/-- A multiply-add with one rounding raises nothing if the format has its exact value or the negative of it. -/
theorem fpMadd_clean (hf : c.fused = true) (hx : x.Ordinary) (hy : y.Ordinary) (hz : z.Ordinary)
    (ha : (unpack f a).Ordinary)
    (hv : (unpack f a).toRat = signFactor negate * (x.toRat * y.toRat + signFactor minus * z.toRat)) :
    (fpMadd f minus negate c z x y).cond = 0 := by
  rw [cond_fpMadd]
  have hrounds := maddResult_rounds (f := f) (minus := minus) hf hx hy hz
  cases negate
  · exact hrounds.clean ha (hv.trans (one_mul _))
  · refine hrounds.clean (a := flipSign f a) ?_ ?_
    · rw [unpack_flipSign]
      exact ha.negate
    · rw [unpack_flipSign, FpValue.toRat_negate, hv, signFactor_true, neg_one_mul, neg_neg]

theorem fpMadd_not_negated (f : FpFormat) (minus : Bool) (c : FpControl) (z x y : FpValue) :
    fpMadd f minus false c z x y = maddResult f minus c z x y := by
  rw [fpMadd_eq]
  rfl

/-- The conditions of two operations of which the second works on the result of the first (R589). -/
def joinResults (product sum : FpResult) : FpResult :=
  if product.cond = condE then product else if sum.cond = condE then sum
  else { cond := sum.cond ||| product.cond, bits := sum.bits }

/-- Two roundings. -/
theorem fpMadd_twoStep (hf : c.fused = false) (hx : x.Ordinary) (hy : y.Ordinary) (hz : z.Ordinary) :
    fpMadd f false false c z x y = joinResults (fpMul f c x y) (fpAdd f c (unpack f (fpMul f c x y).bits) z) ∧
      fpMadd f true false c z x y = joinResults (fpMul f c x y) (fpSub f c (unpack f (fpMul f c x y).bits) z) := by
  have key : ∀ minus, fpMadd f minus false c z x y = joinResults (mulValues f c x y)
      (addValues f c (unpack f (mulValues f c x y).bits) (if minus then z.negate else z)) := fun minus => by
    rw [fpMadd_not_negated, maddResult_eq (.inl hz) (.inl hx) (.inl hy), maddValues, hf, if_neg (by decide),
      twoStepValues_joined hx hy (.inl (addend_ordinary hz minus))]
    rfl
  rw [fpMul_eq (.inl hx) (.inl hy), key, key]
  rcases mulValues_cond (f := f) (c := c) hx hy with hE | ⟨-, hnumber⟩
  · simp only [joinResults, if_pos hE, true_and]
  · rw [fpAdd_eq hnumber (.inl hz), fpSub_eq hnumber (.inl hz)]
    exact ⟨rfl, rfl⟩

/-! ### Numbers other than 0, and small integers -/

theorem normal_of_ne_zero (hx : (unpack f a).Ordinary) (hn : (unpack f a).toRat = n / 2 ^ k) (h0 : n ≠ 0) :
    ∃ m e, unpack f a = .normal (decide (n < 0)) m e ∧ f.InRange m e ∧ (m : ℚ) * 2 ^ e = |(n : ℚ)| / 2 ^ k := by
  rcases ordinary_unpack_iff.mp hx with ⟨p, hp⟩ | ⟨p, m, e, hp⟩
  · rw [hp, FpValue.toRat_zero] at hn
    exact absurd (by simpa using hn.symm) h0
  · have hrange := unpack_normal hp
    have hmag := mag_eq_of_toRat hn
    rw [hp] at hn hmag
    exact ⟨m, e, neg_eq_of_toRat ((Nat.two_pow_pos _).trans_le hrange.1) hn ▸ hp, hrange, hmag⟩

/-- An integer of no more bits than a significand, or the next power of two, is a number of the format. -/
theorem intToFp_clean (c : FpControl) {i : Int} (h : i.natAbs ≤ 2 ^ (g.fracBits + 1)) : (intToFp g c i).cond = 0 := by
  have hbias : g.emin ≤ 0 ∧ (g.fracBits : Int) + 1 ≤ g.bias := by cases g <;> decide
  unfold intToFp
  split
  · rfl
  · next h0 =>
    have hpos : 0 < i.natAbs := Int.natAbs_pos.mpr h0
    rcases Nat.lt_or_eq_of_le h with hlt | heq
    · have hlog : Nat.log2 i.natAbs < g.fracBits + 1 := (Nat.log2_lt hpos.ne').mpr hlt
      exact deliver_of_short (by omega) (by omega) (by omega)
    · have hhalf : (i.natAbs : ℚ) * 2 ^ (0 : Int) = (2 ^ g.fracBits : Nat) * 2 ^ (1 : Int) := by
        rw [heq]
        push_cast
        ring
      rw [deliver_congr hpos hhalf]
      exact deliver_cond_of_inRange ⟨le_rfl, Nat.pow_lt_pow_right (by decide) (Nat.lt_succ_self _), by omega, by omega⟩

theorem exists_hasValue {v : FpValue} (h : v.finite) : ∃ (r : Int) (j : Nat), v.hasValue r j :=
  ⟨_, (-v.exp).toNat, h, 0, by omega, (mul_one _).symm⟩

/-- The exact value of a multiply-add, over a power of two. -/
def maddInt (minus negate : Bool) (n m p : Int) (k : Nat) : Int :=
  if negate then -(if minus then n * m - p * 2 ^ k else n * m + p * 2 ^ k)
  else if minus then n * m - p * 2 ^ k else n * m + p * 2 ^ k

theorem maddInt_value (hx : x.toRat = n / 2 ^ k) (hy : y.toRat = m / 2 ^ k) (hz : z.toRat = p / 2 ^ k)
    (minus negate : Bool) :
    signFactor negate * (x.toRat * y.toRat + signFactor minus * z.toRat) =
      (maddInt minus negate n m p k : ℚ) / 2 ^ (2 * k) := by
  have hp : (p : ℚ) / 2 ^ k = p * 2 ^ k / 2 ^ (2 * k) := by
    rw [Nat.two_mul, pow_add, mul_div_mul_right _ _ (by positivity)]
  rw [hx, hy, hz, div_mul_div_comm, ← pow_add, ← Nat.two_mul, hp, maddInt]
  cases minus <;> cases negate <;> simp <;> ring

/-- A multiply-add with one rounding delivers its exact value. -/
theorem fpMadd_rounds (hf : c.fused = true) (hxo : x.Ordinary) (hyo : y.Ordinary) (hzo : z.Ordinary)
    (hx : x.toRat = n / 2 ^ k) (hy : y.toRat = m / 2 ^ k) (hz : z.toRat = p / 2 ^ k) :
    (fpMadd f minus false c z x y).Rounds f c ((maddInt minus false n m p k : Int) / 2 ^ (2 * k))
      (if p = 0 ∧ (x.neg != y.neg) = (if minus then !z.neg else z.neg) then x.neg != y.neg else c.rm == 3) := by
  have h := maddResult_rounds (f := f) (minus := minus) hf hxo hyo hzo
  simp only [toRat_eq_zero_iff hz] at h
  rwa [fpMadd_not_negated, ← maddInt_value hx hy hz, signFactor_false, one_mul]

theorem fpMadd_unimplemented (h : x.unimplemented = true ∨ y.unimplemented = true ∨ z.unimplemented = true) :
    (fpMadd f minus negate c z x y).cond = condE := by
  rw [cond_fpMadd, maddResult, screen_unimplemented]
  simpa [or_comm, or_assoc] using h

theorem unimplemented_of_cond {v : FpValue} {r : FpResult} (h : v.unimplemented = true → r.cond = condE)
    (h0 : r.cond = 0) : v.unimplemented = false :=
  Bool.eq_false_iff.mpr fun hv => absurd ((h hv).symm.trans h0) (by decide)

theorem decide_mul_neg (hn : n ≠ 0) (hm : m ≠ 0) : decide (n * m < 0) = (decide (n < 0) != decide (m < 0)) := by
  have hmul : n * m < 0 ↔ ¬ (n < 0 ↔ m < 0) := by
    rw [mul_neg_iff]
    omega
  rw [Bool.eq_iff_iff, decide_eq_true_iff, hmul, bne_iff_ne, ne_eq, Bool.eq_iff_iff, decide_eq_true_iff, decide_eq_true_iff]

/-- The exact quotient. -/
theorem fpDiv_quotient {b : Nat} (hx : (unpack f a).Ordinary) (hy : (unpack f b).Ordinary)
    (hn : (unpack f a).toRat = n / 2 ^ k) (hm : (unpack f b).toRat = m / 2 ^ k)
    (h : (fpDiv f false c (unpack f a) (unpack f b)).cond = 0) :
    ∃ (r : Int) (j : Nat), (unpack f (fpDiv f false c (unpack f a) (unpack f b)).bits).hasValue r j ∧ m ≠ 0 ∧
      r * m = n * 2 ^ j := by
  obtain ⟨hfinite, hne, hvalue⟩ := fpDiv_exact hx hy h
  obtain ⟨r, j, hr⟩ := exists_hasValue hfinite
  refine ⟨r, j, hr, mt (toRat_eq_zero_iff hm).mpr hne, ?_⟩
  rw [(FpValue.hasValue_iff.mp hr).2, hm, hn, ← mul_div_assoc, div_left_inj' (by positivity), div_mul_eq_mul_div,
    div_eq_iff (by positivity)] at hvalue
  exact_mod_cast hvalue

/-- The exact root. -/
theorem fpSqrt_root (hx : (unpack f a).Ordinary) (hn : (unpack f a).toRat = n / 2 ^ k)
    (h : (fpSqrt f false c (unpack f a)).cond = 0) :
    ∃ (r : Int) (j : Nat), (unpack f (fpSqrt f false c (unpack f a)).bits).hasValue r j ∧ 0 ≤ r ∧
      r * r * 2 ^ k = n * 2 ^ (2 * j) := by
  obtain ⟨hfinite, hpos, hvalue⟩ := fpSqrt_exact hx h
  obtain ⟨r, j, hr⟩ := exists_hasValue hfinite
  rw [(FpValue.hasValue_iff.mp hr).2] at hpos hvalue
  refine ⟨r, j, hr, ?_, ?_⟩
  · rw [le_div_iff₀ (by positivity), zero_mul] at hpos
    exact_mod_cast hpos
  · rw [hn, div_pow, div_eq_div_iff (by positivity) (by positivity), ← pow_mul', pow_two (r : ℚ)] at hvalue
    exact_mod_cast hvalue

/-- Settles O58: an operation on numbers delivers its exact value (`FpResult.Rounds`), or its leading bits; one on an
operand that is no number raises E. -/
theorem fpExactResults : Obligations.FpExactResults := by
  unfold Obligations.FpExactResults
  intro f g c a b d n m p k hxv hyv hzv x y ordinary exact clean z rounds zeroSum leading
  obtain ⟨hxf, hx⟩ := FpValue.hasValue_iff.mp hxv
  obtain ⟨hyf, hy⟩ := FpValue.hasValue_iff.mp hyv
  obtain ⟨hzf, hz⟩ := FpValue.hasValue_iff.mp hzv
  have hord : ∀ {a}, (unpack f a).finite → ordinary (unpack f a) → (unpack f a).Ordinary := ordinary_of_finite
  have hclean : ∀ {h r v j s}, FpResult.Rounds r h c ((v : Int) / 2 ^ j) s → clean h r v j := by
    rintro h r v j s hr ⟨w, hw, hvalue⟩
    obtain ⟨hfinite, hvalue⟩ := FpValue.hasValue_iff.mp hvalue
    exact hr.clean (ordinary_of_finite hfinite hw) hvalue
  have hexact : ∀ {h r v j s}, FpResult.Rounds r h c ((v : Int) / 2 ^ j) s → exact h r v j := by
    intro h r v j s hr hcond
    obtain ⟨hordinary, hvalue⟩ := hr.exact hcond
    exact FpValue.hasValue_iff.mpr ⟨hordinary.finite, hvalue⟩
  have hbinary : ∀ {r : FpResult}, (x.unimplemented = true ∨ y.unimplemented = true → r.cond = condE) → r.cond = 0 →
      x.Ordinary ∧ y.Ordinary := fun h h0 =>
    ⟨hord hxf (unimplemented_of_cond (fun hv => h (.inl hv)) h0), hord hyf (unimplemented_of_cond (fun hv => h (.inr hv)) h0)⟩
  have hmadd : ∀ minus negate, (fpMadd f minus negate c z x y).cond = 0 →
      (unpack f (fpMadd f minus negate c z x y).bits).finite ∧
        (unpack f (fpMadd f minus negate c z x y).bits).toRat =
          signFactor negate * (x.toRat * y.toRat + signFactor minus * z.toRat) := fun minus negate h =>
    fpMadd_exact (hord hxf (unimplemented_of_cond (fun hv => fpMadd_unimplemented (.inl hv)) h))
      (hord hyf (unimplemented_of_cond (fun hv => fpMadd_unimplemented (.inr (.inl hv))) h))
      (hord hzf (unimplemented_of_cond (fun hv => fpMadd_unimplemented (.inr (.inr hv))) h)) h
  have hmaddExact : ∀ minus negate, exact f (fpMadd f minus negate c z x y) (maddInt minus negate n m p k) (2 * k) := by
    intro minus negate h
    obtain ⟨hfinite, hvalue⟩ := hmadd minus negate h
    exact FpValue.hasValue_iff.mpr ⟨hfinite, hvalue.trans (maddInt_value hx hy hz minus negate)⟩
  have hmaddClean : c.fused = true → x.Ordinary → y.Ordinary → z.Ordinary → ∀ minus negate,
      clean f (fpMadd f minus negate c z x y) (maddInt minus negate n m p k) (2 * k) := by
    rintro hf hxo hyo hzo minus negate ⟨w, hw, hwv⟩
    obtain ⟨hfinite, hvalue⟩ := FpValue.hasValue_iff.mp hwv
    exact fpMadd_clean hf hxo hyo hzo (ordinary_of_finite hfinite hw) (hvalue.trans (maddInt_value hx hy hz ..).symm)
  refine ⟨fun h => ?_, fun h => ?_, fun h => ?_, fun hxo hyo => ⟨?_, ?_, ?_⟩, fun h => ?_, fun h => ?_,
    hmaddExact false false, hmaddExact true false, hmaddExact false true, hmaddExact true true,
    fun hf hxo hyo hzo => ?_, fun h => ?_, fun hxo => ?_, fun rm h => ?_,
    fun rm h => ?_, fun i => ⟨?_, intToFp_clean c⟩, fun i => ?_,
    fun hxo => ⟨?_, fun w rm hw => ?_⟩, fun hxo h => ?_, fun hxo hyo => ⟨?_, ?_, ?_, fun hn0 hm0 => ?_⟩,
    fun hxo hyo hzo => ⟨?_, ?_, ?_⟩⟩
  · obtain ⟨hxo, hyo⟩ := hbinary fpAdd_unimplemented h
    exact hexact (fpAdd_rounds hxo hyo hx hy) h
  · obtain ⟨hxo, hyo⟩ := hbinary fpSub_unimplemented h
    exact hexact (fpSub_rounds hxo hyo hx hy) h
  · obtain ⟨hxo, hyo⟩ := hbinary fpMul_unimplemented h
    exact hexact (fpMul_rounds hxo hyo hx hy) h
  · exact hclean (fpAdd_rounds (hord hxf hxo) (hord hyf hyo) hx hy)
  · exact hclean (fpSub_rounds (hord hxf hxo) (hord hyf hyo) hx hy)
  · exact hclean (fpMul_rounds (hord hxf hxo) (hord hyf hyo) hx hy)
  · obtain ⟨hxo, hyo⟩ := hbinary fpDiv_unimplemented h
    exact fpDiv_quotient hxo hyo hx hy h
  · exact fpSqrt_root (hord hxf (unimplemented_of_cond fpSqrt_unimplemented h)) hx h
  · have h := hmaddClean hf (hord hxf hxo) (hord hyf hyo) (hord hzf hzo)
    exact ⟨h false false, h true false, h false true, h true true⟩
  · have hxo := hord hxf (unimplemented_of_cond fpToFp_unimplemented h)
    exact hexact (fpToFp_rounds_of_toRat hxo hx) h
  · exact hclean (fpToFp_rounds_of_toRat (hord hxf hxo) hx)
  · have hxo := hord hxf (unimplemented_of_cond (fun hv => fpToInt_unimplemented hv _ _) h)
    exact fpToInt_exact hxo hx (by decide) h
  · have hxo := hord hxf (unimplemented_of_cond (fun hv => fpToInt_unimplemented hv _ _) h)
    exact fpToInt_exact hxo hx (by decide) h
  · exact hexact (intToFp_rounds_over g c i)
  · exact (intToFp_rounds_over g c i).eq
  · exact (fpToFp_rounds_of_toRat (hord hxf hxo) hx).eq
  · exact fpToInt_rounds (hord hxf hxo) hx hw rfl rfl
  · obtain ⟨m', e, hxe, hrange, hmag⟩ := normal_of_ne_zero (hord hxf hxo) hx h.ne'
    rw [show x = _ from hxe, decide_eq_false h.not_gt]
    exact sqrt_leading c hrange.1 hmag
  · exact (fpAdd_rounds (hord hxf hxo) (hord hyf hyo) hx hy).eq
  · exact (fpSub_rounds (hord hxf hxo) (hord hyf hyo) hx hy).eq
  · exact (fpMul_rounds (hord hxf hxo) (hord hyf hyo) hx hy).eq
  · obtain ⟨m1, e1, hxe, hrange1, hmag1⟩ := normal_of_ne_zero (hord hxf hxo) hx hn0
    obtain ⟨m2, e2, hye, hrange2, hmag2⟩ := normal_of_ne_zero (hord hyf hyo) hy hm0
    rw [show x = _ from hxe, show y = _ from hye, decide_mul_neg hn0 hm0]
    exact div_leading c hrange1 hrange2 hmag1 hmag2
  · exact fun hf => ⟨(fpMadd_rounds (minus := false) hf (hord hxf hxo) (hord hyf hyo) (hord hzf hzo) hx hy hz).eq,
      (fpMadd_rounds (minus := true) hf (hord hxf hxo) (hord hyf hyo) (hord hzf hzo) hx hy hz).eq⟩
  · exact fun hf => fpMadd_twoStep hf (hord hxf hxo) (hord hyf hyo) (hord hzf hzo)
  · exact fun minus => ⟨by simp only [cond_fpMadd], fun h => unpack_fpMadd (negate := true) h⟩

end Sys2Proof.Machine
end
